-- ==== Sys2Proof/Word.lean ====
section
/-! DEFINITION. The word types of the VFS-2204 and the two line ports. -/

namespace Sys2Proof

/-- A byte of a frame (chapter 11: byte layouts of what crosses the wire). -/
abbrev Byte := BitVec 8

/-- A 16-bit field: a station address, a stream tag, a sequence number, a notice sequence number. -/
abbrev Half := BitVec 16

/-- The 32-bit, wrapping cycle index (section 5.1). -/
abbrev CycleIndex := BitVec 32

/-- A value of local time, or a span of it, in ticks of 10 ns (R80). -/
abbrev Ticks := Nat

/-- The two line ports, U and D. -/
inductive Port where
  | u
  | d
  deriving DecidableEq, Repr

/-- The other port: the egress port of a frame that arrived on this one. -/
def Port.other : Port → Port
  | .u => .d
  | .d => .u

/-- One of the four egress queues of a port: 0 to 2 are the data queues, 3 is the line-control queue. -/
abbrev QueueNo := Fin 4

/-- One of the data queues Q0 to Q2. -/
abbrev DataQueueNo := Fin 3

/-- An index of the Stream Table. -/
abbrev StreamIndex := Fin 256

end Sys2Proof
end

