-- ==== Sys2Proof/Config.lean ====
section
/-! DEFINITION. What the device fixes (the capacities of the Organization table and the numbers the rules name)
and the one free value: the order in which things the spec leaves unordered are taken. -/

namespace Sys2Proof.Config

/-- FREE VALUE (log entry 1). Wherever the spec says that two or more things inside one event, or two or more
events that are possible at one instant, "may be taken in either order", the model draws the next number of this
sequence and lets it decide. The constant has no body: no proof can see any of its numbers, so a claim about a
drawn order holds for every order. -/
opaque freeChoice : Nat → Nat

/-- Blocks of the Buffer Pool (chapter 4). -/
abbrev poolBlocks : Nat := 512

/-- Bytes of one block (chapter 4). -/
abbrev blockBytes : Nat := 256

/-- The line-control reserve: the last 16 free blocks are closed to DATA frames (R7). -/
abbrev reserveBlocks : Nat := 16

/-- The greatest payload of a frame (R9). -/
abbrev maxPayload : Nat := 1024

/-- The greatest stream tag (R9). -/
abbrev maxTag : Nat := 4095

/-- Where a 32-bit counter saturates (R163). -/
abbrev counterMax : Nat := 4294967295

/-- Where a notice's occurrence count saturates (R150). -/
abbrev noticeCountMax : Nat := 65535

/-- Requests the request queue holds (R118). -/
abbrev requestQueueMax : Nat := 4

/-- Entries of the reply memory (R127). -/
abbrev replyMemoryMax : Nat := 4

/-- Entries of the notice list (R150). -/
abbrev noticeListMax : Nat := 16

/-- Ticks of a millisecond (R80). -/
abbrev ticksPerMs : Nat := 100000

/-- The cycle length of the default plan (R96). -/
abbrev defaultCycleLength : Nat := 1000000

/-- Shortest and longest cycle length (section 6.1). -/
abbrev cycleLengthMin : Nat := 1000
/-- See `cycleLengthMin`. -/
abbrev cycleLengthMax : Nat := 10000000

/-- Shortest and longest window duration (section 6.1). -/
abbrev windowMin : Nat := 100
/-- See `windowMin`. -/
abbrev windowMax : Nat := 10000000

/-- The line occupancy of the longest frame, which a valid plan's Q3 window must hold (R97). -/
abbrev longestOccupancy : Nat := 8384

/-- The tick span of one meter boundary (R50). -/
abbrev meterBoundary : Nat := 1024

/-- The ticks within which the purge walk reaches entry 255 (R35). -/
abbrev purgeBound : Nat := 2000

/-- The misses, and the faults, that lose the beat (R92, R90). -/
abbrev missLimit : Nat := 4
/-- See `missLimit`. -/
abbrev faultLimit : Nat := 3

/-- The lowest station address of the device; the strap value is added to it (R130). -/
abbrev stationBase : Half := 0xFC00

/-- The broadcast address. -/
abbrev broadcast : Half := 0xFFFF

end Sys2Proof.Config
end

