-- ==== Sys2Proof/Syntax.lean ====
section
/-! DEFINITION. The commands of the VFS-2204: one constructor per row of spec/opcode_table.json.

Fourteen rows are events of the line, of the pins and of the device's own timers. An event of a port names the port.
An event of the receiver carries the bytes that came in since the port's event before it, so that the whole frame
reaches the model byte for byte. The twenty-six request rows and UNKNOWN_REQUEST are the TAKE of a request by the
Management Engine (R120): their operands are bytes of the CONTROL frame that waits at the head of the request queue
(R118, R172), so their constructors carry none (log entry 3). -/

namespace Sys2Proof

/-- A command: one row of the table of operations and events. -/
inductive Instr where
  /-- COLD_RESET (R175): RESET_N is released, or power-up completes, with this value on STRAP5..STRAP0. -/
  | coldReset (straps : BitVec 6)
  /-- RESET_N_ASSERTED (R175): RESET_N has been low for 16 REFCLK periods. -/
  | resetNAsserted
  /-- LINK_UP (R2): the line receiver of the port reports link-up. -/
  | linkUp (p : Port)
  /-- LINK_DOWN (R3): the line receiver of the port reports link-down. -/
  | linkDown (p : Port)
  /-- FRAME_START (R6): a frame starts on the port. -/
  | frameStart (p : Port)
  /-- HEADER_COMPLETION (R9): the 12th byte has arrived; the bytes are the 12 header bytes. -/
  | headerCompletion (p : Port) (bytes : List Byte)
  /-- BLOCK_BOUNDARY (R7): the 257th, 513th, 769th or 1,025th byte has arrived; the bytes are those since the event
  before, the boundary byte last. -/
  | blockBoundary (p : Port) (bytes : List Byte)
  /-- SURPLUS_BYTE (R9): the first byte beyond the declared length has arrived; the bytes are those since the event
  before, the surplus byte last. -/
  | surplusByte (p : Port) (bytes : List Byte)
  /-- END_OF_FRAME (R10): the line signals the end of the frame; the bytes are those since the event before. -/
  | endOfFrame (p : Port) (bytes : List Byte)
  /-- TRANSMISSION_COMPLETION (R18) on the port. -/
  | transmissionCompletion (p : Port)
  /-- SCHEDULED_CYCLE_START (R82): local time reaches the scheduled end. -/
  | scheduledCycleStart
  /-- WINDOW_CHANGE (R110): local time reaches the end of a window of the port that is not its last in use. -/
  | windowChange (p : Port)
  /-- LEASE_EXPIRY (R141): local time reaches the session's expiry time. -/
  | leaseExpiry
  /-- RETRY_TIMER_EXPIRY (R156, R153): local time reaches the retry timer's expiry time. -/
  | retryTimerExpiry
  /-- PURGE_VISIT (R35): the purge walk visits its next entry. -/
  | purgeVisit
  /-- IDENTIFY (R131): the take of an IDENTIFY request. -/
  | identify
  /-- UNIT_RESET (R132): the take of a UNIT_RESET request. -/
  | unitReset
  /-- SESSION_OPEN (R137): the take of a SESSION_OPEN request. -/
  | sessionOpen
  /-- SESSION_KEEP (R139): the take of a SESSION_KEEP request. -/
  | sessionKeep
  /-- SESSION_CLOSE (R140): the take of a SESSION_CLOSE request. -/
  | sessionClose
  /-- STREAM_WRITE (R27): the take of a STREAM_WRITE request. -/
  | streamWrite
  /-- STREAM_CLEAR (R31): the take of a STREAM_CLEAR request. -/
  | streamClear
  /-- STREAM_STATE (R32): the take of a STREAM_STATE request. -/
  | streamState
  /-- STREAM_READ (R33): the take of a STREAM_READ request. -/
  | streamRead
  /-- STREAM_FIND (R34): the take of a STREAM_FIND request. -/
  | streamFind
  /-- STREAM_PURGE (R35): the take of a STREAM_PURGE request. -/
  | streamPurge
  /-- UNLISTED_SET (R38): the take of an UNLISTED_SET request. -/
  | unlistedSet
  /-- STREAM_RESET (R60): the take of a STREAM_RESET request. -/
  | streamReset
  /-- QUEUE_SET (R77): the take of a QUEUE_SET request. -/
  | queueSet
  /-- QUEUE_READ (R78): the take of a QUEUE_READ request. -/
  | queueRead
  /-- BEAT_SET (R93): the take of a BEAT_SET request. -/
  | beatSet
  /-- TIME_READ (R94): the take of a TIME_READ request. -/
  | timeRead
  /-- PLAN_HEADER (R100): the take of a PLAN_HEADER request. -/
  | planHeader
  /-- PLAN_WINDOWS (R101): the take of a PLAN_WINDOWS request. -/
  | planWindows
  /-- PLAN_READ (R103): the take of a PLAN_READ request. -/
  | planRead
  /-- PLAN_REVERT (R102): the take of a PLAN_REVERT request. -/
  | planRevert
  /-- PLAN_COMMIT (R104): the take of a PLAN_COMMIT request. -/
  | planCommit
  /-- PLAN_CANCEL (R107): the take of a PLAN_CANCEL request. -/
  | planCancel
  /-- NOTICE_SET (R159): the take of a NOTICE_SET request. -/
  | noticeSet
  /-- NOTICE_READ (R161): the take of a NOTICE_READ request. -/
  | noticeRead
  /-- COUNTER_READ (R166): the take of a COUNTER_READ request. -/
  | counterRead
  /-- UNKNOWN_REQUEST (R121): the take of a request whose operation code is none of the 26. -/
  | unknownRequest
  deriving DecidableEq, Repr

end Sys2Proof
end

