-- ==== Sys2Proof/Decode.lean ====
section
/-! DEFINITION. The decoder of table words. No row of spec/opcode_table.json gives bits (every row's "fields" list is
empty and no row has a pattern), so no word spells a command. The operation codes of the 26 requests are bytes of a
CONTROL frame's payload and are read where the device reads them, at the take (Machine/Operands.lean). -/

namespace Sys2Proof

/-- The command that a word spells by the table's bits: none, because the table gives no row any bits. -/
def decodeTableWord (_nbits _w : Nat) : Option Instr := none

end Sys2Proof
end

