-- ==== Sys2Proof/Machine/State.lean ====
section
/-! DEFINITION. The state of the VFS-2204, block by block as the spec's block diagram names the owners, the reasons
a step can stop, and the machine right after a cold reset.

Every field is plain data. Fields that are the model's own (the spec gives the device no such state) are named as
such in their docstrings: `State.pending`, `State.freeCount` and the engine state `resetDue`. -/

namespace Sys2Proof.Machine

/-! ## The reasons a step can stop -/

/-- Faults. The spec gives the device no event that stops it, so there is none. -/
inductive Fault where
  deriving DecidableEq, Repr

/-- Refusals. -/
inductive Refusal where
  /-- Raised by an arm of `exec` whose command has no meaning yet (safe: the model stops). No arm raises it. -/
  | notModelled (mnemonic : String)
  deriving DecidableEq, Repr

/-! ## Frames -/

/-- The six kinds of frame (section 11.1). -/
inductive Kind where
  | data
  | beat
  | control
  | reply
  | notice
  | ack
  deriving DecidableEq, Repr

/-- A frame held whole in the device. The length field is the length of the payload (R10 case 3). -/
structure Frame where
  dest : Half
  src : Half
  kind : Kind
  flags : BitVec 4
  reserved : Byte
  tag : Half
  seq : Half
  payload : List Byte
  check : BitVec 32
  deriving DecidableEq, Repr

/-- A requester, and also a station reached through a port: the pair (station, port). -/
structure Requester where
  station : Half
  port : Port
  deriving DecidableEq, Repr

/-! ## The Line Ports (chapter 1) -/

/-- The link state of a port (section 1.1). -/
inductive LinkState where
  | down
  | up
  deriving DecidableEq, Repr

/-- The receiver of a port (section 1.2). In RECEIVING it keeps the bytes received so far; the header is their first
12, and the number of blocks held follows from their count (R19). -/
inductive Receiver where
  | idle
  | receiving (bytes : List Byte)
  | discarding
  deriving DecidableEq, Repr

/-- The transmitter of a port (section 1.4): the frame on the line, the queue it came from and its completion time. -/
inductive Transmitter where
  | idle
  | sending (q : QueueNo) (frame : Frame) (completion : Ticks)
  deriving DecidableEq, Repr

/-- The PORT counters (section 1.6, R24), in the order of section 10.1. -/
structure PortCounters where
  accepted : Nat
  noBuffer : Nat
  checkError : Nat
  malformed : Nat
  aborted : Nat
  misaddressed : Nat
  transmitAborted : Nat
  linkLosses : Nat
  unlistedForwarded : Nat
  unlistedDiscarded : Nat
  deriving DecidableEq, Repr

/-- All PORT counters 0. -/
def PortCounters.zero : PortCounters := ⟨0, 0, 0, 0, 0, 0, 0, 0, 0, 0⟩

/-! ## The egress queues (chapter 4) -/

/-- The origin of a queued frame (R68). A reply carries whether it is the reply to the accepted UNIT_RESET, whose
departure the engine awaits in RESETTING (R126, R132). -/
inductive Origin where
  | forwarded
  | reply (awaited : Bool)
  | notice
  deriving DecidableEq, Repr

/-- A frame in an egress queue, with its enqueue cycle index and origin (R68). -/
structure QueuedFrame where
  frame : Frame
  enqueueIndex : CycleIndex
  origin : Origin
  deriving DecidableEq, Repr

/-- The QUEUE counters (R79), in the order of section 10.1. -/
structure QueueCounters where
  enqueued : Nat
  transmitted : Nat
  droppedFull : Nat
  droppedEgressDown : Nat
  flushed : Nat
  aged : Nat
  highWater : Nat
  deriving DecidableEq, Repr

/-- All QUEUE counters 0. -/
def QueueCounters.zero : QueueCounters := ⟨0, 0, 0, 0, 0, 0, 0⟩

/-- An egress queue: its two settings, its frames from head to tail and its counters (section 4.3). -/
structure Queue where
  limit : Nat
  ageLimit : Nat
  frames : List QueuedFrame
  counters : QueueCounters
  deriving DecidableEq, Repr

/-- The default limit of a queue: 128 blocks for Q0 to Q2, 64 for Q3 (section 4.3). -/
def Queue.defaultLimit (q : QueueNo) : Nat := if q = 3 then 64 else 128

/-- An empty queue with its default settings and counters 0 (R76). -/
def Queue.fresh (q : QueueNo) : Queue := ⟨Queue.defaultLimit q, 0, [], QueueCounters.zero⟩

/-- The four queues of a port after a reset. -/
def Queue.freshAll : Vector Queue 4 := Vector.ofFn Queue.fresh

/-! ## Plans and gates (chapter 6) -/

/-- A set window slot: its duration and its open set, bit k for queue k (section 11.2). -/
structure Window where
  duration : Nat
  openSet : BitVec 4
  deriving DecidableEq, Repr

/-- A cycle plan (section 6.1): 32 window slots, each set or unset (R96). -/
structure Plan where
  cycleLength : Nat
  windowCount : Nat
  slots : Vector (Option Window) 32
  deriving DecidableEq, Repr

/-- The default plan (R96): one window of 1,000,000 ticks that opens every queue. -/
def Plan.default : Plan :=
  ⟨Config.defaultCycleLength, 1, (Vector.replicate 32 none).set 0 (some ⟨Config.defaultCycleLength, 0b1111#4⟩)⟩

/-- The names of the two plan banks. -/
inductive Bank where
  | a
  | b
  deriving DecidableEq, Repr

/-- The bank that the indicator does not name. -/
def Bank.other : Bank → Bank
  | .a => .b
  | .b => .a

/-- The Plan Banks (section 6.2): two banks a port, and the three items of unit-wide state. -/
structure PlanBanks where
  uA : Plan
  uB : Plan
  dA : Plan
  dB : Plan
  active : Bank
  commitPending : Bool
  lastSwap : Option CycleIndex
  deriving DecidableEq, Repr

/-- The Plan Banks after a reset (R98). -/
def PlanBanks.default : PlanBanks := ⟨Plan.default, Plan.default, Plan.default, Plan.default, .a, false, none⟩

/-- The gate of a port (section 6.5) and its GATE counter (R117). -/
structure Gate where
  window : Nat
  windowEnd : Ticks
  overruns : Nat
  deriving DecidableEq, Repr

/-! ## The Stream Table (chapters 2 and 3) -/

/-- The unlisted policy of a port (R24). -/
inductive UnlistedPolicy where
  | forward (q : DataQueueNo)
  | discard
  deriving DecidableEq, Repr

/-- The key of a stream (section 2.1). -/
structure StreamKey where
  port : Port
  source : Half
  tag : Half
  deriving DecidableEq, Repr

/-- The states of an entry that is not FREE. -/
inductive EntryState where
  | enabled
  | blocked
  | tripped
  deriving DecidableEq, Repr

/-- The states a record can name (R21). -/
inductive WrittenState where
  | enabled
  | blocked
  deriving DecidableEq, Repr

/-- The early action of a cadence check. -/
inductive EarlyAction where
  | count
  | discard
  deriving DecidableEq, Repr

/-- The nonconforming action of a meter, with the demote queue exactly when the action is DEMOTE (R21). -/
inductive MeterAction where
  | discard
  | demote (q : DataQueueNo)
  deriving DecidableEq, Repr

/-- The cadence part of a record: interval I, tolerance T, early action. -/
structure CadencePart where
  interval : Nat
  tolerance : Nat
  early : EarlyAction
  deriving DecidableEq, Repr

/-- The meter part of a record: fill R, depth B, nonconforming action. -/
structure MeterPart where
  fill : Nat
  depth : Nat
  action : MeterAction
  deriving DecidableEq, Repr

/-- A record (section 2.2): the fixed part and the four optional parts. `sequence` is the window W and `trip` the
limit L. -/
structure StreamRecord where
  state : WrittenState
  key : StreamKey
  queue : DataQueueNo
  sequence : Option Nat
  cadence : Option CadencePart
  meter : Option MeterPart
  trip : Option Nat
  deriving DecidableEq, Repr

/-- The dynamic state of a sequence check: H, and the accepted set in ascending order of the distance below H. -/
structure SequenceState where
  highest : Option Half
  accepted : List Half
  deriving DecidableEq, Repr

/-- The dynamic state of a cadence check. -/
structure CadenceState where
  lastArrival : Option Ticks
  deriving DecidableEq, Repr

/-- The dynamic state of a meter. -/
structure MeterState where
  tokens : Nat
  lastUpdate : Ticks
  deriving DecidableEq, Repr

/-- The nine counters of a stream (section 2.2), in the order of section 10.1. -/
structure StreamCounters where
  passed : Nat
  demoted : Nat
  discardedBlocked : Nat
  discardedTripped : Nat
  discardedDuplicate : Nat
  discardedLate : Nat
  discardedEarly : Nat
  discardedMeter : Nat
  gap : Nat
  deriving DecidableEq, Repr

/-- All stream counters 0. -/
def StreamCounters.zero : StreamCounters := ⟨0, 0, 0, 0, 0, 0, 0, 0, 0⟩

/-- An entry that is not FREE: its state, held beside the record (R21), the record, the dynamic state of each check
that is present, and the counters. -/
structure StreamEntry where
  state : EntryState
  record : StreamRecord
  sequence : Option SequenceState
  cadence : Option CadenceState
  meter : Option MeterState
  score : Option Nat
  counters : StreamCounters
  deriving DecidableEq, Repr

/-- A line port with all that belongs to it. `linkPinHigh` is the level of its LINK pin (R1). -/
structure PortState where
  link : LinkState
  linkPinHigh : Bool
  receiver : Receiver
  transmitter : Transmitter
  queues : Vector Queue 4
  gate : Gate
  unlisted : UnlistedPolicy
  counters : PortCounters
  deriving DecidableEq, Repr

/-- A port after a cold reset (R1, R18, R24, R76, R109). -/
def PortState.coldReset : PortState where
  link := .down
  linkPinHigh := true
  receiver := .idle
  transmitter := .idle
  queues := Queue.freshAll
  gate := ⟨0, Config.defaultCycleLength, 0⟩
  unlisted := .forward 0
  counters := PortCounters.zero

/-! ## The Time Base and Cycle Timer (chapter 5) -/

/-- The cycle (section 5.1). Local time stands in `State.localTime`. -/
structure CycleTimer where
  index : CycleIndex
  start : Ticks
  scheduledEnd : Ticks
  length : Nat
  beatSeen : Bool
  deriving DecidableEq, Repr

/-- Cycle 0 as the release of a cold reset starts it (R81). -/
def CycleTimer.coldReset : CycleTimer := ⟨0, 0, Config.defaultCycleLength, Config.defaultCycleLength, false⟩

/-- The four states of beat following (section 5.2). -/
inductive BeatState where
  | free
  | seeking
  | locked
  | lost
  deriving DecidableEq, Repr

/-- The BEAT counters (R95), in the order of section 10.1. -/
structure BeatCounters where
  beats : Nat
  realigns : Nat
  reAnchors : Nat
  faults : Nat
  misses : Nat
  extra : Nat
  lost : Nat
  deriving DecidableEq, Repr

/-- All BEAT counters 0. -/
def BeatCounters.zero : BeatCounters := ⟨0, 0, 0, 0, 0, 0, 0⟩

/-- Beat following (section 5.2). -/
structure BeatFollowing where
  state : BeatState
  source : Option Port
  tolerance : Nat
  faultCount : Nat
  missCount : Nat
  lastError : Option Int
  counters : BeatCounters
  deriving DecidableEq, Repr

/-- Beat following after a reset (R85, R95). -/
def BeatFollowing.default : BeatFollowing := ⟨.free, none, 1000, 0, 0, none, BeatCounters.zero⟩

/-! ## The Management Engine (chapter 7) -/

/-- A request (R118): its requester, the mark of a broadcast destination, the sequence field of its frame, the
request number, the operation code and the operands. Its blocks follow from the operand length (R19). -/
structure Request where
  requester : Requester
  isBroadcast : Bool
  seq : Half
  number : Byte
  op : Byte
  operands : List Byte
  deriving DecidableEq, Repr

/-- An entry of the reply memory (R127). -/
structure MemoryEntry where
  requester : Requester
  number : Byte
  op : Byte
  payload : List Byte
  deriving DecidableEq, Repr

/-- The engine states (section 7.2). PURGING keeps the request, the purged source, the next entry to visit, the
cleared-entries count and the time of the take. `resetDue` is the MODEL's own: the awaited reply has left Q3 in the
event in progress, and the unit reset is performed at that event's end (R132, R170); it never outlasts an event. -/
inductive EngineState where
  | idle
  | executing
  | purging (request : Request) (source : Half) (next : StreamIndex) (cleared : Nat) (takenAt : Ticks)
  | resetting
  | resetDue
  deriving DecidableEq, Repr

/-- The MANAGEMENT counters (R135), in the order of section 10.1. -/
structure ManagementCounters where
  requestsTaken : Nat
  requestsDropped : Nat
  malformedRequest : Nat
  repeats : Nat
  repliesBuilt : Nat
  replyDropped : Nat
  deriving DecidableEq, Repr

/-- All MANAGEMENT counters 0. -/
def ManagementCounters.zero : ManagementCounters := ⟨0, 0, 0, 0, 0, 0⟩

/-- The Management Engine: request queue (head first), engine state, reply memory (oldest first), counters. -/
structure Engine where
  queue : List Request
  state : EngineState
  memory : List MemoryEntry
  counters : ManagementCounters
  deriving DecidableEq, Repr

/-- The engine after a reset (R133, R134). -/
def Engine.default : Engine := ⟨[], .idle, [], ManagementCounters.zero⟩

/-! ## The Session Record (chapter 8) -/

/-- An open session (section 8.1); NONE is the absence of one. -/
structure Session where
  holder : Requester
  leaseMs : Nat
  expiry : Ticks
  deriving DecidableEq, Repr

/-! ## The Notice Unit (chapter 9) -/

/-- An event: its kind with its subject (R147). -/
inductive Event where
  | beatLost
  | streamTripped (i : StreamIndex)
  | gateOverrun (p : Port)
  | queueOverflow (p : Port) (q : QueueNo)
  | sessionExpired (station : Half)
  | planSwapped
  | beatLocked
  | unlistedSeen (p : Port)
  deriving DecidableEq, Repr

/-- The state of a list entry, with its attempts and lost mark while IN_FLIGHT (section 9.2). -/
inductive NoticeStatus where
  | waiting
  | inFlight (attempts : Nat) (lostMark : Bool)
  deriving DecidableEq, Repr

/-- An entry of the notice list (section 9.2). -/
structure NoticeEntry where
  event : Event
  firstTime : Ticks
  firstIndex : CycleIndex
  count : Nat
  status : NoticeStatus
  number : Option Half
  deriving DecidableEq, Repr

/-- The settings of NOTICE_SET (section 9.2): bit k - 1 of `kinds` enables the kind of priority k. -/
structure NoticeSettings where
  master : Bool
  kinds : BitVec 8
  standing : Option Requester
  retryMs : Nat
  retryLimit : Nat
  deriving DecidableEq, Repr

/-- The default settings (section 9.2). -/
def NoticeSettings.default : NoticeSettings := ⟨true, 0xFF, none, 100, 3⟩

/-- The NOTICE counters (R162), in the order of section 10.1. -/
structure NoticeCounters where
  sent : Nat
  acked : Nat
  stray : Nat
  abandoned : Nat
  noticesLost : Nat
  deriving DecidableEq, Repr

/-- All NOTICE counters 0. -/
def NoticeCounters.zero : NoticeCounters := ⟨0, 0, 0, 0, 0⟩

/-- The Notice Unit (section 9.2). `retryTimer` is the expiry time of the running timer. -/
structure NoticeUnit where
  settings : NoticeSettings
  destination : Option Requester
  list : List NoticeEntry
  lostFlag : Bool
  nextNumber : Half
  retryTimer : Option Ticks
  counters : NoticeCounters
  deriving DecidableEq, Repr

/-- The Notice Unit after a reset (R148, R162). -/
def NoticeUnit.default : NoticeUnit := ⟨NoticeSettings.default, none, [], false, 0, none, NoticeCounters.zero⟩

/-! ## The whole device -/

/-- The state of the device. `pending` and `freeCount` are the MODEL's own: the commands that wait, first in first
out, and how many free values have been drawn (log entry 1). `resetHeld` says that a cold reset is held (R175). -/
structure State where
  pending : List Instr
  freeCount : Nat
  resetHeld : Bool
  station : Half
  localTime : Ticks
  timer : CycleTimer
  beat : BeatFollowing
  portU : PortState
  portD : PortState
  pool : Nat
  table : Vector (Option StreamEntry) 256
  plans : PlanBanks
  engine : Engine
  session : Option Session
  notice : NoticeUnit
  deriving DecidableEq, Repr

/-- The device at the release of a cold reset (R1, R20, R63, R80, R81, R85, R98, R109, R134, R136, R148, R170) with
this station address (R130). -/
def State.coldReset (station : Half) : State where
  pending := []
  freeCount := 0
  resetHeld := false
  station := station
  localTime := 0
  timer := CycleTimer.coldReset
  beat := BeatFollowing.default
  portU := PortState.coldReset
  portD := PortState.coldReset
  pool := Config.poolBlocks
  table := Vector.replicate 256 none
  plans := PlanBanks.default
  engine := Engine.default
  session := none
  notice := NoticeUnit.default

/-- The machine right after reset. DESIGN CHOICE (log entry 2): the straps are those of unconnected pins, strap value
63 (section 11.5), so the station address is FC3Fh. -/
def State.reset : State := State.coldReset 0xFC3F

end Sys2Proof.Machine
end

