-- ==== Sys2Proof/Machine/Bytes.lean ====
section
/-! DEFINITION. Bytes on the wire: byte order, the frame check, frames and their headers (chapter 11, R9, R11, R18,
R19, R171). -/

namespace Sys2Proof.Machine

/-- The `n` low bytes of a number, most significant byte first (chapter 11). -/
def beBytes : Nat → Nat → List Byte
  | 0, _ => []
  | n + 1, v => BitVec.ofNat 8 (v / 256 ^ n) :: beBytes n v

/-- The number that bytes spell, most significant byte first (chapter 11). -/
def natOfBytes (bs : List Byte) : Nat := bs.foldl (fun acc b => acc * 256 + b.toNat) 0

/-- The `n`-byte field at an offset. A byte beyond the end is not there to be read. -/
def fieldAt (bs : List Byte) (offset n : Nat) : Nat := natOfBytes ((bs.drop offset).take n)

/-- The byte at an offset (0 beyond the end, where no caller reads). -/
def byteAt (bs : List Byte) (offset : Nat) : Byte := bs.getD offset 0

/-! ## The frame check (R11) -/

/-- One bit of the CRC-32: generator 04C11DB7h, most significant bit first. -/
def crcBit (r : BitVec 32) (bit : Bool) : BitVec 32 :=
  if r.msb != bit then (r <<< 1) ^^^ 0x04C11DB7#32 else r <<< 1

/-- One byte of the CRC-32, most significant bit first. -/
def crcByte (r : BitVec 32) (b : Byte) : BitVec 32 :=
  [7, 6, 5, 4, 3, 2, 1, 0].foldl (fun r i => crcBit r (b.getLsbD i)) r

/-- The frame check of R11: preset FFFFFFFFh, the final remainder complemented. -/
def crc32 (bs : List Byte) : BitVec 32 := ~~~ (bs.foldl crcByte 0xFFFFFFFF#32)

/-! ## Frame sizes (section 1.5, R19) -/

/-- Blocks that hold this many bytes: the bytes divided by 256, rounded up. -/
def blocksFor (bytes : Nat) : Nat := (bytes + (Config.blockBytes - 1)) / Config.blockBytes

/-- Line occupancy of a frame of this many frame bytes (R18). -/
def occupancyFor (bytes : Nat) : Nat := (bytes + 8) * 8

/-- Frame bytes of a frame: 12 + length + 4 (section 1.5). -/
def Frame.size (f : Frame) : Nat := 12 + f.payload.length + 4

/-- Blocks held by a frame (R19). -/
def Frame.blocks (f : Frame) : Nat := blocksFor f.size

/-- Line occupancy of a frame (R18). -/
def Frame.occupancy (f : Frame) : Nat := occupancyFor f.size

/-- Blocks held by a frame in reception: one up to its 256th byte, one more at each boundary byte (R19). -/
def receptionBlocks (bytes : List Byte) : Nat := max 1 (blocksFor bytes.length)

/-! ## Frames and headers (section 11.1) -/

/-- The code of a frame kind. -/
def Kind.code : Kind → Nat
  | .data => 0
  | .beat => 1
  | .control => 2
  | .reply => 3
  | .notice => 4
  | .ack => 5

/-- The frame kind of a code; 6 to 15 are no kind (R171). -/
def Kind.ofCode : Nat → Option Kind
  | 0 => some .data
  | 1 => some .beat
  | 2 => some .control
  | 3 => some .reply
  | 4 => some .notice
  | 5 => some .ack
  | _ => none

/-- The kind of a header: the upper four bits of byte 4 (R171). -/
def headerKind (bs : List Byte) : Option Kind := Kind.ofCode ((byteAt bs 4).toNat / 16)

/-- The length field of a header. -/
def headerLength (bs : List Byte) : Nat := fieldAt bs 10 2

/-- The frame bytes that a header declares (R9). -/
def declaredBytes (bs : List Byte) : Nat := 12 + headerLength bs + 4

/-- Is a complete header malformed (R9): its kind is 6 to 15, its tag above 4095, its length above 1024, or its
source 0000h or FFFFh? -/
def headerMalformed (bs : List Byte) : Bool :=
  (headerKind bs).isNone || Config.maxTag < fieldAt bs 6 2 || Config.maxPayload < headerLength bs
    || fieldAt bs 2 2 == 0 || fieldAt bs 2 2 == 0xFFFF

/-- Does the frame check of received bytes pass: is the CRC-32 of all but the last 4 bytes equal to these 4, most
significant byte first (R11)? -/
def checkPasses (bs : List Byte) : Bool :=
  (crc32 (bs.take (bs.length - 4))).toNat == natOfBytes (bs.drop (bs.length - 4))

/-- The frame that received bytes spell (section 11.1), if the kind code is a kind. -/
def frameOfBytes (bs : List Byte) : Option Frame :=
  match headerKind bs with
  | none => none
  | some kind =>
    some
      { dest := BitVec.ofNat 16 (fieldAt bs 0 2)
        src := BitVec.ofNat 16 (fieldAt bs 2 2)
        kind := kind
        flags := (byteAt bs 4).setWidth 4
        reserved := byteAt bs 5
        tag := BitVec.ofNat 16 (fieldAt bs 6 2)
        seq := BitVec.ofNat 16 (fieldAt bs 8 2)
        payload := (bs.drop 12).take (bs.length - 16)
        check := BitVec.ofNat 32 (natOfBytes (bs.drop (bs.length - 4))) }

/-- The 12 header bytes of a frame (section 11.1). -/
def Frame.headerBytes (f : Frame) : List Byte :=
  beBytes 2 f.dest.toNat ++ beBytes 2 f.src.toNat
    ++ [BitVec.ofNat 8 (f.kind.code * 16 + f.flags.toNat), f.reserved]
    ++ beBytes 2 f.tag.toNat ++ beBytes 2 f.seq.toNat ++ beBytes 2 f.payload.length

/-- The bytes of a frame as the transmitter sends them: header, payload, check (R18). -/
def Frame.bytes (f : Frame) : List Byte := f.headerBytes ++ f.payload ++ beBytes 4 f.check.toNat

/-- A frame the device builds: flags, reserved byte and stream tag 0, and a check computed as R11 gives (R125, R154,
R171). -/
def builtFrame (dest src : Half) (kind : Kind) (seq : Half) (payload : List Byte) : Frame :=
  let f : Frame := ⟨dest, src, kind, 0, 0, 0, seq, payload, 0⟩
  { f with check := crc32 (f.headerBytes ++ payload) }

end Sys2Proof.Machine
end

