-- ==== Sys2Proof/Machine/Ops.lean ====
section
/-! DEFINITION. The named operations that every command is made of: drawing a free order, the pool, the counters,
the ports and queues, the gate's selection, and the offer of a frame to an egress queue (chapters 1, 4 and 6). -/

namespace Sys2Proof.Machine

/-! ## Free orders (log entry 1) -/

/-- Draw the next free value. -/
def State.draw (s : State) : Nat × State :=
  (Config.freeChoice s.freeCount, { s with freeCount := s.freeCount + 1 })

/-- Insert an item into a list at a position (at the end, if the list is shorter). -/
def insertAt {α : Type} : Nat → α → List α → List α
  | _, x, [] => [x]
  | 0, x, y :: ys => x :: y :: ys
  | n + 1, x, y :: ys => y :: insertAt n x ys

/-- The order of a list that a number names: every order is some number's. -/
def shuffle {α : Type} : Nat → List α → List α
  | _, [] => []
  | n, x :: xs => insertAt (n % (xs.length + 1)) x (shuffle (n / (xs.length + 1)) xs)

/-- Do two things of one event in either order. -/
def eitherOrder (f g : State → State) (s : State) : State :=
  if s.draw.1 % 2 = 0 then g (f s.draw.2) else f (g s.draw.2)

/-- Do the items of a list in any order. With at most one item there is no order to draw. -/
def inAnyOrder {α : Type} (run : α → State → State) : List α → State → State
  | [], s => s
  | [w], s => run w s
  | w :: ws, s => (shuffle s.draw.1 (w :: ws)).foldl (fun s w => run w s) s.draw.2

/-! ## Counters (R163) -/

/-- A counter after counting up by `k`: it saturates at 4,294,967,295. -/
def countBy (n k : Nat) : Nat := min (n + k) Config.counterMax

/-- A counter after counting up by 1. -/
def countUp (n : Nat) : Nat := countBy n 1

/-! ## The pool (R63 to R65) -/

/-- Return blocks to the free pool. -/
def State.returnBlocks (s : State) (n : Nat) : State := { s with pool := s.pool + n }

/-- Take blocks from the pool, all at once and reserve included; refused whole if fewer are free (R64). -/
def State.takeBlocks (s : State) (n : Nat) : Option State :=
  if n ≤ s.pool then some { s with pool := s.pool - n } else none

/-! ## Ports and queues -/

/-- The state of a port. -/
def State.port (s : State) : Port → PortState
  | .u => s.portU
  | .d => s.portD

/-- Change the state of a port. -/
def State.modPort (s : State) (p : Port) (f : PortState → PortState) : State :=
  match p with
  | .u => { s with portU := f s.portU }
  | .d => { s with portD := f s.portD }

/-- Count in the PORT group of a port. -/
def State.countPort (s : State) (p : Port) (f : PortCounters → PortCounters) : State :=
  s.modPort p fun P => { P with counters := f P.counters }

/-- A queue of a port. -/
def State.queue (s : State) (p : Port) (q : QueueNo) : Queue := (s.port p).queues[q]

/-- Change a queue of a port. -/
def State.modQueue (s : State) (p : Port) (q : QueueNo) (f : Queue → Queue) : State :=
  s.modPort p fun P => { P with queues := P.queues.set q (f P.queues[q]) }

/-- Count in the QUEUE group of a queue. -/
def State.countQueue (s : State) (p : Port) (q : QueueNo) (f : QueueCounters → QueueCounters) : State :=
  s.modQueue p q fun Q => { Q with counters := f Q.counters }

/-- Blocks held by a list of queued frames. -/
def blocksOf (fs : List QueuedFrame) : Nat := (fs.map fun f => f.frame.blocks).sum

/-- The occupancy of a queue in blocks (R68). -/
def Queue.blocks (Q : Queue) : Nat := blocksOf Q.frames

/-- Set a port's receiver. -/
def State.setReceiver (s : State) (p : Port) (r : Receiver) : State := s.modPort p fun P => { P with receiver := r }

/-- Set a port's transmitter. -/
def State.setTransmitter (s : State) (p : Port) (t : Transmitter) : State :=
  s.modPort p fun P => { P with transmitter := t }

/-- Count in the MANAGEMENT group. -/
def State.countManagement (s : State) (f : ManagementCounters → ManagementCounters) : State :=
  { s with engine := { s.engine with counters := f s.engine.counters } }

/-! ## Plans (section 6.1) -/

/-- The plan of a port in a bank. -/
def PlanBanks.plan (b : PlanBanks) : Port → Bank → Plan
  | .u, .a => b.uA
  | .u, .b => b.uB
  | .d, .a => b.dA
  | .d, .b => b.dB

/-- Replace the plan of a port in a bank. -/
def PlanBanks.setPlan (b : PlanBanks) (p : Port) (k : Bank) (x : Plan) : PlanBanks :=
  match p, k with
  | .u, .a => { b with uA := x }
  | .u, .b => { b with uB := x }
  | .d, .a => { b with dA := x }
  | .d, .b => { b with dB := x }

/-- The active plan of a port (section 6.2). -/
def PlanBanks.activePlan (b : PlanBanks) (p : Port) : Plan := b.plan p b.active

/-- The staged plan of a port (section 6.2). -/
def PlanBanks.stagedPlan (b : PlanBanks) (p : Port) : Plan := b.plan p b.active.other

/-- Replace the staged plan of a port. -/
def PlanBanks.setStaged (b : PlanBanks) (p : Port) (x : Plan) : PlanBanks := b.setPlan p b.active.other x

/-- A window slot of a plan; beyond the 32 slots there is none. -/
def Plan.slot (x : Plan) (k : Nat) : Option Window := (x.slots[k]?).join

/-- The duration of a slot: 0 when unset (R96). -/
def Plan.duration (x : Plan) (k : Nat) : Nat := match x.slot k with
  | some w => w.duration
  | none => 0

/-- The sum of the durations of the slots below `n`: where window `n` begins, from the cycle start (R96). -/
def Plan.span (x : Plan) : Nat → Nat
  | 0 => 0
  | n + 1 => x.span n + x.duration n

/-- Does slot `k` of a plan open queue `q`? -/
def Plan.opens (x : Plan) (k : Nat) (q : QueueNo) : Bool := match x.slot k with
  | some w => w.openSet.getLsbD q
  | none => false

/-! ## The gate's selection (section 6.6) -/

/-- Is a queue open in the current window of its port's gate? -/
def State.queueOpen (s : State) (p : Port) (q : QueueNo) : Bool :=
  (s.plans.activePlan p).opens (s.port p).gate.window q

/-- The time remaining in the current window of a port (section 6.5). -/
def State.timeRemaining (s : State) (p : Port) : Nat := (s.port p).gate.windowEnd - s.localTime

/-- Can the gate take the head of this queue now: the queue is open and not empty, and its head fits (R114)? -/
def State.headFits (s : State) (p : Port) (q : QueueNo) : Bool :=
  s.queueOpen p q &&
    match (s.queue p q).frames with
    | [] => false
    | f :: _ => f.frame.occupancy ≤ s.timeRemaining p

/-- The queue whose head the gate takes: the first of Q3, Q2, Q1, Q0 that is open and whose head fits (R114). -/
def State.selected (s : State) (p : Port) : Option QueueNo := [3, 2, 1, 0].find? (s.headFits p)

/-- The departure report of a frame that leaves Q3 or is refused there (R72): in RESETTING the departure of the
awaited reply makes the unit reset due (R126, R132). -/
def State.reportDeparture (s : State) (o : Origin) : State :=
  if o = .reply true ∧ s.engine.state = .resetting then
    { s with engine := { s.engine with state := .resetDue } }
  else s

/-- Hand the head of a queue to the transmitter (R73, R18): the frame leaves its queue and the transmitter becomes
SENDING, to complete one line occupancy later. -/
def State.sendHead (s : State) (p : Port) (q : QueueNo) : State :=
  match (s.queue p q).frames with
  | [] => s
  | f :: rest =>
    ((s.modQueue p q fun Q => { Q with frames := rest }).setTransmitter p
      (.sending q f.frame (s.localTime + f.frame.occupancy))).reportDeparture f.origin

/-- Can the gate of a port hand its transmitter a frame: the port is UP and the transmitter IDLE (R113)? -/
def State.canSend (s : State) (p : Port) : Bool :=
  (s.port p).link == .up && (s.port p).transmitter == .idle

/-- The gate of a port tries a selection (R113, R114). -/
def State.trySelect (s : State) (p : Port) : State :=
  if s.canSend p then
    match s.selected p with
    | some q => s.sendHead p q
    | none => s
  else s

/-! ## The offer of a frame to a queue (R69) -/

/-- What an offer came to. -/
inductive OfferResult where
  | egressDown
  | full
  | admitted
  deriving DecidableEq, Repr

/-- The judgement of an offer: the port is DOWN; the limit would be exceeded; neither (R69). -/
def State.judgeOffer (s : State) (p : Port) (q : QueueNo) (f : Frame) : OfferResult :=
  if (s.port p).link = .down then .egressDown
  else if (s.queue p q).limit < (s.queue p q).blocks + f.blocks then .full
  else .admitted

/-- Admit a frame at the tail of a queue: it is recorded with the current cycle index, *enqueued* counts, the
high-water occupancy is raised (R69, R79), and the gate tries a selection if the queue is open (R113). -/
def State.enqueue (s : State) (p : Port) (q : QueueNo) (f : Frame) (o : Origin) : State :=
  let s := s.modQueue p q fun Q =>
    { Q with
      frames := Q.frames ++ [⟨f, s.timer.index, o⟩]
      counters :=
        { Q.counters with
          enqueued := countUp Q.counters.enqueued
          highWater := max Q.counters.highWater (Q.blocks + f.blocks) } }
  if s.queueOpen p q then s.trySelect p else s

/-- Offer a frame, with its blocks, to a queue (R69, R5, R72). The frame has its blocks already, so a refusal returns
them. A refusal as *dropped full* also raises QUEUE_OVERFLOW, which the caller hands to the Notice Unit
(`offerFrame` in Machine/Notice.lean). -/
def State.offer (s : State) (p : Port) (q : QueueNo) (f : Frame) (o : Origin) : State :=
  match s.judgeOffer p q f with
  | .egressDown =>
    (s.returnBlocks f.blocks).countQueue p q fun c => { c with droppedEgressDown := countUp c.droppedEgressDown }
  | .full =>
    ((s.returnBlocks f.blocks).countQueue p q fun c => { c with droppedFull := countUp c.droppedFull }).reportDeparture o
  | .admitted => s.enqueue p q f o

/-! ## Ageing and flushing (R74, R76) -/

/-- The frames at the head of a queue that a cycle start with index `c` ages out under age limit `a`: the run of
frames from the head whose age is `a` or more (R74). -/
def agedFrames (a : Nat) (c : CycleIndex) (fs : List QueuedFrame) : List QueuedFrame :=
  fs.takeWhile fun f => a ≤ (c - f.enqueueIndex).toNat

/-- The frames that ageing leaves (R74). -/
def youngFrames (a : Nat) (c : CycleIndex) (fs : List QueuedFrame) : List QueuedFrame :=
  fs.dropWhile fun f => a ≤ (c - f.enqueueIndex).toNat

/-- Report the departures of frames in order (R72). -/
def State.reportDepartures (s : State) (fs : List QueuedFrame) : State :=
  fs.foldl (fun s f => s.reportDeparture f.origin) s

/-- Age a queue at a cycle start (R74). An age limit of 0 ages nothing. -/
def State.ageQueue (s : State) (p : Port) (q : QueueNo) : State :=
  let Q := s.queue p q
  if Q.ageLimit = 0 then s
  else
    let gone := agedFrames Q.ageLimit s.timer.index Q.frames
    (((s.modQueue p q fun Q =>
        { Q with
          frames := youngFrames Q.ageLimit s.timer.index Q.frames
          counters := { Q.counters with aged := countBy Q.counters.aged gone.length } }).returnBlocks
      (blocksOf gone)).reportDepartures gone)

/-- Flush a queue (R76, R4): every frame leaves, its blocks return, each is counted as *flushed*. -/
def State.flushQueue (s : State) (p : Port) (q : QueueNo) : State :=
  let Q := s.queue p q
  (((s.modQueue p q fun Q =>
      { Q with
        frames := []
        counters := { Q.counters with flushed := countBy Q.counters.flushed Q.frames.length } }).returnBlocks
    (blocksOf Q.frames)).reportDepartures Q.frames)

/-- Flush the four queues of a port (R4). -/
def State.flushPort (s : State) (p : Port) : State :=
  (((s.flushQueue p 0).flushQueue p 1).flushQueue p 2).flushQueue p 3

end Sys2Proof.Machine
end

