-- ==== Sys2Proof/Machine/Checks.lean ====
section
/-! DEFINITION. The conformance checks (chapter 3): the series of steps that judges one DATA frame against the entry it
hits, and the renewal of an entry's check state. The checks read and change the entry alone (R39). -/

namespace Sys2Proof.Machine

/-- The six reasons of a discard (R40). -/
inductive DiscardReason where
  | blocked
  | tripped
  | duplicate
  | late
  | early
  | meter
  deriving DecidableEq, Repr

/-- The fate of a frame (R40). -/
inductive Fate where
  | passed
  | demoted (q : DataQueueNo)
  | discarded (r : DiscardReason)
  deriving DecidableEq, Repr

/-- The sequence case of a frame (section 3.1). -/
inductive SequenceCase where
  | none
  | first
  | outOfOrder
  | ahead (d : Nat)
  deriving DecidableEq, Repr

/-- What the checks have found about a frame (section 3.1); `fate` is absent while the frame is going on. -/
structure Findings where
  fate : Option Fate
  case : SequenceCase
  violation : Bool
  deriving DecidableEq, Repr

/-- The findings before the first step. -/
def Findings.start : Findings := ⟨none, .none, false⟩

/-- A frame part-way through the series: the entry as it stands and the findings. -/
structure Judging where
  entry : StreamEntry
  found : Findings
  deriving DecidableEq, Repr

/-- End the series with a discard (R39). -/
def Judging.discard (j : Judging) (r : DiscardReason) (violation : Bool) : Judging :=
  { j with found := { j.found with fate := some (.discarded r), violation := j.found.violation || violation } }

/-- Apply a step unless an earlier step has discarded the frame (R39). -/
def Judging.andThen (j : Judging) (step : Judging → Judging) : Judging :=
  match j.found.fate with
  | some (.discarded _) => j
  | _ => step j

/-! ## The state step (R41) -/

/-- The state step. -/
def stateStep (j : Judging) : Judging :=
  match j.entry.state with
  | .enabled => j
  | .blocked => j.discard .blocked false
  | .tripped => j.discard .tripped false

/-! ## The sequence step (R42 to R46) -/

/-- The distance of a sequence number from H (R42). -/
def distance (s h : Half) : Nat := (s - h).toNat

/-- Does a distance lie in the window W (R42)? -/
def inWindow (w d : Nat) : Bool := d == 0 || 65536 - w + 1 ≤ d

/-- The sequence step sorts a frame (R43). -/
def sequenceStep (s : Half) (j : Judging) : Judging :=
  match j.entry.record.sequence, j.entry.sequence with
  | some w, some st =>
    match st.highest with
    | none => { j with found := { j.found with case := .first } }
    | some h =>
      let d := distance s h
      if inWindow w d then
        if s ∈ st.accepted then j.discard .duplicate false
        else { j with found := { j.found with case := .outOfOrder } }
      else if d ≤ 32767 then { j with found := { j.found with case := .ahead d } }
      else j.discard .late true
  | _, _ => j

/-! ## The cadence step (R47 to R49) -/

/-- Is an arrival early: the last arrival is present and less than I - T ago (R47)? -/
def isEarly (part : CadencePart) (st : CadenceState) (arrival : Ticks) : Bool :=
  match st.lastArrival with
  | none => false
  | some t => arrival - t < part.interval - part.tolerance

/-- The cadence step: it moves the last arrival and handles an early frame by the early action (R47 to R49). -/
def cadenceStep (arrival : Ticks) (j : Judging) : Judging :=
  match j.entry.record.cadence, j.entry.cadence with
  | some part, some st =>
    let moved : Judging := { j with entry := { j.entry with cadence := some ⟨some arrival⟩ } }
    if isEarly part st arrival then
      match part.early with
      | .count => { moved with found := { moved.found with violation := true } }
      | .discard => moved.discard .early true
    else moved
  | _, _ => j

/-! ## The meter step (R50 to R53) -/

/-- The tokens brought up to an arrival time (R50): R for each multiple of 1,024 since the last update, capped at B. -/
def accrue (part : MeterPart) (st : MeterState) (arrival : Ticks) : Nat :=
  min part.depth
    (st.tokens + part.fill * (arrival / Config.meterBoundary - st.lastUpdate / Config.meterBoundary))

/-- The meter step: accrual, then the test, then the nonconforming action (R50 to R53). -/
def meterStep (frameBytes : Nat) (arrival : Ticks) (j : Judging) : Judging :=
  match j.entry.record.meter, j.entry.meter with
  | some part, some st =>
    let tokens := accrue part st arrival
    if frameBytes ≤ tokens then
      { j with entry := { j.entry with meter := some ⟨tokens - frameBytes, arrival⟩ } }
    else
      let accrued : Judging := { j with entry := { j.entry with meter := some ⟨tokens, arrival⟩ } }
      match part.action with
      | .discard => accrued.discard .meter true
      | .demote q => { accrued with found := { accrued.found with fate := some (.demoted q), violation := true } }
  | _, _ => j

/-! ## The outcome step (R54 to R59) -/

/-- The fate of a frame at the outcome step: a frame that no step gave a fate is passed (R40). -/
def Findings.outcome (f : Findings) : Fate := f.fate.getD .passed

/-- Is a frame with this fate forwarded? -/
def Fate.isForwarded : Fate → Bool
  | .passed => true
  | .demoted _ => true
  | .discarded _ => false

/-- Insert a number into an accepted set that stands in ascending order of the distance below H. -/
def insertBelow (h m : Half) : List Half → List Half
  | [] => [m]
  | x :: xs => if (h - m).toNat < (h - x).toNat then m :: x :: xs else x :: insertBelow h m xs

/-- The members of a set that lie within the W numbers ending at `h` (R42, R55). -/
def withinWindow (w : Nat) (h : Half) (l : List Half) : List Half := l.filter fun m => (h - m).toNat < w

/-- The sequence state that a forwarded frame leaves (R55). -/
def learn (w : Nat) (s : Half) (case : SequenceCase) (st : SequenceState) : SequenceState :=
  match case, st.highest with
  | .first, _ => ⟨some s, [s]⟩
  | .outOfOrder, some h => { st with accepted := insertBelow h s st.accepted }
  | .ahead _, _ => ⟨some s, s :: withinWindow w s st.accepted⟩
  | _, _ => st

/-- What a forwarded frame adds to the gap count (R56). -/
def gapOf : SequenceCase → Nat
  | .ahead d => d - 1
  | _ => 0

/-- The count of a frame with this fate (R59). -/
def StreamCounters.countFate (c : StreamCounters) : Fate → StreamCounters
  | .passed => { c with passed := countUp c.passed }
  | .demoted _ => { c with demoted := countUp c.demoted }
  | .discarded .blocked => { c with discardedBlocked := countUp c.discardedBlocked }
  | .discarded .tripped => { c with discardedTripped := countUp c.discardedTripped }
  | .discarded .duplicate => { c with discardedDuplicate := countUp c.discardedDuplicate }
  | .discarded .late => { c with discardedLate := countUp c.discardedLate }
  | .discarded .early => { c with discardedEarly := countUp c.discardedEarly }
  | .discarded .meter => { c with discardedMeter := countUp c.discardedMeter }

/-- What the outcome step does with the score (R57): up for a violation, down (not below 0) for a forwarded frame
without one, unchanged otherwise. A frame discarded as blocked or tripped carries no violation and is not forwarded. -/
def scoreAfter (limit score : Nat) (f : Findings) : Nat :=
  if f.violation then min limit (score + 1)
  else if f.outcome.isForwarded then score - 1
  else score

/-- Does the outcome step trip the entry: its score is raised to the limit (R58)? -/
def trips (e : StreamEntry) (f : Findings) : Bool :=
  match e.record.trip, e.score with
  | some limit, some score => f.violation && e.state == .enabled && decide (limit ≤ score + 1)
  | _, _ => false

/-- The outcome step on the entry (R54 to R59). What becomes of the frame is `Findings.outcome`. -/
def outcomeStep (s : Half) (j : Judging) : StreamEntry :=
  let f := j.found
  let e := j.entry
  let counted := e.counters.countFate f.outcome
  { e with
    counters := if f.outcome.isForwarded then { counted with gap := countBy counted.gap (gapOf f.case) } else counted
    sequence :=
      if f.outcome.isForwarded then
        match e.record.sequence, e.sequence with
        | some w, some st => some (learn w s f.case st)
        | _, x => x
      else e.sequence
    score :=
      match e.record.trip, e.score with
      | some limit, some score => some (scoreAfter limit score f)
      | _, x => x
    state := if trips e f then .tripped else e.state }

/-- The steps up to the outcome step (R39). -/
def findings (e : StreamEntry) (s : Half) (frameBytes : Nat) (arrival : Ticks) : Judging :=
  (((stateStep ⟨e, Findings.start⟩).andThen (sequenceStep s)).andThen (cadenceStep arrival)).andThen
    (meterStep frameBytes arrival)

/-- The verdict of the whole series: the entry afterwards, the frame's fate, and whether the entry tripped. -/
structure Verdict where
  entry : StreamEntry
  fate : Fate
  tripped : Bool
  deriving DecidableEq, Repr

/-- The whole series of checks on one frame (R39). -/
def judgeFrame (e : StreamEntry) (s : Half) (frameBytes : Nat) (arrival : Ticks) : Verdict :=
  let j := findings e s frameBytes arrival
  ⟨outcomeStep s j, j.found.outcome, trips j.entry j.found⟩

/-! ## Fresh check state (R28, R60) -/

/-- The dynamic state that a write without keep-state gives the checks of a record (R28). -/
def freshSequence (r : StreamRecord) : Option SequenceState := r.sequence.map fun _ => ⟨none, []⟩

/-- See `freshSequence`. -/
def freshCadence (r : StreamRecord) : Option CadenceState := r.cadence.map fun _ => ⟨none⟩

/-- See `freshSequence`. The bucket is full at the time given. -/
def freshMeter (r : StreamRecord) (now : Ticks) : Option MeterState := r.meter.map fun m => ⟨m.depth, now⟩

/-- See `freshSequence`. -/
def freshScore (r : StreamRecord) : Option Nat := r.trip.map fun _ => 0

/-- The renewal of an entry's check state (R60): TRIPPED becomes ENABLED, the dynamic state is set afresh, the
counters are kept. -/
def StreamEntry.renew (e : StreamEntry) (now : Ticks) : StreamEntry :=
  { e with
    state := if e.state = .tripped then .enabled else e.state
    sequence := freshSequence e.record
    cadence := freshCadence e.record
    meter := freshMeter e.record now
    score := freshScore e.record }

end Sys2Proof.Machine
end

