-- ==== Sys2Proof/Machine/Notice.lean ====
section
/-! DEFINITION. The Notice Unit (chapter 9): listing, the send order, sending, confirmation, retry and the change of
destination; and the offer of a frame together with the QUEUE_OVERFLOW event its refusal raises (R69). -/

namespace Sys2Proof.Machine

/-! ## Events (R147, section 11.3) -/

/-- The priority of an event's kind, which is also its code (R147, section 11.2). -/
def Event.priority : Event → Nat
  | .beatLost => 1
  | .streamTripped _ => 2
  | .gateOverrun _ => 3
  | .queueOverflow _ _ => 4
  | .sessionExpired _ => 5
  | .planSwapped => 6
  | .beatLocked => 7
  | .unlistedSeen _ => 8

/-- The code of a port: 00h for U, 01h for D (chapter 11). -/
def portByte : Port → Byte
  | .u => 0
  | .d => 1

/-- The two subject bytes of an event (section 11.3). -/
def Event.subject : Event → List Byte
  | .beatLost => [0, 0]
  | .streamTripped i => beBytes 2 i.val
  | .gateOverrun p => [0, portByte p]
  | .queueOverflow p q => [portByte p, BitVec.ofNat 8 q.val]
  | .sessionExpired station => beBytes 2 station.toNat
  | .planSwapped => [0, 0]
  | .beatLocked => [0, 0]
  | .unlistedSeen p => [0, portByte p]

/-- Is an event's kind enabled (R160)? -/
def NoticeSettings.enables (x : NoticeSettings) (e : Event) : Bool := x.kinds.getLsbD (e.priority - 1)

/-! ## The list -/

/-- Is an entry WAITING? -/
def NoticeEntry.isWaiting (x : NoticeEntry) : Bool := x.status == .waiting

/-- Is an entry IN_FLIGHT? -/
def NoticeEntry.isInFlight (x : NoticeEntry) : Bool := !x.isWaiting

/-- Is an entry a WAITING entry of this kind and subject (R150)? -/
def NoticeEntry.isWaitingFor (e : Event) (x : NoticeEntry) : Bool := x.isWaiting && x.event == e

/-- Change the first entry that a test picks. -/
def changeFirst (test : NoticeEntry → Bool) (f : NoticeEntry → NoticeEntry) : List NoticeEntry → List NoticeEntry
  | [] => []
  | x :: xs => if test x then f x :: xs else x :: changeFirst test f xs

/-- The entry with its lost mark cleared, if it is IN_FLIGHT (R157). -/
def NoticeEntry.clearMark (x : NoticeEntry) : NoticeEntry :=
  match x.status with
  | .waiting => x
  | .inFlight attempts _ => { x with status := .inFlight attempts false }

/-- Notices have been lost: the lost flag is set and the lost mark of the entry in flight is cleared (R157). -/
def NoticeUnit.markLoss (n : NoticeUnit) : NoticeUnit :=
  { n with lostFlag := true, list := n.list.map NoticeEntry.clearMark }

/-- Count one more occurrence in an entry (R150 case 2). -/
def NoticeEntry.countOne (x : NoticeEntry) : NoticeEntry := { x with count := min (x.count + 1) Config.noticeCountMax }

/-- Judge an event by R150: not listed because disabled; counted in its WAITING entry; lost to a full list; or listed
as a new WAITING entry. -/
def NoticeUnit.judge (n : NoticeUnit) (e : Event) (now : Ticks) (index : CycleIndex) : NoticeUnit :=
  if !(n.settings.master && n.settings.enables e) then n
  else if n.list.any (NoticeEntry.isWaitingFor e) then
    { n with list := changeFirst (NoticeEntry.isWaitingFor e) NoticeEntry.countOne n.list }
  else if Config.noticeListMax ≤ n.list.length then
    { n.markLoss with counters := { n.counters with noticesLost := countUp n.counters.noticesLost } }
  else
    { n with list := n.list ++ [⟨e, now, index, 1, .waiting, none⟩] }

/-- The Notice Unit takes an event, up to the try of a send that follows (R150). -/
def State.listEvent (s : State) (e : Event) : State :=
  { s with notice := s.notice.judge e s.localTime s.timer.index }

/-! ## The send order (R151) -/

/-- Does entry `x` stand strictly before entry `y` in the send order, their places in the list aside (R151)? -/
def NoticeEntry.leads (x y : NoticeEntry) : Bool :=
  x.event.priority < y.event.priority || (x.event.priority == y.event.priority && x.firstTime < y.firstTime)

/-- Insert an entry into a send order before the first entry that does not lead it. -/
def insertEntry (x : NoticeEntry) : List NoticeEntry → List NoticeEntry
  | [] => [x]
  | y :: ys => if y.leads x then y :: insertEntry x ys else x :: y :: ys

/-- The WAITING entries of a list in send order (R151). -/
def sendOrder (l : List NoticeEntry) : List NoticeEntry := (l.filter NoticeEntry.isWaiting).foldr insertEntry []

/-! ## Sending (R152 to R154) -/

/-- A Bool as the flag byte 01h or 00h. -/
def flagByte (b : Bool) : Byte := if b then 1 else 0

/-- The payload of a NOTICE frame (R154, section 11.3). -/
def noticePayload (x : NoticeEntry) (number : Half) (lostFlag : Bool) : List Byte :=
  beBytes 2 number.toNat ++ [BitVec.ofNat 8 x.event.priority] ++ x.event.subject ++ beBytes 2 x.count
    ++ beBytes 8 x.firstTime ++ beBytes 4 x.firstIndex.toNat ++ [flagByte lostFlag]

/-- The NOTICE frame of an entry for a station (R154). -/
def State.noticeFrame (s : State) (station : Half) (x : NoticeEntry) (number : Half) : Frame :=
  builtFrame station s.station .notice number (noticePayload x number s.notice.lostFlag)

/-- Blocks of a NOTICE frame: 20 payload bytes, 36 frame bytes, one block (R153). -/
def noticeBlocks : Nat := 1

/-- The retry timer's expiry time if it is started now (R148). -/
def State.retryExpiry (s : State) : Ticks := s.localTime + s.notice.settings.retryMs * Config.ticksPerMs

/-- Offer a NOTICE frame to Q3 of a port. The QUEUE_OVERFLOW of its own refusal is listed here; the try of a send that
follows sends nothing, because the notice's own entry is IN_FLIGHT (R69, R152). -/
def State.offerNotice (s : State) (p : Port) (f : Frame) : State :=
  if s.judgeOffer p 3 f = .full then (s.offer p 3 f .notice).listEvent (.queueOverflow p 3)
  else s.offer p 3 f .notice

/-- The first send of an entry to a destination (R153). -/
def State.firstSend (s : State) (dest : Requester) (x : NoticeEntry) : State :=
  match s.takeBlocks noticeBlocks with
  | none => { s with notice := { s.notice with retryTimer := some s.retryExpiry } }
  | some t =>
    let number := x.number.getD s.notice.nextNumber
    let sent : State :=
      { t with
        notice :=
          { t.notice with
            list :=
              changeFirst (NoticeEntry.isWaitingFor x.event)
                (fun y => { y with status := .inFlight 1 s.notice.lostFlag, number := some number }) t.notice.list
            nextNumber := if x.number.isNone then t.notice.nextNumber + 1 else t.notice.nextNumber
            retryTimer := some s.retryExpiry
            counters := { t.notice.counters with sent := countUp t.notice.counters.sent } } }
    sent.offerNotice dest.port (s.noticeFrame dest.station x number)

/-- The Notice Unit tries a send (R152). -/
def State.trySend (s : State) : State :=
  if s.notice.list.any NoticeEntry.isInFlight || s.notice.retryTimer.isSome || !s.notice.settings.master then s
  else
    match s.notice.destination, sendOrder s.notice.list with
    | some dest, x :: _ => if (s.port dest.port).link = .up then s.firstSend dest x else s
    | _, _ => s

/-- A block of the device hands an event to the Notice Unit, which lists it and tries a send (R147, R150). -/
def State.raise (s : State) (e : Event) : State := (s.listEvent e).trySend

/-- Offer a frame to an egress queue; a refusal as *dropped full* raises QUEUE_OVERFLOW (R69). -/
def State.offerFrame (s : State) (p : Port) (q : QueueNo) (f : Frame) (o : Origin) : State :=
  if s.judgeOffer p q f = .full then (s.offer p q f o).raise (.queueOverflow p q) else s.offer p q f o

/-! ## Confirmation (R155) and retry (R156) -/

/-- Does an ACK from this station with this payload match the entry (R155, R174)? -/
def NoticeEntry.matches (x : NoticeEntry) (dest : Option Requester) (station : Half) (payload : List Byte) : Bool :=
  x.isInFlight && decide (2 ≤ payload.length)
    && (match dest with
      | some d => d.station == station
      | none => false)
    && x.number == some (BitVec.ofNat 16 (fieldAt payload 0 2))

/-- The lost mark of an entry. -/
def NoticeEntry.lostMark (x : NoticeEntry) : Bool := match x.status with
  | .waiting => false
  | .inFlight _ mark => mark

/-- An ACK is handed to the Notice Unit with its source station and payload (R155). -/
def State.takeAck (s : State) (station : Half) (payload : List Byte) : State :=
  let n := s.notice
  match n.list.find? fun x => x.matches n.destination station payload with
  | none => { s with notice := { n with counters := { n.counters with stray := countUp n.counters.stray } } }
  | some x =>
    { s with
      notice :=
        { n with
          list := n.list.filter NoticeEntry.isWaiting
          retryTimer := none
          lostFlag := n.lostFlag && !x.lostMark
          counters := { n.counters with acked := countUp n.counters.acked } } }.trySend

/-- Send the entry in flight again (R156): the frame is built anew if the destination's port is UP and the pool grants
its block; an attempt is counted unless the pool refuses; the timer is started again. -/
def State.retryNotice (s : State) (x : NoticeEntry) (attempts : Nat) : State :=
  let restart (t : State) : State := { t with notice := { t.notice with retryTimer := some s.retryExpiry } }
  let setStatus (t : State) (attempts : Nat) (mark : Bool) : State :=
    { t with
      notice :=
        { t.notice with
          list := changeFirst NoticeEntry.isInFlight (fun y => { y with status := .inFlight attempts mark }) t.notice.list } }
  match s.notice.destination with
  | none => restart (setStatus s (attempts + 1) x.lostMark)
  | some dest =>
    if (s.port dest.port).link = .down then restart (setStatus s (attempts + 1) x.lostMark)
    else
      match s.takeBlocks noticeBlocks with
      | none => restart s
      | some t =>
        let t := restart (setStatus t (attempts + 1) s.notice.lostFlag)
        let t := { t with notice := { t.notice with counters := { t.notice.counters with sent := countUp t.notice.counters.sent } } }
        t.offerNotice dest.port (s.noticeFrame dest.station x (x.number.getD 0))

/-- Abandon the entry in flight (R156): it is removed, *abandoned* counts, the lost flag is set, a send is tried. -/
def State.abandonNotice (s : State) : State :=
  let n := { s.notice with list := s.notice.list.filter NoticeEntry.isWaiting }
  { s with
    notice :=
      { n.markLoss with
        retryTimer := none
        counters := { n.counters with abandoned := countUp n.counters.abandoned } } }.trySend

/-- The expiry of the retry timer (R156 with an entry in flight, R153 without one). -/
def State.retryExpired (s : State) : State :=
  let s := { s with notice := { s.notice with retryTimer := none } }
  match s.notice.list.find? NoticeEntry.isInFlight with
  | none => s.trySend
  | some x =>
    match x.status with
    | .waiting => s
    | .inFlight attempts _ =>
      if attempts ≤ s.notice.settings.retryLimit then s.retryNotice x attempts else s.abandonNotice

/-! ## The destination (R149, R158) -/

/-- The destination that R149 gives: the session holder while a session is open, else the standing destination. -/
def State.wantedDestination (s : State) : Option Requester :=
  match s.session with
  | some x => some x.holder
  | none => s.notice.settings.standing

/-- An entry returned from IN_FLIGHT to WAITING and merged with its twin (R158): the counts add up, the first
occurrence is the earlier one's. `tieIndex` is the cycle index where both first occurrence times are equal. -/
def NoticeEntry.merge (x twin : NoticeEntry) (tieIndex : CycleIndex) : NoticeEntry :=
  { x with
    status := .waiting
    count := min (x.count + twin.count) Config.noticeCountMax
    firstTime := min x.firstTime twin.firstTime
    firstIndex :=
      if x.firstTime < twin.firstTime then x.firstIndex
      else if twin.firstTime < x.firstTime then twin.firstIndex
      else tieIndex }

/-- The list after the entry in flight has returned to WAITING and been merged with its twin, if it has one (R158). -/
def returnInFlight (l : List NoticeEntry) (x : NoticeEntry) (tieIndex : CycleIndex) : List NoticeEntry :=
  match l.find? (NoticeEntry.isWaitingFor x.event) with
  | none => changeFirst NoticeEntry.isInFlight (fun y => { y with status := .waiting }) l
  | some twin =>
    changeFirst NoticeEntry.isInFlight (fun y => y.merge twin tieIndex)
      (l.filter fun y => !NoticeEntry.isWaitingFor x.event y)

/-- The cycle index of a merge whose two first occurrence times are equal, drawn where the two differ (log entry 1). -/
def State.drawTieIndex (s : State) (x twin : NoticeEntry) : CycleIndex × State :=
  if x.firstTime = twin.firstTime ∧ x.firstIndex ≠ twin.firstIndex then
    (if s.draw.1 % 2 = 0 then x.firstIndex else twin.firstIndex, s.draw.2)
  else (x.firstIndex, s)

/-- The destination changes (R158), up to the try of a send that follows: the entry in flight returns to WAITING and
is merged with its twin, and the retry timer is stopped. -/
def State.changeDestination (s : State) (dest : Option Requester) : State :=
  match s.notice.list.find? NoticeEntry.isInFlight with
  | none => { s with notice := { s.notice with destination := dest, retryTimer := none } }
  | some x =>
    let tie := s.drawTieIndex x ((s.notice.list.find? (NoticeEntry.isWaitingFor x.event)).getD x)
    { tie.2 with
      notice :=
        { s.notice with
          destination := dest
          retryTimer := none
          list := returnInFlight s.notice.list x tie.1 } }

/-- Recompute the destination and act on a change, up to the try of a send (R149, R158). -/
def State.recomputeDestination (s : State) : State :=
  if s.notice.destination = s.wantedDestination then s else s.changeDestination s.wantedDestination

/-- Recompute the destination and try a send after a change (R149, R152, R158). -/
def State.updateDestination (s : State) : State :=
  if s.notice.destination = s.wantedDestination then s else (s.changeDestination s.wantedDestination).trySend

end Sys2Proof.Machine
end

