-- ==== Sys2Proof/Machine/Flags.lean ====
section
/-! DEFINITION. The status codes and the enumeration and flag bytes of requests and replies (R129, section 11.2,
R172, R173). -/

namespace Sys2Proof.Machine

/-- The status of a reply (R129). -/
inductive Status where
  | ok
  | accepted
  | noSession
  | held
  | unknownRequest
  | badLength
  | badValue
  | duplicateKey
  | notFound
  | commitPending
  | nothingPending
  | invalidPlan
  | broadcastRefused
  deriving DecidableEq, Repr

/-- The code of a status (section 11.2). -/
def Status.code : Status → Byte
  | .ok => 0x00
  | .accepted => 0x01
  | .noSession => 0x10
  | .held => 0x11
  | .unknownRequest => 0x12
  | .badLength => 0x13
  | .badValue => 0x14
  | .duplicateKey => 0x15
  | .notFound => 0x16
  | .commitPending => 0x17
  | .nothingPending => 0x18
  | .invalidPlan => 0x19
  | .broadcastRefused => 0x1A

/-- The answer to a request: its status and the result bytes of that status (R129). -/
structure Answer where
  status : Status
  results : List Byte
  deriving DecidableEq, Repr

/-- A byte read as a flag: 00h is clear or disabled, any other value set or enabled (R172). -/
def flagOf (b : Byte) : Bool := b != 0

/-- The port of a byte, if it is one (chapter 11). -/
def portOf (b : Byte) : Option Port := if b = 0 then some .u else if b = 1 then some .d else none

/-- The byte of a port or of none, FFh (chapter 11). -/
def portOrNone : Option Port → Byte
  | some p => portByte p
  | none => 0xFF

/-- The data queue of a byte, if it is 0 to 2. -/
def dataQueueOf (b : Byte) : Option DataQueueNo := if h : b.toNat < 3 then some ⟨b.toNat, h⟩ else none

/-- The queue of a byte, if it is 0 to 3. -/
def queueOf (b : Byte) : Option QueueNo := if h : b.toNat < 4 then some ⟨b.toNat, h⟩ else none

/-- The stream index of a byte. -/
def indexOf (b : Byte) : StreamIndex := b.toFin

/-- The byte of an entry's state; FREE is 00h (section 11.2). -/
def entryStateByte : Option EntryState → Byte
  | none => 0x00
  | some .enabled => 0x01
  | some .blocked => 0x02
  | some .tripped => 0x03

/-- The state that a record or STREAM_STATE can name, ENABLED or BLOCKED (R21, R32). -/
def writtenStateOf (b : Byte) : Option WrittenState :=
  if b = 0x01 then some .enabled else if b = 0x02 then some .blocked else none

/-- The byte of a written state. -/
def WrittenState.code : WrittenState → Byte
  | .enabled => 0x01
  | .blocked => 0x02

/-- The state of an entry that a write has just set (R27). -/
def WrittenState.toEntry : WrittenState → EntryState
  | .enabled => .enabled
  | .blocked => .blocked

/-- The policy and queue bytes of an unlisted policy; the queue byte of DISCARD is 00h (R173). -/
def UnlistedPolicy.bytes : UnlistedPolicy → List Byte
  | .forward q => [0x00, BitVec.ofNat 8 q.val]
  | .discard => [0x01, 0x00]

/-- The byte of a bank (section 11.2). -/
def Bank.code : Bank → Byte
  | .a => 0x00
  | .b => 0x01

/-- The byte of a beat-following state (section 11.2). -/
def BeatState.code : BeatState → Byte
  | .free => 0x00
  | .seeking => 0x01
  | .locked => 0x02
  | .lost => 0x03

/-- A 4-byte field that may be absent: presence byte, then the value, zeros when absent (chapter 11). -/
def optionBytes (n : Nat) : Option Nat → List Byte
  | some v => 0x01 :: beBytes n v
  | none => 0x00 :: beBytes n 0

/-- A signed 4-byte value in two's complement (R173). -/
def signedBytes (v : Int) : List Byte := beBytes 4 (BitVec.ofInt 32 v).toNat

/-- The last error of TIME_READ: presence byte and signed value (R173). -/
def errorBytes : Option Int → List Byte
  | some v => 0x01 :: signedBytes v
  | none => 0x00 :: beBytes 4 0

/-- A station with a port, or none: 0000h and FFh (R173). -/
def stationBytes : Option Requester → List Byte
  | some r => beBytes 2 r.station.toNat ++ [portByte r.port]
  | none => [0x00, 0x00, 0xFF]

/-- Is a number a station address of a single station, 0001h to FFFEh? -/
def isStation (n : Nat) : Bool := 1 ≤ n && n ≤ 0xFFFE

/-- A counter as its 4 bytes (R166). -/
def counterBytes (l : List Nat) : List Byte := l.flatMap (beBytes 4)

end Sys2Proof.Machine
end

