-- ==== Sys2Proof/Machine/Operands.lean ====
section
/-! DEFINITION. The operation codes, the operand lengths and the operands of the 26 requests (section 11.2, R172), and
the record and window layouts in both directions (R173). -/

namespace Sys2Proof.Machine

/-! ## Operation codes -/

/-- The 26 requests (section 7.8). -/
inductive Op where
  | identify
  | unitReset
  | sessionOpen
  | sessionKeep
  | sessionClose
  | streamWrite
  | streamClear
  | streamState
  | streamRead
  | streamFind
  | streamPurge
  | unlistedSet
  | streamReset
  | queueSet
  | queueRead
  | beatSet
  | timeRead
  | planHeader
  | planWindows
  | planRead
  | planRevert
  | planCommit
  | planCancel
  | noticeSet
  | noticeRead
  | counterRead
  deriving DecidableEq, Repr

/-- The operation code of a request (section 11.2). -/
def Op.code : Op → Byte
  | .identify => 0x01
  | .unitReset => 0x02
  | .sessionOpen => 0x03
  | .sessionKeep => 0x04
  | .sessionClose => 0x05
  | .streamWrite => 0x10
  | .streamClear => 0x11
  | .streamState => 0x12
  | .streamRead => 0x13
  | .streamFind => 0x14
  | .streamPurge => 0x15
  | .unlistedSet => 0x16
  | .streamReset => 0x17
  | .queueSet => 0x20
  | .queueRead => 0x21
  | .beatSet => 0x28
  | .timeRead => 0x29
  | .planHeader => 0x30
  | .planWindows => 0x31
  | .planRead => 0x32
  | .planRevert => 0x33
  | .planCommit => 0x34
  | .planCancel => 0x35
  | .noticeSet => 0x38
  | .noticeRead => 0x39
  | .counterRead => 0x40

/-- All 26 requests. -/
def Op.all : List Op :=
  [.identify, .unitReset, .sessionOpen, .sessionKeep, .sessionClose, .streamWrite, .streamClear, .streamState,
    .streamRead, .streamFind, .streamPurge, .unlistedSet, .streamReset, .queueSet, .queueRead, .beatSet, .timeRead,
    .planHeader, .planWindows, .planRead, .planRevert, .planCommit, .planCancel, .noticeSet, .noticeRead,
    .counterRead]

/-- The request of an operation code; any other code is unknown (R121 step 3). -/
def Op.ofCode (b : Byte) : Option Op := Op.all.find? fun o => o.code == b

/-! ## Operand lengths (R172) -/

/-- The presence marks of a STREAM_WRITE operand: operand byte 9 (R172). -/
def marksOf (ops : List Byte) : Byte := byteAt ops 9

/-- The operand length that a STREAM_WRITE's presence marks declare (R172). -/
def streamWriteLength (marks : Byte) : Nat :=
  10 + (if marks.getLsbD 0 then 1 else 0) + (if marks.getLsbD 1 then 9 else 0) + (if marks.getLsbD 2 then 5 else 0)
    + (if marks.getLsbD 3 then 1 else 0)

/-- Does an operand length agree with the operation (R121 step 4, R172)? -/
def Op.lengthAgrees (o : Op) (ops : List Byte) : Bool :=
  match o with
  | .identify | .unitReset | .sessionKeep | .sessionClose | .timeRead | .planRevert | .planCommit | .planCancel
  | .noticeRead => ops.length == 0
  | .streamClear | .streamRead => ops.length == 1
  | .sessionOpen | .streamState | .streamPurge | .streamReset | .queueRead | .planRead => ops.length == 2
  | .unlistedSet => ops.length == 3
  | .counterRead => ops.length == 4
  | .streamFind | .beatSet => ops.length == 5
  | .queueSet | .planHeader => ops.length == 6
  | .noticeSet => ops.length == 9
  | .streamWrite => 10 ≤ ops.length && ops.length == streamWriteLength (marksOf ops)
  | .planWindows => 3 ≤ ops.length && ops.length == 3 + 5 * (byteAt ops 2).toNat

/-- Does a request need a session (section 7.8)? COUNTER_READ needs one when its clear flag is set (R123). -/
def Op.needsSession (o : Op) (ops : List Byte) : Bool :=
  match o with
  | .identify | .sessionOpen | .streamRead | .streamFind | .queueRead | .timeRead | .planRead | .noticeRead => false
  | .counterRead => flagOf (byteAt ops 3)
  | .unitReset | .sessionKeep | .sessionClose | .streamWrite | .streamClear | .streamState | .streamPurge
  | .unlistedSet | .streamReset | .queueSet | .beatSet | .planHeader | .planWindows | .planRevert | .planCommit
  | .planCancel | .noticeSet => true

/-! ## The stream record (section 11.2, R21) -/

/-- A value, if a test on it holds. -/
def checked {α : Type} (ok : Bool) (x : α) : Option α := if ok then some x else none

/-- An optional part of a record: absent, or present and in range, or out of range. -/
def partOf {α : Type} (present : Bool) (x : Option α) : Option (Option α) :=
  if present then x.map some else some none

/-- The sequence part: W, 1 to 32. -/
def sequencePartOf (bs : List Byte) : Option Nat :=
  checked (1 ≤ (byteAt bs 0).toNat && (byteAt bs 0).toNat ≤ 32) (byteAt bs 0).toNat

/-- The early action of a byte. -/
def earlyActionOf (b : Byte) : Option EarlyAction :=
  if b = 0 then some .count else if b = 1 then some .discard else none

/-- The cadence part: I, 1,000 to 10,000,000; T, 0 to I/2; early action. -/
def cadencePartOf (bs : List Byte) : Option CadencePart :=
  let i := fieldAt bs 0 4
  let t := fieldAt bs 4 4
  if 1000 ≤ i && i ≤ 10000000 && t ≤ i / 2 then (earlyActionOf (byteAt bs 8)).map fun a => ⟨i, t, a⟩ else none

/-- The meter action of its byte and the demote queue byte; DISCARD ignores the queue byte (R21, R172). -/
def meterActionOf (action queue : Byte) : Option MeterAction :=
  if action = 0 then some .discard
  else if action = 1 then (dataQueueOf queue).map .demote
  else none

/-- The meter part: R, 1 to 128; B, 16 to 65,535; action and demote queue. -/
def meterPartOf (bs : List Byte) : Option MeterPart :=
  let r := (byteAt bs 0).toNat
  let b := fieldAt bs 1 2
  if 1 ≤ r && r ≤ 128 && 16 ≤ b then (meterActionOf (byteAt bs 3) (byteAt bs 4)).map fun a => ⟨r, b, a⟩ else none

/-- The trip part: L, 1 to 255. -/
def tripPartOf (bs : List Byte) : Option Nat := checked (1 ≤ (byteAt bs 0).toNat) (byteAt bs 0).toNat

/-- A key of its port, source and tag bytes, if each is in range (R21, R34). -/
def keyOf (port : Byte) (source tag : Nat) : Option StreamKey :=
  match portOf port with
  | some p => checked (isStation source && tag ≤ Config.maxTag) ⟨p, BitVec.ofNat 16 source, BitVec.ofNat 16 tag⟩
  | none => none

/-- The valid record that bytes spell (section 11.2, R21); absent if any field is out of range, the upper four
presence marks included (R172). -/
def recordOf (bs : List Byte) : Option StreamRecord :=
  let marks := byteAt bs 7
  let seqAt := 8
  let cadAt := seqAt + (if marks.getLsbD 0 then 1 else 0)
  let metAt := cadAt + (if marks.getLsbD 1 then 9 else 0)
  let tripAt := metAt + (if marks.getLsbD 2 then 5 else 0)
  match writtenStateOf (byteAt bs 0), keyOf (byteAt bs 1) (fieldAt bs 2 2) (fieldAt bs 4 2), dataQueueOf (byteAt bs 6),
    partOf (marks.getLsbD 0) (sequencePartOf (bs.drop seqAt)), partOf (marks.getLsbD 1) (cadencePartOf (bs.drop cadAt)),
    partOf (marks.getLsbD 2) (meterPartOf (bs.drop metAt)), partOf (marks.getLsbD 3) (tripPartOf (bs.drop tripAt)) with
  | some state, some key, some queue, some sequence, some cadence, some meter, some trip =>
    checked (marks.toNat < 16) ⟨state, key, queue, sequence, cadence, meter, trip⟩
  | _, _, _, _, _, _, _ => none

/-- The byte of an early action. -/
def EarlyAction.code : EarlyAction → Byte
  | .count => 0
  | .discard => 1

/-- The action and demote-queue bytes of a meter; the queue byte of DISCARD is 00h (R173). -/
def MeterAction.bytes : MeterAction → List Byte
  | .discard => [0x00, 0x00]
  | .demote q => [0x01, BitVec.ofNat 8 q.val]

/-- Presence marks (section 11.2). -/
def marksByte (sequence cadence meter trip : Bool) : Byte :=
  BitVec.ofNat 8 (sequence.toNat + 2 * cadence.toNat + 4 * meter.toNat + 8 * trip.toNat)

/-- The bytes of a record (section 11.2, R173). -/
def StreamRecord.bytes (r : StreamRecord) : List Byte :=
  [r.state.code, portByte r.key.port] ++ beBytes 2 r.key.source.toNat ++ beBytes 2 r.key.tag.toNat
    ++ [BitVec.ofNat 8 r.queue.val, marksByte r.sequence.isSome r.cadence.isSome r.meter.isSome r.trip.isSome]
    ++ (match r.sequence with
      | some w => [BitVec.ofNat 8 w]
      | none => [])
    ++ (match r.cadence with
      | some c => beBytes 4 c.interval ++ beBytes 4 c.tolerance ++ [c.early.code]
      | none => [])
    ++ (match r.meter with
      | some m => [BitVec.ofNat 8 m.fill] ++ beBytes 2 m.depth ++ m.action.bytes
      | none => [])
    ++ (match r.trip with
      | some l => [BitVec.ofNat 8 l]
      | none => [])

/-! ## Windows (section 11.2, R101) -/

/-- The window of 5 bytes, if its duration is in range and its open set names Q0 to Q3 only. -/
def windowOf (bs : List Byte) : Option Window :=
  let d := fieldAt bs 0 4
  let o := byteAt bs 4
  checked (Config.windowMin ≤ d && d ≤ Config.windowMax && o.toNat < 16) ⟨d, o.setWidth 4⟩

/-- The windows of a list of `n`, if each is in range. -/
def windowsOf : Nat → List Byte → Option (List Window)
  | 0, _ => some []
  | n + 1, bs =>
    match windowOf (bs.take 5), windowsOf n (bs.drop 5) with
    | some w, some ws => some (w :: ws)
    | _, _ => none

/-- The 5 bytes of a window slot; an unset slot is duration 0 and open set 00h (section 11.2). -/
def slotBytes : Option Window → List Byte
  | some w => beBytes 4 w.duration ++ [w.openSet.setWidth 8]
  | none => [0, 0, 0, 0, 0]

/-! ## Notice settings (section 11.2, R159, R172) -/

/-- The settings of a NOTICE_SET operand, if each is in range: `own` is the device's station address. -/
def noticeSettingsOf (own : Half) (ops : List Byte) : Option NoticeSettings :=
  let station := fieldAt ops 3 2
  let standing : Option (Option Requester) :=
    if station = 0 then some none
    else
      match portOf (byteAt ops 5) with
      | some p => checked (isStation station && station != own.toNat) (some ⟨BitVec.ofNat 16 station, p⟩)
      | none => none
  let ms := fieldAt ops 6 2
  let limit := (byteAt ops 8).toNat
  match standing with
  | some x =>
    checked (fieldAt ops 1 2 < 256 && 1 ≤ ms && ms ≤ 1000 && limit ≤ 15)
      ⟨flagOf (byteAt ops 0), BitVec.ofNat 8 (fieldAt ops 1 2), x, ms, limit⟩
  | none => none

/-- Settings in the layout of the NOTICE_SET operands (R173). -/
def NoticeSettings.bytes (x : NoticeSettings) : List Byte :=
  [flagByte x.master] ++ beBytes 2 x.kinds.toNat ++ stationBytes x.standing ++ beBytes 2 x.retryMs
    ++ [BitVec.ofNat 8 x.retryLimit]

end Sys2Proof.Machine
end

