-- ==== Sys2Proof/Machine/Timer.lean ====
section
/-! DEFINITION. Cycle starts, the swap of the plan banks, the gates' windows, and beat following (chapter 5, R106,
R109 to R112, R117). -/

namespace Sys2Proof.Machine

/-! ## What a cycle start hands to its neighbours -/

/-- One thing that an event does and whose order among the others of the event the spec leaves open (R83, R75). -/
inductive Work where
  /-- A queue ages its head frames (R74). -/
  | age (p : Port) (q : QueueNo)
  /-- The gate of a port tries a selection (R111). -/
  | select (p : Port)
  /-- A block hands an event to the Notice Unit (R147). -/
  | raise (e : Event)
  deriving DecidableEq, Repr

/-- Do one such thing. -/
def runWork : Work → State → State
  | .age p q, s => s.ageQueue p q
  | .select p, s => s.trySelect p
  | .raise e, s => s.raise e

/-- The queues of a port that have an age limit, each to be aged (R74). -/
def ageWork (s : State) (p : Port) : List Work :=
  ([0, 1, 2, 3].filter fun q => (s.queue p q).ageLimit != 0).map (Work.age p)

/-- The selection of a port's gate at a cycle start, if the port is UP and its transmitter IDLE (R111). -/
def selectWork (s : State) (p : Port) : List Work := if s.canSend p then [.select p] else []

/-! ## The plan banks at a cycle start (R106) -/

/-- The Plan Banks at a cycle start with this index: the swap is made if commit-pending is set (R106). -/
def PlanBanks.atCycleStart (b : PlanBanks) (index : CycleIndex) : PlanBanks :=
  if b.commitPending then { b with active := b.active.other, commitPending := false, lastSwap := some index } else b

/-! ## The gates (R109 to R112) -/

/-- Is the transmitter of a port SENDING? -/
def PortState.isSending (P : PortState) : Bool := P.transmitter != .idle

/-- The gate of a port at a cycle start (R111, R117): window 0 of the active plan, measured from the start time; a
realign that finds the transmitter SENDING counts an overrun. -/
def gateAtStart (plan : Plan) (start : Ticks) (realign : Bool) (P : PortState) : PortState :=
  { P with
    gate :=
      { window := 0
        windowEnd := start + plan.duration 0
        overruns := if realign && P.isSending then countUp P.gate.overruns else P.gate.overruns } }

/-- The overrun event of a port at a realign (R117). -/
def overrunWork (s : State) (p : Port) : List Work := if (s.port p).isSending then [.raise (.gateOverrun p)] else []

/-! ## Misses (R92) -/

/-- Did the cycle that ends count as a miss: LOCKED and without its beat (R92)? -/
def State.missed (s : State) : Bool := s.beat.state == .locked && !s.timer.beatSeen

/-- Is the beat lost at this cycle start: a fourth miss at a scheduled start (R92)? -/
def State.lostByMiss (s : State) (realign : Bool) : Bool :=
  s.missed && !realign && decide (Config.missLimit ≤ s.beat.missCount + 1)

/-- Beat following at a cycle start (R92). -/
def beatAtStart (s : State) (realign : Bool) : BeatFollowing :=
  if s.missed then
    { s.beat with
      missCount := s.beat.missCount + 1
      state := if s.lostByMiss realign then .lost else s.beat.state
      counters :=
        { s.beat.counters with
          misses := countUp s.beat.counters.misses
          lost := if s.lostByMiss realign then countUp s.beat.counters.lost else s.beat.counters.lost } }
  else s.beat

/-! ## The cycle start (R82, R83) -/

/-- The state in which the neighbours of a cycle start begin their work: the index is up by 1, the swap is made, the
new cycle has its start and scheduled end under the plans active in it, the gates stand in window 0, the miss of the
cycle that ended is counted and the beat seen mark is no (R82, R83, R92, R106, R111). -/
def State.startCycle (s : State) (start : Ticks) (realign : Bool) : State :=
  let plans := s.plans.atCycleStart (s.timer.index + 1)
  let length := (plans.activePlan .u).cycleLength
  { s with
    timer := ⟨s.timer.index + 1, start, start + length, length, false⟩
    plans := plans
    beat := beatAtStart s realign
    portU := gateAtStart (plans.activePlan .u) start realign s.portU
    portD := gateAtStart (plans.activePlan .d) start realign s.portD }

/-- What a cycle start leaves to be done in an order the spec leaves open: PLAN_SWAPPED, BEAT_LOST, the overrun
events of a realign, the ageing of the queues and the gates' selections (R83, R75, R106, R117). `s` is the state
before the start. -/
def cycleWork (s : State) (realign : Bool) : List Work :=
  (if s.plans.commitPending then [.raise .planSwapped] else [])
    ++ (if s.lostByMiss realign then [.raise .beatLost] else [])
    ++ (if realign then overrunWork s .u ++ overrunWork s .d else [])
    ++ ageWork s .u ++ ageWork s .d ++ selectWork s .u ++ selectWork s .d

/-- The scheduled cycle start (R82): the new cycle starts at the scheduled end. -/
def State.scheduledStart (s : State) : State :=
  inAnyOrder runWork (cycleWork s false) (s.startCycle s.timer.scheduledEnd false)

/-! ## Beats (R86 to R91) -/

/-- Count in the BEAT group. -/
def State.countBeat (s : State) (f : BeatCounters → BeatCounters) : State :=
  { s with beat := { s.beat with counters := f s.beat.counters } }

/-- Beat following locks: LOCKED, both counts 0, the last error absent, the cycle's beat seen (R86). -/
def State.lock (s : State) : State :=
  { s with
    beat := { s.beat with state := .locked, faultCount := 0, missCount := 0, lastError := none }
    timer := { s.timer with beatSeen := true } }

/-- A beat in SEEKING or LOST: it realigns the cycle and locks, or, at the very instant its cycle started, locks only
(R86). -/
def State.lockingBeat (s : State) (t : Ticks) : State :=
  if s.timer.start = t then s.lock.raise .beatLocked
  else
    inAnyOrder runWork (cycleWork s true ++ [.raise .beatLocked])
      ((s.startCycle t true).lock.countBeat fun c => { c with realigns := countUp c.realigns })

/-- A tolerated beat clears both counts and sets the last error (R87). -/
def State.tolerate (s : State) (error : Int) : State :=
  { s with beat := { s.beat with faultCount := 0, missCount := 0, lastError := some error } }

/-- Set the beat seen mark of the cycle in progress to yes. -/
def State.markBeat (s : State) : State := { s with timer := { s.timer with beatSeen := true } }

/-- The gate of a port at a re-anchor: it keeps its window and measures the window's end from the new start (R112). -/
def gateAtReAnchor (plan : Plan) (start : Ticks) (P : PortState) : PortState :=
  { P with gate := { P.gate with windowEnd := start + plan.span (P.gate.window + 1) } }

/-- A tolerated late beat re-anchors the cycle in progress (R88, R112). The two gates act on different queues and
transmitters, so the order of their selections changes nothing. -/
def State.reAnchor (s : State) (t : Ticks) : State :=
  let moved : State :=
    { s with
      timer := { s.timer with start := t, scheduledEnd := t + s.timer.length }
      portU := gateAtReAnchor (s.plans.activePlan .u) t s.portU
      portD := gateAtReAnchor (s.plans.activePlan .d) t s.portD }
  (((moved.tolerate (t - s.timer.start : Nat)).markBeat.countBeat fun c =>
    { c with reAnchors := countUp c.reAnchors }).trySelect .u).trySelect .d

/-- A tolerated early beat starts the next cycle at its arrival (R89). -/
def State.earlyBeat (s : State) (t : Ticks) : State :=
  let error : Int := (t : Int) - (s.timer.start + s.timer.length : Nat)
  inAnyOrder runWork (cycleWork s true)
    (((s.startCycle t true).tolerate error).markBeat.countBeat fun c => { c with realigns := countUp c.realigns })

/-- A first beat outside the tolerance is a fault; the third makes beat following LOST (R90). -/
def State.beatFault (s : State) : State :=
  let lost := decide (Config.faultLimit ≤ s.beat.faultCount + 1)
  let s := (s.markBeat.countBeat fun c =>
    { c with faults := countUp c.faults, lost := if lost then countUp c.lost else c.lost })
  let s : State :=
    { s with
      beat :=
        { s.beat with
          faultCount := s.beat.faultCount + 1
          state := if lost then .lost else s.beat.state } }
  if lost then s.raise .beatLost else s

/-- The judgement of the first beat of a cycle in LOCKED (R87): with `a` the beat's arrival time less the current cycle
start, it is late by `a` if `a` is no more than C/2, and early by `C - a` otherwise. -/
def State.firstBeat (s : State) (t : Ticks) : State :=
  let a := t - s.timer.start
  if 2 * a ≤ s.timer.length then
    if a ≤ s.beat.tolerance then s.reAnchor t else s.beatFault
  else
    if s.timer.length - a ≤ s.beat.tolerance then s.earlyBeat t else s.beatFault

/-- Routing reports a beat with its arrival time to the Cycle Timer (R15). In FREE none is reported (R85). -/
def State.reportBeat (s : State) (t : Ticks) : State :=
  match s.beat.state with
  | .free => s
  | .seeking => (s.countBeat fun c => { c with beats := countUp c.beats }).lockingBeat t
  | .lost => (s.countBeat fun c => { c with beats := countUp c.beats }).lockingBeat t
  | .locked =>
    let s := s.countBeat fun c => { c with beats := countUp c.beats }
    if s.timer.beatSeen then s.countBeat fun c => { c with extra := countUp c.extra } else s.firstBeat t

end Sys2Proof.Machine
end

