-- ==== Sys2Proof/Machine/Reset.lean ====
section
/-! DEFINITION. The unit reset (R132, R133), the frame of every event, and the time at which an event of the device's
own timers happens (section 5.1, log entries 4 and 5). -/

namespace Sys2Proof.Machine

/-! ## The unit reset -/

/-- Blocks held by a request in the request queue (R66): its frame has 12 + 2 + operands + 4 bytes. -/
def Request.blocks (r : Request) : Nat := blocksFor (12 + (2 + r.operands.length) + 4)

/-- Blocks held by the four queues of a port. -/
def PortState.queueBlocks (P : PortState) : Nat := (P.queues.toList.map Queue.blocks).sum

/-- Blocks held by the request queue. -/
def requestBlocks (l : List Request) : Nat := (l.map Request.blocks).sum

/-- A port after a unit reset performed at `now` (R1, R38, R76, R109): the queues, the gate, the unlisted policy and
the counters are reset; the link, its pin, the receiver and the transmitter go on. -/
def PortState.unitReset (P : PortState) (now : Ticks) : PortState :=
  { P with
    queues := Queue.freshAll
    gate := ⟨0, now + Config.defaultCycleLength, 0⟩
    unlisted := .forward 0
    counters := PortCounters.zero }

/-- The unit reset, performed as one event (R133). Its cycle start swaps no plan, ages no frame and counts no miss
(R84), and its gates find empty queues, so they select nothing. -/
def State.unitReset (s : State) : State :=
  { s with
    timer :=
      ⟨s.timer.index + 1, s.localTime, s.localTime + Config.defaultCycleLength, Config.defaultCycleLength, false⟩
    beat := BeatFollowing.default
    portU := s.portU.unitReset s.localTime
    portD := s.portD.unitReset s.localTime
    pool := s.pool + s.portU.queueBlocks + s.portD.queueBlocks + requestBlocks s.engine.queue
    table := Vector.replicate 256 none
    plans := PlanBanks.default
    engine := Engine.default
    session := none
    notice := NoticeUnit.default }

/-- The end of an event: if the awaited reply has left Q3 in it, the unit reset is performed, after every count of the
event (R132, R170). -/
def State.settle (s : State) : State := if s.engine.state = .resetDue then s.unitReset else s

/-- An event of the device: nothing happens while a cold reset is held (R175, log entry 6), and otherwise its effect,
settled. -/
def runEvent (s : State) (effect : State → State) : Host.Outcome State Fault Refusal :=
  if s.resetHeld then .next s else .next (effect s).settle

/-! ## Timers -/

/-- The completion time of a port's transmission, if it is SENDING (R18). -/
def PortState.completion (P : PortState) : Option Ticks :=
  match P.transmitter with
  | .idle => none
  | .sending _ _ t => some t

/-- The time of a port's next window change, if the current window is not the last in use (R110). -/
def State.windowChangeAt (s : State) (p : Port) : Option Ticks :=
  if (s.port p).gate.window + 1 < (s.plans.activePlan p).windowCount then some (s.port p).gate.windowEnd else none

/-- The time by which the purge walk has visited entry 255 (R35). -/
def Engine.purgeBy (e : Engine) : Option Ticks :=
  match e.state with
  | .purging _ _ _ _ takenAt => some (takenAt + Config.purgeBound)
  | _ => none

/-- The times that local time cannot pass before the event due at each has happened: the completions, the scheduled
end, the window changes, the lease's expiry, the retry timer's expiry and the bound of the purge walk. -/
def State.deadlines (s : State) : List Ticks :=
  s.timer.scheduledEnd
    :: ([s.portU.completion, s.portD.completion, s.windowChangeAt .u, s.windowChangeAt .d,
        s.session.map Session.expiry, s.notice.retryTimer, s.engine.purgeBy].filterMap id)

/-- An event of a timer that falls at `due` (log entry 5): if no other deadline comes before it, local time reaches
`due` and the event happens; otherwise it is not the next event and does not happen here. -/
def State.whenReached (s : State) (due : Option Ticks) (effect : State → State) : State :=
  match due with
  | none => s
  | some t => if s.deadlines.all (t ≤ ·) then effect { s with localTime := max s.localTime t } else s

end Sys2Proof.Machine
end

