-- ==== Sys2Proof/Machine/Engine.lean ====
section
/-! DEFINITION. The Management Engine (chapter 7): the request queue, the take, the handling series, replies and the
reply memory; and the lease renewal of the Session Record (R138). -/

namespace Sys2Proof.Machine

/-! ## The reply memory (R127) -/

/-- Does an entry of the reply memory answer a request again (R121 step 2)? -/
def MemoryEntry.answers (m : MemoryEntry) (r : Request) : Bool :=
  m.requester == r.requester && m.number == r.number && m.op == r.op

/-- Store an entry: the requester's own entry goes, else the oldest of four; the new one is the newest (R127). -/
def storeEntry (l : List MemoryEntry) (m : MemoryEntry) : List MemoryEntry :=
  let others := l.filter fun x => x.requester != m.requester
  (if others.length < Config.replyMemoryMax then others else others.drop 1) ++ [m]

/-! ## Replies (R125) -/

/-- The payload of a reply: request number and operation code as received, status, results (R125). -/
def replyPayload (r : Request) (a : Answer) : List Byte := [r.number, r.op, a.status.code] ++ a.results

/-- Store a reply payload (R125, R127). -/
def State.storeReply (s : State) (r : Request) (payload : List Byte) : State :=
  { s with engine := { s.engine with memory := storeEntry s.engine.memory ⟨r.requester, r.number, r.op, payload⟩ } }

/-- No frame is built for a reply (R125): *reply dropped* counts, and a unit reset that awaits the reply is due
(R132). -/
def State.dropReply (s : State) : State :=
  let s := s.countManagement fun c => { c with replyDropped := countUp c.replyDropped }
  if s.engine.state = .resetting then { s with engine := { s.engine with state := .resetDue } } else s

/-- The REPLY frame of a payload (R125). -/
def State.replyFrame (s : State) (r : Request) (payload : List Byte) : Frame :=
  builtFrame r.requester.station s.station .reply r.seq payload

/-- Build and offer a REPLY frame, or drop it for a DOWN port or an empty pool (R125, R67). The reply that the engine
awaits is the one built in RESETTING (R132). -/
def State.sendReply (s : State) (r : Request) (payload : List Byte) : State :=
  let f := s.replyFrame r payload
  if (s.port r.requester.port).link = .down then s.dropReply
  else
    match s.takeBlocks f.blocks with
    | none => s.dropReply
    | some t =>
      (t.countManagement fun c => { c with repliesBuilt := countUp c.repliesBuilt }).offerFrame r.requester.port 3 f
        (.reply (t.engine.state == .resetting))

/-- Answer a request: the reply is stored, then sent (R125). -/
def State.answer (s : State) (r : Request) (a : Answer) : State :=
  (s.storeReply r (replyPayload r a)).sendReply r (replyPayload r a)

/-! ## The session at a take (R123, R138) -/

/-- Does this requester hold the session? -/
def State.isHolder (s : State) (q : Requester) : Bool :=
  match s.session with
  | some x => x.holder == q
  | none => false

/-- Renew the lease if this requester holds the session (R138). -/
def State.renewLease (s : State) (q : Requester) : State :=
  match s.session with
  | some x =>
    if x.holder = q then { s with session := some { x with expiry := s.localTime + x.leaseMs * Config.ticksPerMs } } else s
  | none => s

/-- The refusal of a requester that does not hold the session: NO_SESSION, or HELD with the holder (R123, R129). -/
def State.sessionRefusal (s : State) : Answer :=
  match s.session with
  | none => ⟨.noSession, []⟩
  | some x => ⟨.held, stationBytes (some x.holder)⟩

/-! ## The handling series (R121) -/

/-- Where steps 1 to 5 of the handling series send a request. -/
inductive Screening where
  /-- Refused at step 1, 3, 4 or 5. -/
  | refused (a : Answer)
  /-- A repeat (step 2). -/
  | repeated (m : MemoryEntry)
  /-- It reaches step 6. -/
  | passed
  deriving DecidableEq, Repr

/-- Steps 1 to 5 of the handling series (R121); `o` is the request of the operation code. -/
def State.screen (s : State) (o : Option Op) (r : Request) : Screening :=
  if r.isBroadcast && o != some .identify then .refused ⟨.broadcastRefused, []⟩
  else
    match s.engine.memory.find? fun m => m.answers r with
    | some m => .repeated m
    | none =>
      match o with
      | none => .refused ⟨.unknownRequest, []⟩
      | some o =>
        if !o.lengthAgrees r.operands then .refused ⟨.badLength, []⟩
        else if o.needsSession r.operands && !s.isHolder r.requester then .refused s.sessionRefusal
        else .passed

/-- What step 6 of a request does: the state after its effect, and its answer, absent for a STREAM_PURGE whose walk
has begun (R124). -/
abbrev Served := State × Option Answer

/-- Handle a taken request (R121, R122, R124). `serve` is step 6 of the request. -/
def State.handle (s : State) (o : Option Op) (serve : Request → State → Served) (r : Request) : State :=
  match s.screen o r with
  | .refused a => s.answer r a
  | .repeated m =>
    ((s.renewLease r.requester).countManagement fun c => { c with repeats := countUp c.repeats }).sendReply r m.payload
  | .passed =>
    match serve r (s.renewLease r.requester) with
    | (t, some a) => t.answer r a
    | (t, none) => t

/-! ## The take (R120) -/

/-- The take: the head request leaves the queue, its blocks return, *requests taken* counts, the engine is EXECUTING
(R120, R66). -/
def State.takeHead (s : State) (r : Request) (rest : List Request) : State :=
  { s with
    pool := s.pool + r.blocks
    engine :=
      { s.engine with
        queue := rest
        state := .executing
        counters := { s.engine.counters with requestsTaken := countUp s.engine.counters.requestsTaken } } }

/-- The end of the handling event: EXECUTING goes back to IDLE; PURGING and RESETTING stand (section 7.2). -/
def State.endTake (s : State) : State :=
  if s.engine.state = .executing then { s with engine := { s.engine with state := .idle } } else s

/-- The take of a request of this operation and its whole handling (R120): it happens when the engine is IDLE and such
a request is at the head of the request queue; otherwise no such take is there to happen. -/
def State.takeRequest (s : State) (o : Option Op) (serve : Request → State → Served) : State :=
  match s.engine.state, s.engine.queue with
  | .idle, r :: rest => if Op.ofCode r.op = o then ((s.takeHead r rest).handle o serve r).endTake else s
  | _, _ => s

/-! ## Admission to the request queue (R119) -/

/-- The request that a CONTROL frame with a payload of 2 bytes or more carries (R118). -/
def requestOf (f : Frame) (arrival : Port) : Request where
  requester := ⟨f.src, arrival⟩
  isBroadcast := f.dest == Config.broadcast
  seq := f.seq
  number := byteAt f.payload 0
  op := byteAt f.payload 1
  operands := f.payload.drop 2

/-- Is a CONTROL frame admitted to the request queue (R119)? -/
def State.admitsRequest (s : State) (f : Frame) : Bool :=
  2 ≤ f.payload.length && s.engine.queue.length < Config.requestQueueMax

/-- Judge a CONTROL frame offered to the request queue (R119): malformed, dropped, or admitted at the tail. -/
def State.offerRequest (s : State) (f : Frame) (arrival : Port) : State :=
  if f.payload.length < 2 then
    (s.returnBlocks f.blocks).countManagement fun c => { c with malformedRequest := countUp c.malformedRequest }
  else if Config.requestQueueMax ≤ s.engine.queue.length then
    (s.returnBlocks f.blocks).countManagement fun c => { c with requestsDropped := countUp c.requestsDropped }
  else { s with engine := { s.engine with queue := s.engine.queue ++ [requestOf f arrival] } }

end Sys2Proof.Machine
end

