-- ==== Sys2Proof/Machine/BeatRequests.lean ====
section
/-! DEFINITION. BEAT_SET and TIME_READ (section 5.4), and the scheduled cycle start as a command. -/

namespace Sys2Proof.Machine

/-- SCHEDULED_CYCLE_START (R82): local time reaches the scheduled end. -/
def execScheduledCycleStart (s : State) : Host.Outcome State Fault Refusal :=
  runEvent s fun s => s.whenReached (some s.timer.scheduledEnd) State.scheduledStart

/-- The source of BEAT_SET: U, D or none, FFh (R93). -/
def sourceOf (b : Byte) : Option (Option Port) := if b = 0xFF then some none else (portOf b).map some

/-- Is a tolerance accepted (R93): 100 to 100,000, no more than C/4, and no more than a quarter of the length of the
plans that await a swap? -/
def State.acceptsTolerance (s : State) (tb : Nat) : Bool :=
  100 ≤ tb && tb ≤ 100000 && 4 * tb ≤ s.timer.length
    && (!s.plans.commitPending || 4 * tb ≤ (s.plans.stagedPlan .u).cycleLength)

/-- Beat following after an accepted BEAT_SET (R93). -/
def BeatFollowing.set (b : BeatFollowing) (source : Option Port) (tb : Nat) : BeatFollowing :=
  { b with
    state := if source.isSome then .seeking else .free
    source := source
    tolerance := tb
    faultCount := 0
    missCount := 0
    lastError := none }

/-- Step 6 of BEAT_SET (R93). -/
def serveBeatSet (r : Request) (s : State) : Served :=
  let tb := fieldAt r.operands 1 4
  match sourceOf (byteAt r.operands 0) with
  | some source =>
    if s.acceptsTolerance tb then
      ({ s with beat := s.beat.set source tb },
        some ⟨.ok, [portOrNone s.beat.source] ++ beBytes 4 s.beat.tolerance ++ [s.beat.state.code]⟩)
    else (s, some ⟨.badValue, []⟩)
  | none => (s, some ⟨.badValue, []⟩)

/-- BEAT_SET (R93). -/
def execBeatSet (s : State) : Host.Outcome State Fault Refusal :=
  runEvent s fun s => s.takeRequest (some .beatSet) serveBeatSet

/-- The results of TIME_READ (R94, R173). -/
def State.timeResults (s : State) : List Byte :=
  beBytes 8 s.localTime ++ beBytes 4 s.timer.index.toNat ++ beBytes 4 (s.localTime - s.timer.start)
    ++ beBytes 4 s.timer.length ++ [s.beat.state.code, portOrNone s.beat.source] ++ beBytes 4 s.beat.tolerance
    ++ errorBytes s.beat.lastError ++ [BitVec.ofNat 8 s.beat.faultCount, BitVec.ofNat 8 s.beat.missCount]

/-- Step 6 of TIME_READ (R94). -/
def serveTimeRead (_ : Request) (s : State) : Served := (s, some ⟨.ok, s.timeResults⟩)

/-- TIME_READ (R94). -/
def execTimeRead (s : State) : Host.Outcome State Fault Refusal :=
  runEvent s fun s => s.takeRequest (some .timeRead) serveTimeRead

end Sys2Proof.Machine
end

