-- ==== Sys2Proof/Machine/Table.lean ====
section
/-! DEFINITION. The Stream Table (chapter 2): lookup, classification of a DATA frame and the unlisted policy. -/

namespace Sys2Proof.Machine

/-- The entry at an index; absent when FREE. -/
def State.entry (s : State) (i : StreamIndex) : Option StreamEntry := s.table[i]

/-- Replace the entry at an index. -/
def State.setEntry (s : State) (i : StreamIndex) (e : Option StreamEntry) : State :=
  { s with table := s.table.set i e }

/-- Does the entry at an index stand, with this key? -/
def State.hasKey (s : State) (k : StreamKey) (i : StreamIndex) : Bool :=
  match s.entry i with
  | some e => e.record.key == k
  | none => false

/-- The lookup of a key (R23, R34): the entry that is not FREE and has it. At most one has (R22). -/
def State.find (s : State) (k : StreamKey) : Option StreamIndex := (List.finRange 256).find? (s.hasKey k)

/-- A data queue as a queue number. -/
def dataQueue (q : DataQueueNo) : QueueNo := q.castSucc

/-- Carry out the fate of a judged frame (R54, R41, R44, R45, R49, R52): a forwarded frame is offered to a data queue
of the egress port, a discarded one returns its blocks. -/
def State.carryOut (s : State) (p : Port) (f : Frame) (r : StreamRecord) : Fate → State
  | .passed => s.offerFrame p.other (dataQueue r.queue) f .forwarded
  | .demoted q => s.offerFrame p.other (dataQueue q) f .forwarded
  | .discarded _ => s.returnBlocks f.blocks

/-- A hit (R23): the entry's checks judge the frame, the entry takes their effects whole, the fate is carried out, and
a trip raises STREAM_TRIPPED (R58). The spec gives no order between the last two (log entry 1). -/
def State.hit (s : State) (p : Port) (f : Frame) (arrival : Ticks) (i : StreamIndex) (e : StreamEntry) : State :=
  let v := judgeFrame e f.seq f.size arrival
  let s := s.setEntry i (some v.entry)
  if v.tripped then
    eitherOrder (fun s => s.carryOut p f e.record v.fate) (fun s => s.raise (.streamTripped i)) s
  else s.carryOut p f e.record v.fate

/-- Carry out the unlisted policy of the ingress port on a missed frame (R24). -/
def State.unlisted (s : State) (p : Port) (f : Frame) : State :=
  match (s.port p).unlisted with
  | .forward q =>
    (s.countPort p fun c => { c with unlistedForwarded := countUp c.unlistedForwarded }).offerFrame p.other
      (dataQueue q) f .forwarded
  | .discard =>
    (s.returnBlocks f.blocks).countPort p fun c => { c with unlistedDiscarded := countUp c.unlistedDiscarded }

/-- A miss (R24): the unlisted policy, and UNLISTED_SEEN under either policy. The spec gives no order between the two
(log entry 1). -/
def State.miss (s : State) (p : Port) (f : Frame) : State :=
  eitherOrder (fun s => s.unlisted p f) (fun s => s.raise (.unlistedSeen p)) s

/-- Classification of a DATA frame (R23, R24). -/
def State.classify (s : State) (p : Port) (f : Frame) (arrival : Ticks) : State :=
  match s.find ⟨p, f.src, f.tag⟩ with
  | none => s.miss p f
  | some i =>
    match s.entry i with
    | none => s.miss p f
    | some e => s.hit p f arrival i e

end Sys2Proof.Machine
end

