-- ==== Sys2Proof/Machine/StreamRequests.lean ====
section
/-! DEFINITION. The requests of the Stream Table (chapter 2) and STREAM_RESET (section 3.7), and the visits of the
purge walk. -/

namespace Sys2Proof.Machine

/-! ## STREAM_WRITE (R27 to R30) -/

/-- The entry that a write of a record without keep-state makes (R28). -/
def freshEntry (r : StreamRecord) (now : Ticks) : StreamEntry where
  state := r.state.toEntry
  record := r
  sequence := freshSequence r
  cadence := freshCadence r
  meter := freshMeter r now
  score := freshScore r
  counters := StreamCounters.zero

/-- A sequence state brought within a new window W: members outside the W numbers ending at H are removed (R29). -/
def narrow (w : Nat) (st : SequenceState) : SequenceState :=
  match st.highest with
  | some h => { st with accepted := withinWindow w h st.accepted }
  | none => st

/-- Is the trip check's score carried: both records have a trip part and the old state was not TRIPPED (R27, R29)? -/
def carriesScore (old : StreamEntry) (r : StreamRecord) : Bool :=
  old.score.isSome && r.trip.isSome && old.state != .tripped

/-- The entry that a write of a record with keep-state applied makes of an old entry (R29). -/
def carriedEntry (old : StreamEntry) (r : StreamRecord) (now : Ticks) : StreamEntry where
  state := r.state.toEntry
  record := r
  sequence :=
    match r.sequence, old.sequence with
    | some w, some st => some (narrow w st)
    | _, _ => freshSequence r
  cadence :=
    match r.cadence, old.cadence with
    | some _, some st => some st
    | _, _ => freshCadence r
  meter :=
    match r.meter, old.meter with
    | some m, some st => some ⟨min st.tokens m.depth, st.lastUpdate⟩
    | _, _ => freshMeter r now
  score :=
    match r.trip, old.score with
    | some l, some sc => some (if old.state = .tripped then 0 else min sc (l - 1))
    | _, _ => freshScore r
  counters := old.counters

/-- The carried-checks byte of a write with keep-state applied (R30, R173). -/
def carriedByte (old : StreamEntry) (r : StreamRecord) : Byte :=
  marksByte (old.sequence.isSome && r.sequence.isSome) (old.cadence.isSome && r.cadence.isSome)
    (old.meter.isSome && r.meter.isSome) (carriesScore old r)

/-- The old entry whose state a write keeps: the keep-state flag is set, the entry was not FREE and its key equals the
new key (R29). -/
def keptEntry (keep : Bool) (old : Option StreamEntry) (r : StreamRecord) : Option StreamEntry :=
  match old with
  | some e => if keep && e.record.key == r.key then some e else none
  | none => none

/-- Is a key held by an entry at another index (R27 order 2)? -/
def State.keyElsewhere (s : State) (i : StreamIndex) (k : StreamKey) : Bool :=
  (List.finRange 256).any fun j => j != i && s.hasKey k j

/-- Step 6 of STREAM_WRITE (R27 to R30). -/
def serveStreamWrite (r : Request) (s : State) : Served :=
  let i := indexOf (byteAt r.operands 0)
  match recordOf (r.operands.drop 2) with
  | none => (s, some ⟨.badValue, []⟩)
  | some rec =>
    if s.keyElsewhere i rec.key then (s, some ⟨.duplicateKey, []⟩)
    else
      match keptEntry (flagOf (byteAt r.operands 1)) (s.entry i) rec with
      | some old =>
        (s.setEntry i (some (carriedEntry old rec s.localTime)),
          some ⟨.ok, [byteAt r.operands 0, 0x01, carriedByte old rec]⟩)
      | none =>
        (s.setEntry i (some (freshEntry rec s.localTime)), some ⟨.ok, [byteAt r.operands 0, 0x00, 0x00]⟩)

/-- STREAM_WRITE (R27). -/
def execStreamWrite (s : State) : Host.Outcome State Fault Refusal :=
  runEvent s fun s => s.takeRequest (some .streamWrite) serveStreamWrite

/-! ## STREAM_CLEAR, STREAM_STATE, STREAM_RESET (R31, R32, R60) -/

/-- The state byte of an entry as STREAM_CLEAR, STREAM_STATE and STREAM_RESET return it. -/
def State.stateByte (s : State) (i : StreamIndex) : Byte := entryStateByte ((s.entry i).map StreamEntry.state)

/-- Step 6 of STREAM_CLEAR (R31). -/
def serveStreamClear (r : Request) (s : State) : Served :=
  let i := indexOf (byteAt r.operands 0)
  (s.setEntry i none, some ⟨.ok, [s.stateByte i]⟩)

/-- STREAM_CLEAR (R31). -/
def execStreamClear (s : State) : Host.Outcome State Fault Refusal :=
  runEvent s fun s => s.takeRequest (some .streamClear) serveStreamClear

/-- An entry after STREAM_STATE requests a state (R32). -/
def StreamEntry.withState (e : StreamEntry) (w : WrittenState) (now : Ticks) : StreamEntry :=
  match e.state, w with
  | .tripped, .enabled => e.renew now
  | .tripped, .blocked => { e with state := .blocked, score := e.score.map fun _ => 0 }
  | _, w => { e with state := w.toEntry }

/-- Step 6 of STREAM_STATE (R32). DESIGN CHOICE (log entry 26): R32 gives its two refusals no order; another state for a
FREE entry is answered BAD_VALUE. -/
def serveStreamState (r : Request) (s : State) : Served :=
  let i := indexOf (byteAt r.operands 0)
  match writtenStateOf (byteAt r.operands 1) with
  | none => (s, some ⟨.badValue, []⟩)
  | some w =>
    match s.entry i with
    | none => (s, some ⟨.notFound, []⟩)
    | some e => (s.setEntry i (some (e.withState w s.localTime)), some ⟨.ok, [s.stateByte i]⟩)

/-- STREAM_STATE (R32). -/
def execStreamState (s : State) : Host.Outcome State Fault Refusal :=
  runEvent s fun s => s.takeRequest (some .streamState) serveStreamState

/-- Step 6 of STREAM_RESET (R60). -/
def serveStreamReset (r : Request) (s : State) : Served :=
  let i := indexOf (byteAt r.operands 0)
  match s.entry i with
  | none => (s, some ⟨.notFound, []⟩)
  | some e =>
    let e' := e.renew s.localTime
    (s.setEntry i (some (if flagOf (byteAt r.operands 1) then { e' with counters := StreamCounters.zero } else e')),
      some ⟨.ok, [s.stateByte i]⟩)

/-- STREAM_RESET (R60). -/
def execStreamReset (s : State) : Host.Outcome State Fault Refusal :=
  runEvent s fun s => s.takeRequest (some .streamReset) serveStreamReset

/-! ## STREAM_READ and STREAM_FIND (R33, R34) -/

/-- The nine counters of a stream in member order (section 10.1). -/
def StreamCounters.members (c : StreamCounters) : List Nat :=
  [c.passed, c.demoted, c.discardedBlocked, c.discardedTripped, c.discardedDuplicate, c.discardedLate,
    c.discardedEarly, c.discardedMeter, c.gap]

/-- The dynamic state of an entry in the layout of STREAM_READ, each present part in order (R173). -/
def StreamEntry.dynamicBytes (e : StreamEntry) : List Byte :=
  (match e.sequence with
    | some st =>
      optionBytes 2 (st.highest.map BitVec.toNat) ++ [BitVec.ofNat 8 st.accepted.length]
        ++ st.accepted.flatMap fun m => beBytes 2 m.toNat
    | none => [])
    ++ (match e.cadence with
      | some st => optionBytes 8 st.lastArrival
      | none => [])
    ++ (match e.meter with
      | some st => beBytes 2 st.tokens ++ beBytes 8 st.lastUpdate
      | none => [])
    ++ (match e.score with
      | some sc => [BitVec.ofNat 8 sc]
      | none => [])

/-- The results of STREAM_READ (R33, R173). -/
def readResults : Option StreamEntry → List Byte
  | none => [entryStateByte none]
  | some e => [entryStateByte (some e.state)] ++ e.record.bytes ++ e.dynamicBytes ++ counterBytes e.counters.members

/-- Step 6 of STREAM_READ (R33). -/
def serveStreamRead (r : Request) (s : State) : Served :=
  (s, some ⟨.ok, readResults (s.entry (indexOf (byteAt r.operands 0)))⟩)

/-- STREAM_READ (R33). -/
def execStreamRead (s : State) : Host.Outcome State Fault Refusal :=
  runEvent s fun s => s.takeRequest (some .streamRead) serveStreamRead

/-- Step 6 of STREAM_FIND (R34). -/
def serveStreamFind (r : Request) (s : State) : Served :=
  match keyOf (byteAt r.operands 0) (fieldAt r.operands 1 2) (fieldAt r.operands 3 2) with
  | none => (s, some ⟨.badValue, []⟩)
  | some k =>
    match s.find k with
    | some i => (s, some ⟨.ok, [BitVec.ofNat 8 i.val, s.stateByte i]⟩)
    | none => (s, some ⟨.notFound, (s.port k.port).unlisted.bytes⟩)

/-- STREAM_FIND (R34). -/
def execStreamFind (s : State) : Host.Outcome State Fault Refusal :=
  runEvent s fun s => s.takeRequest (some .streamFind) serveStreamFind

/-! ## UNLISTED_SET (R38) -/

/-- The unlisted policy of its policy and queue bytes; DISCARD ignores the queue byte (R38, R172). -/
def unlistedOf (policy queue : Byte) : Option UnlistedPolicy :=
  if policy = 0 then (dataQueueOf queue).map .forward
  else if policy = 1 then some .discard
  else none

/-- Step 6 of UNLISTED_SET (R38). -/
def serveUnlistedSet (r : Request) (s : State) : Served :=
  match portOf (byteAt r.operands 0), unlistedOf (byteAt r.operands 1) (byteAt r.operands 2) with
  | some p, some x =>
    (s.modPort p fun P => { P with unlisted := x }, some ⟨.ok, (s.port p).unlisted.bytes ++ x.bytes⟩)
  | _, _ => (s, some ⟨.badValue, []⟩)

/-- UNLISTED_SET (R38). -/
def execUnlistedSet (s : State) : Host.Outcome State Fault Refusal :=
  runEvent s fun s => s.takeRequest (some .unlistedSet) serveUnlistedSet

/-! ## STREAM_PURGE and the walk (R35 to R37) -/

/-- Step 6 of STREAM_PURGE: a valid source begins the walk, with no answer yet (R35, R124). -/
def serveStreamPurge (r : Request) (s : State) : Served :=
  let source := fieldAt r.operands 0 2
  if isStation source then
    ({ s with engine := { s.engine with state := .purging r (BitVec.ofNat 16 source) 0 0 s.localTime } }, none)
  else (s, some ⟨.badValue, []⟩)

/-- STREAM_PURGE (R35). -/
def execStreamPurge (s : State) : Host.Outcome State Fault Refusal :=
  runEvent s fun s => s.takeRequest (some .streamPurge) serveStreamPurge

/-- Does the entry at an index hold the purged source in its key (R35)? -/
def State.hasSource (s : State) (source : Half) (i : StreamIndex) : Bool :=
  match s.entry i with
  | some e => e.record.key.source == source
  | none => false

/-- The purge walk visits its next entry (R35); the visit of entry 255 completes the walk: the reply is built and the
engine is IDLE (R37). -/
def State.visitNext (s : State) : State :=
  match s.engine.state with
  | .purging r source i cleared takenAt =>
    let hit := s.hasSource source i
    let s := if hit then s.setEntry i none else s
    let cleared := if hit then cleared + 1 else cleared
    if h : i.val + 1 < 256 then
      { s with engine := { s.engine with state := .purging r source ⟨i.val + 1, h⟩ cleared takenAt } }
    else
      (({ s with engine := { s.engine with state := .executing } } : State).answer r ⟨.ok, beBytes 2 cleared⟩).endTake
  | _ => s

/-- PURGE_VISIT (R35). -/
def execPurgeVisit (s : State) : Host.Outcome State Fault Refusal := runEvent s State.visitNext

end Sys2Proof.Machine
end

