-- ==== Sys2Proof/Machine/CounterRequests.lean ====
section
/-! DEFINITION. The counter sets and COUNTER_READ (chapter 10). -/

namespace Sys2Proof.Machine

/-- A counter set: its group with its selector (section 10.1). -/
inductive CounterSet where
  | port (p : Port)
  | stream (i : StreamIndex)
  | queue (p : Port) (q : QueueNo)
  | gate (p : Port)
  | beat
  | management
  | notice
  deriving DecidableEq, Repr

/-- The counter set of a group byte and a selector (R165 orders 1 and 2, R172): for PORT and GATE the port is in the
high byte and the low byte is not read; for QUEUE port and queue; for STREAM the index; else 0000h. -/
def counterSetOf (group high low : Byte) : Option CounterSet :=
  if group = 0x01 then (portOf high).map .port
  else if group = 0x02 then if high = 0 then some (.stream (indexOf low)) else none
  else if group = 0x03 then
    match portOf high, queueOf low with
    | some p, some q => some (.queue p q)
    | _, _ => none
  else if group = 0x04 then (portOf high).map .gate
  else if group = 0x05 then if high = 0 ∧ low = 0 then some .beat else none
  else if group = 0x06 then if high = 0 ∧ low = 0 then some .management else none
  else if group = 0x07 then if high = 0 ∧ low = 0 then some .notice else none
  else none

/-- The members of the PORT set in order (section 10.1). -/
def PortCounters.members (c : PortCounters) : List Nat :=
  [c.accepted, c.noBuffer, c.checkError, c.malformed, c.aborted, c.misaddressed, c.transmitAborted, c.linkLosses,
    c.unlistedForwarded, c.unlistedDiscarded]

/-- The members of a QUEUE set in order (section 10.1). -/
def QueueCounters.members (c : QueueCounters) : List Nat :=
  [c.enqueued, c.transmitted, c.droppedFull, c.droppedEgressDown, c.flushed, c.aged, c.highWater]

/-- The members of the BEAT set in order (section 10.1). -/
def BeatCounters.members (c : BeatCounters) : List Nat :=
  [c.beats, c.realigns, c.reAnchors, c.faults, c.misses, c.extra, c.lost]

/-- The members of the MANAGEMENT set in order (section 10.1). -/
def ManagementCounters.members (c : ManagementCounters) : List Nat :=
  [c.requestsTaken, c.requestsDropped, c.malformedRequest, c.repeats, c.repliesBuilt, c.replyDropped]

/-- The members of the NOTICE set in order (section 10.1). -/
def NoticeCounters.members (c : NoticeCounters) : List Nat := [c.sent, c.acked, c.stray, c.abandoned, c.noticesLost]

/-- The values of a counter set's members; a STREAM set does not exist while its entry is FREE (R164). -/
def State.members (s : State) : CounterSet → Option (List Nat)
  | .port p => some (s.port p).counters.members
  | .stream i => (s.entry i).map fun e => e.counters.members
  | .queue p q => some (s.queue p q).counters.members
  | .gate p => some [(s.port p).gate.overruns]
  | .beat => some s.beat.counters.members
  | .management => some s.engine.counters.members
  | .notice => some s.notice.counters.members

/-- Set every member of a counter set to 0 (R166). -/
def State.clearSet (s : State) : CounterSet → State
  | .port p => s.countPort p fun _ => PortCounters.zero
  | .stream i => s.setEntry i ((s.entry i).map fun e => { e with counters := StreamCounters.zero })
  | .queue p q => s.countQueue p q fun _ => QueueCounters.zero
  | .gate p => s.modPort p fun P => { P with gate := { P.gate with overruns := 0 } }
  | .beat => { s with beat := { s.beat with counters := BeatCounters.zero } }
  | .management => { s with engine := { s.engine with counters := ManagementCounters.zero } }
  | .notice => { s with notice := { s.notice with counters := NoticeCounters.zero } }

/-- The results of COUNTER_READ (R166, R173): group and selector as in the request, local time, cleared, members. -/
def counterResults (ops : List Byte) (now : Ticks) (members : List Nat) : List Byte :=
  [byteAt ops 0, byteAt ops 1, byteAt ops 2] ++ beBytes 8 now ++ [flagByte (flagOf (byteAt ops 3))]
    ++ counterBytes members

/-- Step 6 of COUNTER_READ (R165, R166). -/
def serveCounterRead (r : Request) (s : State) : Served :=
  match counterSetOf (byteAt r.operands 0) (byteAt r.operands 1) (byteAt r.operands 2) with
  | none => (s, some ⟨.badValue, []⟩)
  | some c =>
    match s.members c with
    | none => (s, some ⟨.notFound, []⟩)
    | some members =>
      (if flagOf (byteAt r.operands 3) then s.clearSet c else s,
        some ⟨.ok, counterResults r.operands s.localTime members⟩)

/-- COUNTER_READ (R166). -/
def execCounterRead (s : State) : Host.Outcome State Fault Refusal :=
  runEvent s fun s => s.takeRequest (some .counterRead) serveCounterRead

end Sys2Proof.Machine
end

