-- ==== Sys2Proof/Machine/NoticeRequests.lean ====
section
/-! DEFINITION. NOTICE_SET and NOTICE_READ (section 9.8), and the retry timer's expiry as a command (R156). -/

namespace Sys2Proof.Machine

/-- RETRY_TIMER_EXPIRY (R156, R153): local time reaches the retry timer's expiry time. -/
def execRetryTimerExpiry (s : State) : Host.Outcome State Fault Refusal :=
  runEvent s fun s => s.whenReached s.notice.retryTimer State.retryExpired

/-- Remove the WAITING entries of kinds that are not enabled (R160; log entry 27). -/
def keepEnabled (x : NoticeSettings) (l : List NoticeEntry) : List NoticeEntry :=
  l.filter fun e => e.isInFlight || x.enables e.event

/-- Replace the notice settings (R159, R160): the WAITING entries of disabled kinds go, the destination is recomputed,
and a send is tried. DESIGN CHOICE (log entry 27): the removal is made also where the settings are those already in place
and an entry of a disabled kind has returned from IN_FLIGHT to WAITING since (log entry 21). -/
def State.setNotices (s : State) (x : NoticeSettings) : State :=
  ({ s with notice := { s.notice with settings := x, list := keepEnabled x s.notice.list } } : State).recomputeDestination.trySend

/-- Step 6 of NOTICE_SET (R159). -/
def serveNoticeSet (r : Request) (s : State) : Served :=
  match noticeSettingsOf s.station r.operands with
  | some x => (s.setNotices x, some ⟨.ok, s.notice.settings.bytes⟩)
  | none => (s, some ⟨.badValue, []⟩)

/-- NOTICE_SET (R159). -/
def execNoticeSet (s : State) : Host.Outcome State Fault Refusal :=
  runEvent s fun s => s.takeRequest (some .noticeSet) serveNoticeSet

/-- The attempts of a list entry (section 9.2). -/
def NoticeEntry.attempts (x : NoticeEntry) : Nat :=
  match x.status with
  | .waiting => 0
  | .inFlight n _ => n

/-- A list entry in the layout of NOTICE_READ (R161, R173). -/
def NoticeEntry.bytes (x : NoticeEntry) : List Byte :=
  [BitVec.ofNat 8 x.event.priority] ++ x.event.subject ++ beBytes 8 x.firstTime ++ beBytes 4 x.firstIndex.toNat
    ++ beBytes 2 x.count ++ [flagByte x.isInFlight, BitVec.ofNat 8 x.attempts] ++ optionBytes 2 (x.number.map BitVec.toNat)

/-- The entries in the order of NOTICE_READ: the one in flight, then the WAITING ones in send order (R161). -/
def NoticeUnit.readOrder (n : NoticeUnit) : List NoticeEntry :=
  n.list.filter NoticeEntry.isInFlight ++ sendOrder n.list

/-- The results of NOTICE_READ (R161, R173). -/
def NoticeUnit.results (n : NoticeUnit) : List Byte :=
  n.settings.bytes ++ stationBytes n.destination ++ [flagByte n.lostFlag] ++ beBytes 2 n.nextNumber.toNat
    ++ optionBytes 8 n.retryTimer ++ [BitVec.ofNat 8 n.list.length] ++ n.readOrder.flatMap NoticeEntry.bytes

/-- Step 6 of NOTICE_READ (R161). -/
def serveNoticeRead (_ : Request) (s : State) : Served := (s, some ⟨.ok, s.notice.results⟩)

/-- NOTICE_READ (R161). -/
def execNoticeRead (s : State) : Host.Outcome State Fault Refusal :=
  runEvent s fun s => s.takeRequest (some .noticeRead) serveNoticeRead

end Sys2Proof.Machine
end

