-- ==== Sys2Proof/Machine/Management.lean ====
section
/-! DEFINITION. IDENTIFY, UNIT_RESET, the three session requests, the end of a session and the lease expiry (section
7.7, chapter 8); and the take of an unknown request. -/

namespace Sys2Proof.Machine

/-! ## IDENTIFY (R131) -/

/-- The results of IDENTIFY (R131, section 11.2). -/
def State.identity (s : State) : List Byte :=
  [0x5A, 0x31, 0x22, 0x04, 0x01] ++ beBytes 2 s.station.toNat ++ beBytes 2 256 ++ beBytes 2 512 ++ [32, 4, 4, 16]
    ++ stationBytes (s.session.map Session.holder) ++ beBytes 8 s.localTime

/-- Step 6 of IDENTIFY (R131). -/
def serveIdentify (_ : Request) (s : State) : Served := (s, some ⟨.ok, s.identity⟩)

/-- IDENTIFY (R131). -/
def execIdentify (s : State) : Host.Outcome State Fault Refusal :=
  runEvent s fun s => s.takeRequest (some .identify) serveIdentify

/-! ## UNIT_RESET (R132) -/

/-- Step 6 of UNIT_RESET: the engine enters RESETTING; the OK reply it then builds is the one whose departure performs
the unit reset (R132). -/
def serveUnitReset (_ : Request) (s : State) : Served :=
  ({ s with engine := { s.engine with state := .resetting } }, some ⟨.ok, []⟩)

/-- UNIT_RESET (R132). -/
def execUnitReset (s : State) : Host.Outcome State Fault Refusal :=
  runEvent s fun s => s.takeRequest (some .unitReset) serveUnitReset

/-! ## The session requests (R137 to R140) -/

/-- The results of an OK to SESSION_OPEN (R173): outcome, lease length, expiry time. -/
def openResults (outcome : Byte) (leaseMs : Nat) (expiry : Ticks) : List Byte :=
  [outcome] ++ beBytes 2 leaseMs ++ beBytes 8 expiry

/-- Step 6 of SESSION_OPEN (R137). -/
def serveSessionOpen (r : Request) (s : State) : Served :=
  let ms := fieldAt r.operands 0 2
  let expiry := s.localTime + ms * Config.ticksPerMs
  if ms < 10 || 60000 < ms then (s, some ⟨.badValue, []⟩)
  else
    match s.session with
    | some x =>
      if x.holder = r.requester then
        ({ s with session := some ⟨x.holder, ms, expiry⟩ }, some ⟨.ok, openResults 0x01 ms expiry⟩)
      else (s, some ⟨.held, stationBytes (some x.holder)⟩)
    | none =>
      (({ s with session := some ⟨r.requester, ms, expiry⟩ } : State).updateDestination,
        some ⟨.ok, openResults 0x00 ms expiry⟩)

/-- SESSION_OPEN (R137). -/
def execSessionOpen (s : State) : Host.Outcome State Fault Refusal :=
  runEvent s fun s => s.takeRequest (some .sessionOpen) serveSessionOpen

/-- Step 6 of SESSION_KEEP (R139): the lease has been renewed by R138; the results give it. -/
def serveSessionKeep (_ : Request) (s : State) : Served :=
  match s.session with
  | some x => (s, some ⟨.ok, beBytes 2 x.leaseMs ++ beBytes 8 x.expiry⟩)
  | none => (s, some ⟨.noSession, []⟩)

/-- SESSION_KEEP (R139). -/
def execSessionKeep (s : State) : Host.Outcome State Fault Refusal :=
  runEvent s fun s => s.takeRequest (some .sessionKeep) serveSessionKeep

/-- The staged banks become copies of the active banks (R102, R108). -/
def PlanBanks.revert (b : PlanBanks) : PlanBanks :=
  (b.setStaged .u (b.activePlan .u)).setStaged .d (b.activePlan .d)

/-- The session record becomes NONE, and the staged banks are reverted unless a commit is pending (R143, R108). -/
def State.endSession (s : State) : State :=
  { s with
    session := none
    plans := if s.plans.commitPending then s.plans else s.plans.revert }

/-- Step 6 of SESSION_CLOSE (R140, R143): the results give commit-pending as it stood. -/
def serveSessionClose (_ : Request) (s : State) : Served :=
  (s.endSession.updateDestination, some ⟨.ok, [flagByte s.plans.commitPending]⟩)

/-- SESSION_CLOSE (R140). -/
def execSessionClose (s : State) : Host.Outcome State Fault Refusal :=
  runEvent s fun s => s.takeRequest (some .sessionClose) serveSessionClose

/-! ## The lease expiry (R141) -/

/-- The lease expiry (R141, R143, R158): the session ends, the destination is recomputed, SESSION_EXPIRED is judged,
and then a send is tried. -/
def State.expireLease (s : State) : State :=
  match s.session with
  | none => s
  | some x => (s.endSession.recomputeDestination.listEvent (.sessionExpired x.holder.station)).trySend

/-- LEASE_EXPIRY (R141). -/
def execLeaseExpiry (s : State) : Host.Outcome State Fault Refusal :=
  runEvent s fun s => s.whenReached (s.session.map Session.expiry) State.expireLease

/-! ## An unknown request (R121 step 3) -/

/-- Step 6 of an operation code that is none of the 26: never reached, step 3 refuses it. -/
def serveUnknown (_ : Request) (s : State) : Served := (s, none)

/-- UNKNOWN_REQUEST (R121). -/
def execUnknownRequest (s : State) : Host.Outcome State Fault Refusal :=
  runEvent s fun s => s.takeRequest none serveUnknown

end Sys2Proof.Machine
end

