-- ==== Sys2Proof/Machine/PlanRequests.lean ====
section
/-! DEFINITION. The plan requests (sections 6.3 and 6.4) and the window change as a command (R110). -/

namespace Sys2Proof.Machine

/-! ## WINDOW_CHANGE (R110) -/

/-- The gate of a port makes a window change and tries a selection (R110, R113). -/
def State.changeWindow (s : State) (p : Port) : State :=
  (s.modPort p fun P =>
    { P with
      gate :=
        { P.gate with
          window := P.gate.window + 1
          windowEnd := P.gate.windowEnd + (s.plans.activePlan p).duration (P.gate.window + 1) } }).trySelect p

/-- WINDOW_CHANGE (R110): local time reaches the end of a window that is not the last in use. -/
def execWindowChange (p : Port) (s : State) : Host.Outcome State Fault Refusal :=
  runEvent s fun s => s.whenReached (s.windowChangeAt p) fun s => s.changeWindow p

/-! ## PLAN_HEADER and PLAN_WINDOWS (R100, R101) -/

/-- Step 6 of PLAN_HEADER (R100). -/
def servePlanHeader (r : Request) (s : State) : Served :=
  let length := fieldAt r.operands 1 4
  let count := (byteAt r.operands 5).toNat
  if s.plans.commitPending then (s, some ⟨.commitPending, []⟩)
  else
    match portOf (byteAt r.operands 0) with
    | some p =>
      let old := s.plans.stagedPlan p
      if Config.cycleLengthMin ≤ length && length ≤ Config.cycleLengthMax && 1 ≤ count && count ≤ 32 then
        ({ s with plans := s.plans.setStaged p { old with cycleLength := length, windowCount := count } },
          some ⟨.ok, beBytes 4 old.cycleLength ++ [BitVec.ofNat 8 old.windowCount]⟩)
      else (s, some ⟨.badValue, []⟩)
    | none => (s, some ⟨.badValue, []⟩)

/-- PLAN_HEADER (R100). -/
def execPlanHeader (s : State) : Host.Outcome State Fault Refusal :=
  runEvent s fun s => s.takeRequest (some .planHeader) servePlanHeader

/-- Write windows into slots from an index on, in list order (R101). -/
def writeSlots (slots : Vector (Option Window) 32) : Nat → List Window → Vector (Option Window) 32
  | _, [] => slots
  | k, w :: ws => writeSlots (slots.setIfInBounds k (some w)) (k + 1) ws

/-- Step 6 of PLAN_WINDOWS (R101, R172). -/
def servePlanWindows (r : Request) (s : State) : Served :=
  let first := (byteAt r.operands 1).toNat
  let n := (byteAt r.operands 2).toNat
  if s.plans.commitPending then (s, some ⟨.commitPending, []⟩)
  else
    match portOf (byteAt r.operands 0), windowsOf n (r.operands.drop 3) with
    | some p, some ws =>
      if first ≤ 31 && 1 ≤ n && n ≤ 8 && first + n - 1 ≤ 31 then
        let old := s.plans.stagedPlan p
        ({ s with plans := s.plans.setStaged p { old with slots := writeSlots old.slots first ws } },
          some ⟨.ok, [byteAt r.operands 1, byteAt r.operands 2]⟩)
      else (s, some ⟨.badValue, []⟩)
    | _, _ => (s, some ⟨.badValue, []⟩)

/-- PLAN_WINDOWS (R101). -/
def execPlanWindows (s : State) : Host.Outcome State Fault Refusal :=
  runEvent s fun s => s.takeRequest (some .planWindows) servePlanWindows

/-! ## PLAN_READ and PLAN_REVERT (R103, R102) -/

/-- The bank that a selector byte names: 00h ACTIVE, 01h STAGED (section 11.2). -/
def PlanBanks.bankOf (b : PlanBanks) (selector : Byte) : Option Bank :=
  if selector = 0 then some b.active else if selector = 1 then some b.active.other else none

/-- The results of PLAN_READ (R103, R173). -/
def PlanBanks.readResults (b : PlanBanks) (p : Port) (k : Bank) : List Byte :=
  [k.code] ++ beBytes 4 (b.plan p k).cycleLength ++ [BitVec.ofNat 8 (b.plan p k).windowCount]
    ++ (b.plan p k).slots.toList.flatMap slotBytes ++ [flagByte b.commitPending]
    ++ optionBytes 4 (b.lastSwap.map BitVec.toNat)

/-- Step 6 of PLAN_READ (R103). -/
def servePlanRead (r : Request) (s : State) : Served :=
  match portOf (byteAt r.operands 0), s.plans.bankOf (byteAt r.operands 1) with
  | some p, some k => (s, some ⟨.ok, s.plans.readResults p k⟩)
  | _, _ => (s, some ⟨.badValue, []⟩)

/-- PLAN_READ (R103). -/
def execPlanRead (s : State) : Host.Outcome State Fault Refusal :=
  runEvent s fun s => s.takeRequest (some .planRead) servePlanRead

/-- Step 6 of PLAN_REVERT (R102). -/
def servePlanRevert (_ : Request) (s : State) : Served :=
  if s.plans.commitPending then (s, some ⟨.commitPending, []⟩)
  else ({ s with plans := s.plans.revert }, some ⟨.ok, []⟩)

/-- PLAN_REVERT (R102). -/
def execPlanRevert (s : State) : Host.Outcome State Fault Refusal :=
  runEvent s fun s => s.takeRequest (some .planRevert) servePlanRevert

/-! ## PLAN_COMMIT and PLAN_CANCEL (R104, R105, R107) -/

/-- The first unset slot below a count, if there is one (R104 test 1). -/
def Plan.firstUnset (x : Plan) : Option Nat := (List.range x.windowCount).find? fun k => (x.slot k).isNone

/-- Does a slot open Q3 for at least 8,384 ticks (R97)? -/
def Plan.hasQ3Slot (x : Plan) (k : Nat) : Bool := x.opens k 3 && Config.longestOccupancy ≤ x.duration k

/-- Has a plan a Q3 window (R97, R104 test 3)? -/
def Plan.hasQ3Window (x : Plan) : Bool := (List.range x.windowCount).any x.hasQ3Slot

/-- Is a plan valid (R97)? -/
def Plan.valid (x : Plan) : Bool :=
  x.firstUnset.isNone && x.span x.windowCount == x.cycleLength && x.hasQ3Window

/-- The results of the first of the tests 1 to 3 of R104 that a port's staged plan fails (R104, R173). -/
def planFault (p : Port) (x : Plan) : Option (List Byte) :=
  match x.firstUnset with
  | some k => some [0x01, portByte p, BitVec.ofNat 8 k]
  | none =>
    if x.span x.windowCount != x.cycleLength then some ([0x02, portByte p] ++ beBytes 4 (x.span x.windowCount))
    else if !x.hasQ3Window then some [0x03, portByte p]
    else none

/-- The results of the first of the eight tests of R104 that a commit fails. -/
def State.commitFault (s : State) : Option (List Byte) :=
  let u := s.plans.stagedPlan .u
  let d := s.plans.stagedPlan .d
  match planFault .u u, planFault .d d with
  | some x, _ => some x
  | none, some x => some x
  | none, none =>
    if u.cycleLength != d.cycleLength then some ([0x04] ++ beBytes 4 u.cycleLength ++ beBytes 4 d.cycleLength)
    else if s.beat.state != .free && decide (u.cycleLength < 4 * s.beat.tolerance) then
      some ([0x05] ++ beBytes 4 s.beat.tolerance ++ beBytes 4 u.cycleLength)
    else none

/-- Step 6 of PLAN_COMMIT (R104, R105). -/
def servePlanCommit (_ : Request) (s : State) : Served :=
  if s.plans.commitPending then (s, some ⟨.commitPending, []⟩)
  else
    match s.commitFault with
    | some results => (s, some ⟨.invalidPlan, results⟩)
    | none =>
      ({ s with plans := { s.plans with commitPending := true } },
        some ⟨.accepted, beBytes 4 (s.plans.stagedPlan .u).cycleLength ++ [s.plans.active.other.code]⟩)

/-- PLAN_COMMIT (R104). -/
def execPlanCommit (s : State) : Host.Outcome State Fault Refusal :=
  runEvent s fun s => s.takeRequest (some .planCommit) servePlanCommit

/-- Step 6 of PLAN_CANCEL (R107). -/
def servePlanCancel (_ : Request) (s : State) : Served :=
  if s.plans.commitPending then ({ s with plans := { s.plans with commitPending := false } }, some ⟨.ok, []⟩)
  else (s, some ⟨.nothingPending, [s.plans.active.code] ++ optionBytes 4 (s.plans.lastSwap.map BitVec.toNat)⟩)

/-- PLAN_CANCEL (R107). -/
def execPlanCancel (s : State) : Host.Outcome State Fault Refusal :=
  runEvent s fun s => s.takeRequest (some .planCancel) servePlanCancel

end Sys2Proof.Machine
end

