-- ==== Sys2Proof/Machine/QueueRequests.lean ====
section
/-! DEFINITION. QUEUE_SET and QUEUE_READ (section 4.7). -/

namespace Sys2Proof.Machine

/-- Step 6 of QUEUE_SET (R77). -/
def serveQueueSet (r : Request) (s : State) : Served :=
  let limit := fieldAt r.operands 2 2
  let age := fieldAt r.operands 4 2
  match portOf (byteAt r.operands 0), queueOf (byteAt r.operands 1) with
  | some p, some q =>
    if 1 ≤ limit && limit ≤ 512 && age ≤ 1000 then
      (s.modQueue p q fun Q => { Q with limit := limit, ageLimit := age },
        some ⟨.ok, beBytes 2 (s.queue p q).limit ++ beBytes 2 (s.queue p q).ageLimit⟩)
    else (s, some ⟨.badValue, []⟩)
  | _, _ => (s, some ⟨.badValue, []⟩)

/-- QUEUE_SET (R77). -/
def execQueueSet (s : State) : Host.Outcome State Fault Refusal :=
  runEvent s fun s => s.takeRequest (some .queueSet) serveQueueSet

/-- The results of QUEUE_READ (R78, R173). -/
def queueResults (Q : Queue) (free : Nat) : List Byte :=
  beBytes 2 Q.limit ++ beBytes 2 Q.ageLimit ++ beBytes 2 Q.frames.length ++ beBytes 2 Q.blocks
    ++ optionBytes 4 (Q.frames.head?.map fun f => f.enqueueIndex.toNat) ++ beBytes 2 free

/-- Step 6 of QUEUE_READ (R78). -/
def serveQueueRead (r : Request) (s : State) : Served :=
  match portOf (byteAt r.operands 0), queueOf (byteAt r.operands 1) with
  | some p, some q => (s, some ⟨.ok, queueResults (s.queue p q) s.pool⟩)
  | _, _ => (s, some ⟨.badValue, []⟩)

/-- QUEUE_READ (R78). -/
def execQueueRead (s : State) : Host.Outcome State Fault Refusal :=
  runEvent s fun s => s.takeRequest (some .queueRead) serveQueueRead

end Sys2Proof.Machine
end

