-- ==== Sys2Proof/Machine/Requests.lean ====
section
/-! DEFINITION. Step 6 of every request in one table, and the take of whatever request is at the head of the queue:
the take that the admission of a request to an IDLE engine brings with it (R120). -/

namespace Sys2Proof.Machine

/-- Step 6 of a request (R124, section 7.8). -/
def Op.serve : Op → Request → State → Served
  | .identify => serveIdentify
  | .unitReset => serveUnitReset
  | .sessionOpen => serveSessionOpen
  | .sessionKeep => serveSessionKeep
  | .sessionClose => serveSessionClose
  | .streamWrite => serveStreamWrite
  | .streamClear => serveStreamClear
  | .streamState => serveStreamState
  | .streamRead => serveStreamRead
  | .streamFind => serveStreamFind
  | .streamPurge => serveStreamPurge
  | .unlistedSet => serveUnlistedSet
  | .streamReset => serveStreamReset
  | .queueSet => serveQueueSet
  | .queueRead => serveQueueRead
  | .beatSet => serveBeatSet
  | .timeRead => serveTimeRead
  | .planHeader => servePlanHeader
  | .planWindows => servePlanWindows
  | .planRead => servePlanRead
  | .planRevert => servePlanRevert
  | .planCommit => servePlanCommit
  | .planCancel => servePlanCancel
  | .noticeSet => serveNoticeSet
  | .noticeRead => serveNoticeRead
  | .counterRead => serveCounterRead

/-- Step 6 of a request or of an unknown operation code. -/
def serveOf : Option Op → Request → State → Served
  | some o => o.serve
  | none => serveUnknown

/-- The take of the head request, whatever its operation (R120); nothing while the engine is not IDLE or the queue is
empty. -/
def State.takeNext (s : State) : State :=
  match s.engine.queue with
  | [] => s
  | r :: _ => s.takeRequest (Op.ofCode r.op) (serveOf (Op.ofCode r.op))

/-- Offer a CONTROL frame to the request queue (R119); at its admission to an IDLE engine the engine takes the head
request in the same event (R120). -/
def State.deliverRequest (s : State) (f : Frame) (arrival : Port) : State :=
  if s.admitsRequest f then (s.offerRequest f arrival).takeNext else s.offerRequest f arrival

end Sys2Proof.Machine
end

