-- ==== Sys2Proof/Machine/Line.lean ====
section
/-! DEFINITION. The line ports (chapter 1): link events, reception, routing, transmission completion; and the cold
reset (R175). -/

namespace Sys2Proof.Machine

/-! ## Routing (R13 to R17) -/

/-- Discard a frame addressed to the device as *misaddressed* (R13, R16). -/
def State.misaddress (s : State) (p : Port) (f : Frame) : State :=
  (s.returnBlocks f.blocks).countPort p fun c => { c with misaddressed := countUp c.misaddressed }

/-- Offer a frame in transit to Q3 of the other port (R14). -/
def State.inTransit (s : State) (p : Port) (f : Frame) : State := s.offerFrame p.other 3 f .forwarded

/-- Route a BEAT frame (R15): Q3 of the other port, and on the beat port the report to the Cycle Timer. The spec gives
no order between the two (log entry 1). -/
def State.routeBeat (s : State) (p : Port) (f : Frame) (arrival : Ticks) : State :=
  if s.beat.source = some p then
    eitherOrder (fun s => s.inTransit p f) (fun s => s.reportBeat arrival) s
  else s.inTransit p f

/-- The forwarded copy of a broadcast CONTROL frame (R17): blocks of its own, taken whole, or *no buffer*. -/
def State.broadcastCopy (s : State) (p : Port) (f : Frame) : State :=
  match s.takeBlocks f.blocks with
  | none => s.countPort p fun c => { c with noBuffer := countUp c.noBuffer }
  | some t => t.inTransit p f

/-- Route a CONTROL frame (R14, R16, R17). The spec gives no order between the two deliveries of a broadcast (log
entry 1). -/
def State.routeControl (s : State) (p : Port) (f : Frame) : State :=
  if f.dest = Config.broadcast then
    eitherOrder (fun s => s.deliverRequest f p) (fun s => s.broadcastCopy p f) s
  else if f.dest = s.station then s.deliverRequest f p
  else s.inTransit p f

/-- Route an ACK (R14, R16): one for the device gives its blocks back and goes to the Notice Unit (log entry 11). -/
def State.routeAck (s : State) (p : Port) (f : Frame) : State :=
  if f.dest = s.station then (s.returnBlocks f.blocks).takeAck f.src f.payload else s.inTransit p f

/-- Routing delivers an accepted frame by its kind and destination (section 1.3, Data paths). -/
def State.route (s : State) (p : Port) (f : Frame) (arrival : Ticks) : State :=
  match f.kind with
  | .data => if f.dest = s.station then s.misaddress p f else s.classify p f arrival
  | .beat => s.routeBeat p f arrival
  | .control => s.routeControl p f
  | .reply => if f.dest = s.station then s.misaddress p f else s.inTransit p f
  | .notice => if f.dest = s.station then s.misaddress p f else s.inTransit p f
  | .ack => s.routeAck p f

/-! ## Reception (R6 to R10) -/

/-- Abandon the frame in reception (R8): its blocks return, it is counted, the receiver becomes DISCARDING. -/
def State.abandon (s : State) (p : Port) (bytes : List Byte) (f : PortCounters → PortCounters) : State :=
  ((s.returnBlocks (receptionBlocks bytes)).countPort p f).setReceiver p .discarding

/-- Count *no buffer*. -/
def PortCounters.countNoBuffer (c : PortCounters) : PortCounters := { c with noBuffer := countUp c.noBuffer }

/-- Count *malformed*. -/
def PortCounters.countMalformed (c : PortCounters) : PortCounters := { c with malformed := countUp c.malformed }

/-- A frame start (R6). -/
def State.startFrame (s : State) (p : Port) : State :=
  if (s.port p).link = .up ∧ (s.port p).receiver = .idle then
    match s.takeBlocks 1 with
    | some t => t.setReceiver p (.receiving [])
    | none => (s.countPort p PortCounters.countNoBuffer).setReceiver p .discarding
  else s

/-- FRAME_START (R6). -/
def execFrameStart (p : Port) (s : State) : Host.Outcome State Fault Refusal := runEvent s fun s => s.startFrame p

/-- Header completion (R9, R7): it happens to a frame in reception that has no header yet, with its 12 bytes. -/
def State.completeHeader (s : State) (p : Port) (bytes : List Byte) : State :=
  match (s.port p).receiver with
  | .receiving [] =>
    if bytes.length ≠ 12 then s
    else if headerMalformed bytes then s.abandon p bytes PortCounters.countMalformed
    else if headerKind bytes = some .data ∧ s.pool < Config.reserveBlocks then
      s.abandon p bytes PortCounters.countNoBuffer
    else s.setReceiver p (.receiving bytes)
  | _ => s

/-- HEADER_COMPLETION (R9). -/
def execHeaderCompletion (p : Port) (bytes : List Byte) (s : State) : Host.Outcome State Fault Refusal :=
  runEvent s fun s => s.completeHeader p bytes

/-- Do these bytes bring a frame in reception to its next block boundary, within its declared length (R7, R9)? -/
def reachesBoundary (old bytes : List Byte) : Bool :=
  12 ≤ old.length && old.length + bytes.length == Config.blockBytes * receptionBlocks old + 1
    && old.length + bytes.length ≤ declaredBytes old

/-- May the receiver take one more block for a frame with this header (R7, R64)? -/
def State.grantsBlock (s : State) (old : List Byte) : Bool :=
  if headerKind old = some .data then Config.reserveBlocks + 1 ≤ s.pool else 1 ≤ s.pool

/-- A block boundary (R7). -/
def State.crossBoundary (s : State) (p : Port) (bytes : List Byte) : State :=
  match (s.port p).receiver with
  | .receiving old =>
    if reachesBoundary old bytes then
      if s.grantsBlock old then
        ({ s with pool := s.pool - 1 } : State).setReceiver p (.receiving (old ++ bytes))
      else s.abandon p old PortCounters.countNoBuffer
    else s
  | _ => s

/-- BLOCK_BOUNDARY (R7). -/
def execBlockBoundary (p : Port) (bytes : List Byte) (s : State) : Host.Outcome State Fault Refusal :=
  runEvent s fun s => s.crossBoundary p bytes

/-- Do these bytes end in the first byte beyond the declared length, with every boundary before it taken (R9)? -/
def reachesSurplus (old bytes : List Byte) : Bool :=
  12 ≤ old.length && old.length + bytes.length == declaredBytes old + 1
    && declaredBytes old ≤ Config.blockBytes * receptionBlocks old

/-- A surplus byte (R9). -/
def State.takeSurplus (s : State) (p : Port) (bytes : List Byte) : State :=
  match (s.port p).receiver with
  | .receiving old => if reachesSurplus old bytes then s.abandon p old PortCounters.countMalformed else s
  | _ => s

/-- SURPLUS_BYTE (R9). -/
def execSurplusByte (p : Port) (bytes : List Byte) (s : State) : Host.Outcome State Fault Refusal :=
  runEvent s fun s => s.takeSurplus p bytes

/-- Can a frame end after these bytes: no header completion, block boundary or surplus byte lies among them? -/
def reachesEnd (old bytes : List Byte) : Bool :=
  if old.length < 12 then old.length + bytes.length < 12
  else
    old.length + bytes.length ≤ declaredBytes old
      && old.length + bytes.length ≤ Config.blockBytes * receptionBlocks old

/-- The judgement of a frame at its end (R10). -/
inductive Ending where
  | malformed
  | checkError
  | accepted (f : Frame)
  deriving DecidableEq, Repr

/-- Judge all the bytes of a frame at its end (R10): fewer than 16 bytes, the frame check, the declared length. -/
def judgeEnd (bytes : List Byte) : Ending :=
  if bytes.length < 16 then .malformed
  else if !checkPasses bytes then .checkError
  else if bytes.length ≠ declaredBytes bytes then .malformed
  else
    match frameOfBytes bytes with
    | some f => .accepted f
    | none => .malformed

/-- The end of a frame in RECEIVING, all of whose bytes are given (R10): a discard returns the blocks; an accepted
frame is counted, stamped with local time and routed. -/
def State.endReception (s : State) (p : Port) (old all : List Byte) : State :=
  let t := s.setReceiver p .idle
  match judgeEnd all with
  | .malformed => (t.returnBlocks (receptionBlocks old)).countPort p PortCounters.countMalformed
  | .checkError =>
    (t.returnBlocks (receptionBlocks old)).countPort p fun c => { c with checkError := countUp c.checkError }
  | .accepted f => (t.countPort p fun c => { c with accepted := countUp c.accepted }).route p f s.localTime

/-- The end of a frame (R10; R8 in DISCARDING). -/
def State.endFrame (s : State) (p : Port) (bytes : List Byte) : State :=
  match (s.port p).receiver with
  | .idle => s
  | .discarding => s.setReceiver p .idle
  | .receiving old => if reachesEnd old bytes then s.endReception p old (old ++ bytes) else s

/-- END_OF_FRAME (R10). -/
def execEndOfFrame (p : Port) (bytes : List Byte) (s : State) : Host.Outcome State Fault Refusal :=
  runEvent s fun s => s.endFrame p bytes

/-! ## Transmission completion (R18) -/

/-- The completion of a port's transmission (R18): the blocks return, *transmitted* counts under the frame's queue, the
transmitter is IDLE, and the gate tries a selection. -/
def State.completeTransmission (s : State) (p : Port) : State :=
  match (s.port p).transmitter with
  | .idle => s
  | .sending q f _ =>
    (((s.returnBlocks f.blocks).countQueue p q fun c => { c with transmitted := countUp c.transmitted }).setTransmitter p
      .idle).trySelect p

/-- TRANSMISSION_COMPLETION (R18). -/
def execTransmissionCompletion (p : Port) (s : State) : Host.Outcome State Fault Refusal :=
  runEvent s fun s => s.whenReached (s.port p).completion fun s => s.completeTransmission p

/-! ## Link events (R2 to R4) -/

/-- The Notice Unit reconsiders sending at the link-up of the destination's port (R2, R152). -/
def State.noticeLinkUp (s : State) (p : Port) : State :=
  if s.notice.destination.map Requester.port = some p then s.trySend else s

/-- A link-up (R2): the port is UP, its pin low; the gate tries a selection and the Notice Unit reconsiders sending. The
queues of a DOWN port are empty (R116), so the order of the two changes nothing. -/
def State.raiseLink (s : State) (p : Port) : State :=
  if (s.port p).link = .down then
    ((s.modPort p fun P => { P with link := .up, linkPinHigh := false }).trySelect p).noticeLinkUp p
  else s

/-- LINK_UP (R2). -/
def execLinkUp (p : Port) (s : State) : Host.Outcome State Fault Refusal := runEvent s fun s => s.raiseLink p

/-- The receiver of a port at a link-down (R3). -/
def State.abortReception (s : State) (p : Port) : State :=
  match (s.port p).receiver with
  | .idle => s
  | .discarding => s.setReceiver p .idle
  | .receiving bytes =>
    ((s.returnBlocks (receptionBlocks bytes)).countPort p fun c => { c with aborted := countUp c.aborted }).setReceiver p
      .idle

/-- The transmitter of a port at a link-down (R3). -/
def State.abortTransmission (s : State) (p : Port) : State :=
  match (s.port p).transmitter with
  | .idle => s
  | .sending _ f _ =>
    ((s.returnBlocks f.blocks).countPort p fun c =>
      { c with transmitAborted := countUp c.transmitAborted }).setTransmitter p .idle

/-- A link-down (R3, R4): the port is DOWN, its pin high, *link losses* counts, reception and transmission end, and the
four queues are flushed. -/
def State.dropLink (s : State) (p : Port) : State :=
  if (s.port p).link = .up then
    ((((s.modPort p fun P => { P with link := .down, linkPinHigh := true }).countPort p fun c =>
      { c with linkLosses := countUp c.linkLosses }).abortReception p).abortTransmission p).flushPort p
  else s

/-- LINK_DOWN (R3). -/
def execLinkDown (p : Port) (s : State) : Host.Outcome State Fault Refusal := runEvent s fun s => s.dropLink p

/-! ## The cold reset (R175, R130) -/

/-- The station address of a strap value: FC00h plus the value (R130). -/
def stationOf (straps : BitVec 6) : Half := Config.stationBase + straps.setWidth 16

/-- COLD_RESET (R175): the release samples the straps and leaves the whole device at its cold reset values, in cycle 0
at local time 0. The model's own queue and draw count go on. -/
def execColdReset (straps : BitVec 6) (s : State) : Host.Outcome State Fault Refusal :=
  .next { State.coldReset (stationOf straps) with pending := s.pending, freeCount := s.freeCount }

/-- RESET_N_ASSERTED (R175): the device is held in cold reset, at its cold reset values: both transmitters silent, both
LINK pins high, every reception and transmission ended. The station address is not sampled before the release. -/
def execResetNAsserted (s : State) : Host.Outcome State Fault Refusal :=
  .next { State.coldReset s.station with pending := s.pending, freeCount := s.freeCount, resetHeld := true }

end Sys2Proof.Machine
end

