-- ==== Sys2Proof/Machine/Dispatch.lean ====
section
/-! DEFINITION. The meaning of every command: one arm per row of spec/opcode_table.json. -/

namespace Sys2Proof.Machine

/-- The effect of a command on everything but the queue of waiting commands. -/
def exec (i : Instr) (s : State) : Host.Outcome State Fault Refusal :=
  match i with
  | .coldReset straps => Sys2Proof.Machine.execColdReset straps s
  | .resetNAsserted => Sys2Proof.Machine.execResetNAsserted s
  | .linkUp p => Sys2Proof.Machine.execLinkUp p s
  | .linkDown p => Sys2Proof.Machine.execLinkDown p s
  | .frameStart p => Sys2Proof.Machine.execFrameStart p s
  | .headerCompletion p bytes => Sys2Proof.Machine.execHeaderCompletion p bytes s
  | .blockBoundary p bytes => Sys2Proof.Machine.execBlockBoundary p bytes s
  | .surplusByte p bytes => Sys2Proof.Machine.execSurplusByte p bytes s
  | .endOfFrame p bytes => Sys2Proof.Machine.execEndOfFrame p bytes s
  | .transmissionCompletion p => Sys2Proof.Machine.execTransmissionCompletion p s
  | .scheduledCycleStart => Sys2Proof.Machine.execScheduledCycleStart s
  | .windowChange p => Sys2Proof.Machine.execWindowChange p s
  | .leaseExpiry => Sys2Proof.Machine.execLeaseExpiry s
  | .retryTimerExpiry => Sys2Proof.Machine.execRetryTimerExpiry s
  | .purgeVisit => Sys2Proof.Machine.execPurgeVisit s
  | .identify => Sys2Proof.Machine.execIdentify s
  | .unitReset => Sys2Proof.Machine.execUnitReset s
  | .sessionOpen => Sys2Proof.Machine.execSessionOpen s
  | .sessionKeep => Sys2Proof.Machine.execSessionKeep s
  | .sessionClose => Sys2Proof.Machine.execSessionClose s
  | .streamWrite => Sys2Proof.Machine.execStreamWrite s
  | .streamClear => Sys2Proof.Machine.execStreamClear s
  | .streamState => Sys2Proof.Machine.execStreamState s
  | .streamRead => Sys2Proof.Machine.execStreamRead s
  | .streamFind => Sys2Proof.Machine.execStreamFind s
  | .streamPurge => Sys2Proof.Machine.execStreamPurge s
  | .unlistedSet => Sys2Proof.Machine.execUnlistedSet s
  | .streamReset => Sys2Proof.Machine.execStreamReset s
  | .queueSet => Sys2Proof.Machine.execQueueSet s
  | .queueRead => Sys2Proof.Machine.execQueueRead s
  | .beatSet => Sys2Proof.Machine.execBeatSet s
  | .timeRead => Sys2Proof.Machine.execTimeRead s
  | .planHeader => Sys2Proof.Machine.execPlanHeader s
  | .planWindows => Sys2Proof.Machine.execPlanWindows s
  | .planRead => Sys2Proof.Machine.execPlanRead s
  | .planRevert => Sys2Proof.Machine.execPlanRevert s
  | .planCommit => Sys2Proof.Machine.execPlanCommit s
  | .planCancel => Sys2Proof.Machine.execPlanCancel s
  | .noticeSet => Sys2Proof.Machine.execNoticeSet s
  | .noticeRead => Sys2Proof.Machine.execNoticeRead s
  | .counterRead => Sys2Proof.Machine.execCounterRead s
  | .unknownRequest => Sys2Proof.Machine.execUnknownRequest s

end Sys2Proof.Machine
end

