-- ==== Sys2Proof/Machine/Idle.lean ====
section
/-! DEFINITION. What the device does when no command waits: its own timers and the engine act, and time passes (log
entry 4). -/

namespace Sys2Proof.Machine

/-- Is a time reached? -/
def State.reached (s : State) (t : Option Ticks) : Bool :=
  match t with
  | some t => t ≤ s.localTime
  | none => false

/-- The events that are due now: local time does not go on before they have happened. -/
def State.dueEvents (s : State) : List Instr :=
  (if s.reached s.portU.completion then [.transmissionCompletion .u] else [])
    ++ (if s.reached s.portD.completion then [.transmissionCompletion .d] else [])
    ++ (if s.reached (some s.timer.scheduledEnd) then [.scheduledCycleStart] else [])
    ++ (if s.reached (s.windowChangeAt .u) then [.windowChange .u] else [])
    ++ (if s.reached (s.windowChangeAt .d) then [.windowChange .d] else [])
    ++ (if s.reached (s.session.map Session.expiry) then [.leaseExpiry] else [])
    ++ (if s.reached s.notice.retryTimer then [.retryTimerExpiry] else [])
    ++ (if s.reached s.engine.purgeBy then [.purgeVisit] else [])

/-- The take of a request of this operation as a command. -/
def takeInstr : Option Op → Instr
  | none => .unknownRequest
  | some .identify => .identify
  | some .unitReset => .unitReset
  | some .sessionOpen => .sessionOpen
  | some .sessionKeep => .sessionKeep
  | some .sessionClose => .sessionClose
  | some .streamWrite => .streamWrite
  | some .streamClear => .streamClear
  | some .streamState => .streamState
  | some .streamRead => .streamRead
  | some .streamFind => .streamFind
  | some .streamPurge => .streamPurge
  | some .unlistedSet => .unlistedSet
  | some .streamReset => .streamReset
  | some .queueSet => .queueSet
  | some .queueRead => .queueRead
  | some .beatSet => .beatSet
  | some .timeRead => .timeRead
  | some .planHeader => .planHeader
  | some .planWindows => .planWindows
  | some .planRead => .planRead
  | some .planRevert => .planRevert
  | some .planCommit => .planCommit
  | some .planCancel => .planCancel
  | some .noticeSet => .noticeSet
  | some .noticeRead => .noticeRead
  | some .counterRead => .counterRead

/-- The events that may happen now or later: the next visit of a purge walk (R35), and the take of a waiting request by
an IDLE engine (R120). -/
def State.readyEvents (s : State) : List Instr :=
  match s.engine.state, s.engine.queue with
  | .purging _ _ _ _ _, _ => [.purgeVisit]
  | .idle, r :: _ => [takeInstr (Op.ofCode r.op)]
  | _, _ => []

/-- What the device may do next by itself: an event, or (`none`) one tick. A tick is possible when no event is due. -/
def State.options (s : State) : List (Option Instr) :=
  match s.dueEvents with
  | [] => s.readyEvents.map some ++ [none]
  | e :: es => (e :: es ++ s.readyEvents).map some

/-- One tick of the reference clock (R80). -/
def State.tick (s : State) : State := { s with localTime := s.localTime + 1 }

/-- Do one of the things the device may do. -/
def act (x : Option Instr) (s : State) : Host.Outcome State Fault Refusal :=
  match x with
  | none => .next s.tick
  | some i => exec i s

/-- One idle step: nothing while a cold reset is held; otherwise one of the device's options, drawn where there are
several. -/
def idle (s : State) : Host.Outcome State Fault Refusal :=
  if s.resetHeld then .next s
  else
    match s.options with
    | [x] => act x s
    | xs => act (xs.getD (s.draw.1 % xs.length) none) s.draw.2

end Sys2Proof.Machine
end

