-- ==== Sys2Proof/Safety.lean ====
section
/-! DEFINITION. What counts as a sound state of the device: the laws that the rules give it between events. -/

namespace Sys2Proof.Machine

/-! ## Blocks (R63) -/

/-- Blocks held by a receiver (R19). -/
def Receiver.blocks : Receiver → Nat
  | .idle => 0
  | .receiving bytes => receptionBlocks bytes
  | .discarding => 0

/-- Blocks held by a transmitter (R18). -/
def Transmitter.blocks : Transmitter → Nat
  | .idle => 0
  | .sending _ f _ => f.blocks

/-- Blocks held at a port: in reception, in its queues, in transmission. -/
def PortState.heldBlocks (P : PortState) : Nat := P.receiver.blocks + P.queueBlocks + P.transmitter.blocks

/-- R63: the blocks in the pool, in reception, in the queues, in the request queue and in transmission add up to
512. -/
abbrev State.BlocksConserved (s : State) : Prop :=
  s.pool + s.portU.heldBlocks + s.portD.heldBlocks + requestBlocks s.engine.queue = Config.poolBlocks

/-! ## The Stream Table (R21, R22, R42, R51, R57) -/

/-- R22: no two entries that are not FREE have equal keys. -/
abbrev State.KeysUnique (s : State) : Prop :=
  ∀ i j : StreamIndex, ∀ e f : StreamEntry,
    s.entry i = some e → s.entry j = some f → e.record.key = f.record.key → i = j

/-- The ranges of a record (R21, section 2.2). -/
abbrev StreamRecord.InRange (r : StreamRecord) : Prop :=
  (1 ≤ r.key.source.toNat ∧ r.key.source.toNat ≤ 0xFFFE ∧ r.key.tag.toNat ≤ 4095)
    ∧ (∀ w ∈ r.sequence, 1 ≤ w ∧ w ≤ 32)
    ∧ (∀ c ∈ r.cadence, 1000 ≤ c.interval ∧ c.interval ≤ 10000000 ∧ c.tolerance ≤ c.interval / 2)
    ∧ (∀ m ∈ r.meter, 1 ≤ m.fill ∧ m.fill ≤ 128 ∧ 16 ≤ m.depth ∧ m.depth ≤ 65535)
    ∧ (∀ l ∈ r.trip, 1 ≤ l ∧ l ≤ 255)

/-- R42: H absent with an empty set, or H in the set, no number twice, every member within the W numbers ending at H,
and never more than W members. -/
abbrev SequenceState.Sound (w : Nat) (st : SequenceState) : Prop :=
  match st.highest with
  | none => st.accepted = []
  | some h =>
    h ∈ st.accepted ∧ st.accepted.Nodup ∧ st.accepted.length ≤ w ∧ ∀ m ∈ st.accepted, (h - m).toNat < w

/-- A sound entry: its record in range; dynamic state for exactly the checks that are present; the sequence state, the
tokens and the score within their laws (R21, R42, R51, R57, R58, R41). -/
abbrev StreamEntry.Sound (e : StreamEntry) : Prop :=
  e.record.InRange
    ∧ e.sequence.isSome = e.record.sequence.isSome ∧ e.cadence.isSome = e.record.cadence.isSome
    ∧ e.meter.isSome = e.record.meter.isSome ∧ e.score.isSome = e.record.trip.isSome
    ∧ (∀ w ∈ e.record.sequence, ∀ st ∈ e.sequence, st.Sound w)
    ∧ (∀ m ∈ e.record.meter, ∀ st ∈ e.meter, st.tokens ≤ m.depth)
    ∧ (∀ l ∈ e.record.trip, ∀ sc ∈ e.score, sc ≤ l ∧ (e.state = .tripped ↔ sc = l))
    ∧ (e.record.trip = none → e.state ≠ .tripped)

/-- Every entry is sound. -/
abbrev State.EntriesSound (s : State) : Prop := ∀ i : StreamIndex, ∀ e ∈ s.entry i, e.Sound

/-- R33: an accepted set is kept in ascending order of the distance below H. -/
abbrev SequenceState.InOrder (st : SequenceState) : Prop :=
  ∀ h ∈ st.highest, st.accepted.Pairwise fun a b => (h - a).toNat < (h - b).toNat

/-- Every accepted set is kept in that order. -/
abbrev State.SequencesInOrder (s : State) : Prop := ∀ i : StreamIndex, ∀ e ∈ s.entry i, ∀ st ∈ e.sequence, st.InOrder

/-! ## Plans, the cycle and the gates (R82, R93, R97, R99, R109) -/

/-- The gate of a port stands in a window in use, whose end is measured from the current cycle start (R109). -/
abbrev gateSound (plan : Plan) (start : Ticks) (P : PortState) : Prop :=
  P.gate.window < plan.windowCount ∧ P.gate.windowEnd = start + plan.span (P.gate.window + 1)

/-- R97: the active plan of each port is valid and both have the nominal cycle length C; R99: so are the staged plans
while a commit is pending; R82: the scheduled end is the current cycle start plus C; R109: the gates' windows; R93:
Tb is at most C/4 whenever beat following is not FREE, and at most a quarter of the length that awaits a swap. -/
abbrev State.PlansSound (s : State) : Prop :=
  (∀ p : Port, (s.plans.activePlan p).valid = true ∧ (s.plans.activePlan p).cycleLength = s.timer.length)
    ∧ (s.plans.commitPending = true →
      (∀ p : Port, (s.plans.stagedPlan p).valid = true)
        ∧ (s.plans.stagedPlan .u).cycleLength = (s.plans.stagedPlan .d).cycleLength
        ∧ (s.beat.state ≠ .free → 4 * s.beat.tolerance ≤ (s.plans.stagedPlan .u).cycleLength))
    ∧ (s.beat.state ≠ .free → 4 * s.beat.tolerance ≤ s.timer.length)
    ∧ s.timer.scheduledEnd = s.timer.start + s.timer.length
    ∧ (∀ p : Port, gateSound (s.plans.activePlan p) s.timer.start (s.port p))

/-! ## The line ports (R1, R3, R4, R5, R116) -/

/-- The LINK pin is high exactly while the port is DOWN, and a DOWN port receives nothing, sends nothing and has empty
queues (R1, R3, R4, R5, R116). -/
abbrev PortState.LinkSound (P : PortState) : Prop :=
  (P.linkPinHigh = true ↔ P.link = .down)
    ∧ (P.link = .down → P.receiver = .idle ∧ P.transmitter = .idle ∧ ∀ q : QueueNo, P.queues[q].frames = [])

/-- Both ports are so. -/
abbrev State.LinksSound (s : State) : Prop := ∀ p : Port, (s.port p).LinkSound

/-! ## The Management Engine (R118, R120, R127) -/

/-- At most 4 requests, at most 4 stored replies with at most one for any requester, and between events the engine is
IDLE, PURGING or RESETTING (R118, R127, R120, R132). -/
abbrev State.EngineSound (s : State) : Prop :=
  s.engine.queue.length ≤ Config.requestQueueMax ∧ s.engine.memory.length ≤ Config.replyMemoryMax
    ∧ (s.engine.memory.map MemoryEntry.requester).Nodup ∧ s.engine.state ≠ .executing ∧ s.engine.state ≠ .resetDue

/-! ## The Notice Unit (R149, R150, R152) -/

/-- R150: at most 16 entries, at most one IN_FLIGHT, at most one WAITING for any kind and subject; an entry in flight
has a number and at least one attempt, and there is then a destination and a running retry timer (R153, R156, R158);
the destination is the one R149 gives. -/
abbrev State.NoticesSound (s : State) : Prop :=
  s.notice.list.length ≤ Config.noticeListMax
    ∧ (s.notice.list.filter NoticeEntry.isInFlight).length ≤ 1
    ∧ ((s.notice.list.filter NoticeEntry.isWaiting).map NoticeEntry.event).Nodup
    ∧ (∀ x ∈ s.notice.list, x.isInFlight = true →
      x.number.isSome = true ∧ 1 ≤ x.attempts ∧ s.notice.destination.isSome = true
        ∧ s.notice.retryTimer.isSome = true)
    ∧ s.notice.destination = s.wantedDestination

/-! ## Beat following (R85, R86, R90, R92, R93) -/

/-- Beat following is FREE exactly when its source is none; the fault count is at most 3 and the miss count at most 4,
and in LOCKED each is below the count that loses the beat. -/
abbrev State.BeatSound (s : State) : Prop :=
  (s.beat.state = .free ↔ s.beat.source = none)
    ∧ s.beat.faultCount ≤ Config.faultLimit ∧ s.beat.missCount ≤ Config.missLimit
    ∧ (s.beat.state = .locked → s.beat.faultCount < Config.faultLimit ∧ s.beat.missCount < Config.missLimit)

/-! ## What an event leaves alone -/

/-- What sending from a port leaves alone there: all but the frames and counters of its queues and its transmitter. -/
structure PortState.OnlySending (P Q : PortState) : Prop where
  link : Q.link = P.link
  pin : Q.linkPinHigh = P.linkPinHigh
  receiver : Q.receiver = P.receiver
  gate : Q.gate = P.gate
  unlisted : Q.unlisted = P.unlisted
  counters : Q.counters = P.counters
  limit : ∀ q : QueueNo, Q.queues[q].limit = P.queues[q].limit
  ageLimit : ∀ q : QueueNo, Q.queues[q].ageLimit = P.queues[q].ageLimit

/-- The frame of everything that sends a frame or lists a notice: `t` differs from `s` at most in the pool, in the
frames and counters of the egress queues, in the transmitters, in the list, timer, flag, number and counters of the
Notice Unit, and in the state and counters of the engine. -/
structure State.OnlySending (s t : State) : Prop where
  pending : t.pending = s.pending
  resetHeld : t.resetHeld = s.resetHeld
  station : t.station = s.station
  localTime : t.localTime = s.localTime
  timer : t.timer = s.timer
  beat : t.beat = s.beat
  table : t.table = s.table
  plans : t.plans = s.plans
  session : t.session = s.session
  requests : t.engine.queue = s.engine.queue
  memory : t.engine.memory = s.engine.memory
  settings : t.notice.settings = s.notice.settings
  destination : t.notice.destination = s.notice.destination
  portU : s.portU.OnlySending t.portU
  portD : s.portD.OnlySending t.portD

/-- No cold reset is held and no unit reset is awaited: an event's effect is all that the event does. -/
structure State.Plain (s : State) : Prop where
  running : s.resetHeld = false
  notResetting : s.engine.state ≠ .resetting
  notDue : s.engine.state ≠ .resetDue

/-- A frame ends on a port and is accepted: the receiver is RECEIVING, no header completion, block boundary or surplus
byte lies among the last bytes, and the whole frame passes the three tests of R10. -/
structure State.Accepting (s : State) (p : Port) (bytes : List Byte) (f : Frame) : Prop where
  plain : s.Plain
  receiving : ∃ old, (s.port p).receiver = .receiving old ∧ reachesEnd old bytes = true
    ∧ judgeEnd (old ++ bytes) = .accepted f

/-- The device as the accepted frame leaves the receiver for routing (R10): IDLE, and *accepted* counted. -/
def State.received (s : State) (p : Port) : State :=
  s.modPort p fun P =>
    { P with receiver := .idle, counters := { P.counters with accepted := countUp P.counters.accepted } }

/-- A time is reached before any other deadline of the device. -/
def State.First (s : State) (t : Ticks) : Prop := ∀ d ∈ s.deadlines, t ≤ d

/-! ## Orders that the spec leaves open (log entry 1) -/

/-- From `s` to `t` two things of one event are done, in one order or the other; the draw is counted. -/
def State.EitherOrder (s : State) (f g : State → State) (t : State) : Prop :=
  t = g (f { s with freeCount := s.freeCount + 1 }) ∨ t = f (g { s with freeCount := s.freeCount + 1 })

/-- From `s` to `t` each of these things is done once, in some order; a draw, where there is one, is counted. -/
def State.EachDone (s : State) (things : Work → Prop) (t : State) : Prop :=
  ∃ (n : Nat) (ws : List Work), (n = s.freeCount ∨ n = s.freeCount + 1) ∧ ws.Nodup ∧ (∀ w, w ∈ ws ↔ things w)
    ∧ t = ws.foldl (fun x w => runWork w x) { s with freeCount := n }

/-- What every cycle start brings with it, `s` being the state before: PLAN_SWAPPED if a commit was pending (R106), the
ageing of every queue with an age limit (R74), and a selection by every gate whose port is UP and whose transmitter is
IDLE (R111). -/
def State.StartBrings (s : State) (w : Work) : Prop :=
  (w = .raise .planSwapped ∧ s.plans.commitPending = true)
    ∨ (∃ p q, w = .age p q ∧ 1 ≤ (s.queue p q).ageLimit)
    ∨ ∃ p, w = .select p ∧ (s.port p).link = .up ∧ (s.port p).transmitter = .idle

/-- A realign brings GATE_OVERRUN for every port whose transmitter it finds SENDING (R117). -/
def State.RealignBrings (s : State) (w : Work) : Prop :=
  s.StartBrings w ∨ ∃ p, w = .raise (.gateOverrun p) ∧ (s.port p).transmitter ≠ .idle

/-- A port as a realign leaves its gate (R111, R117): in window 0 up to this end, and an overrun counted if its
transmitter is SENDING. -/
def PortState.realigned (P : PortState) (windowEnd : Ticks) : PortState :=
  { P with
    gate := ⟨0, windowEnd, if P.transmitter = .idle then P.gate.overruns else countUp P.gate.overruns⟩ }

/-! ## Takes -/

/-- A request of this operation is at the head of the queue of an IDLE engine and passes steps 1 to 5 of the handling
series (R120, R121): it is no broadcast or an IDENTIFY, no repeat, its operand length agrees, and its requester holds
the session if the operation needs one. -/
structure State.Taking (s : State) (o : Op) (r : Request) (rest : List Request) : Prop where
  running : s.resetHeld = false
  idle : s.engine.state = .idle
  head : s.engine.queue = r :: rest
  code : Op.ofCode r.op = some o
  unicast : r.isBroadcast = true → o = .identify
  fresh : ∀ m ∈ s.engine.memory, m.answers r = false
  length : o.lengthAgrees r.operands = true
  holder : o.needsSession r.operands = true → s.isHolder r.requester = true

/-- The device at step 6 of the take of a request (R120, R124, R138): the head has left the queue, and the lease is
renewed if its requester holds the session. -/
def State.atStep6 (s : State) (r : Request) (rest : List Request) : State :=
  (s.takeHead r rest).renewLease r.requester

/-- Can a reply with this payload be built: its port is UP and the pool grants its blocks (R125)? -/
def State.canReply (s : State) (r : Request) (payload : List Byte) : Bool :=
  (s.port r.requester.port).link == .up && decide ((s.replyFrame r payload).blocks ≤ s.pool)

/-- The MANAGEMENT counters after a reply has been built, or dropped (R125, R135). -/
def ManagementCounters.replied (c : ManagementCounters) (built : Bool) : ManagementCounters :=
  if built then { c with repliesBuilt := countUp c.repliesBuilt } else { c with replyDropped := countUp c.replyDropped }

/-- A queue with a frame admitted at its tail (R69, R79): recorded with the cycle index, *enqueued* counted, the
high-water occupancy raised. -/
def Queue.enqueued (Q : Queue) (f : Frame) (index : CycleIndex) (o : Origin) : Queue :=
  { Q with
    frames := Q.frames ++ [⟨f, index, o⟩]
    counters :=
      { Q.counters with
        enqueued := countUp Q.counters.enqueued
        highWater := max Q.counters.highWater (Q.blocks + f.blocks) } }

/-- The device after a reply has been built, or dropped, and the take has ended, the frame itself aside (R120, R125). -/
def State.replied (u : State) (built : Bool) : State :=
  { u with engine := { u.engine with state := .idle, counters := u.engine.counters.replied built } }

/-- From `u` to `t` a REPLY with this payload is sent and the take ends (R120, R125). The reply is built or dropped, and
counted so; the engine is IDLE; and nothing else changes but what sending touches. A reply for which no frame is built
changes nothing more. One that is built takes its blocks from the pool and is offered to Q3 of its port: admitted there,
and selected at once if the gate can, or refused as *dropped full* with QUEUE_OVERFLOW (R69, R71, R113). While the
transmitter is SENDING, an admitted one stands at the tail of Q3. -/
structure State.Replied (u : State) (r : Request) (payload : List Byte) (t : State) : Prop where
  sending : u.OnlySending t
  idle : t.engine.state = .idle
  counted : t.engine.counters = u.engine.counters.replied (u.canReply r payload)
  dropped : u.canReply r payload = false → t = u.replied false
  offered : u.canReply r payload = true → ∀ w : State,
    w = (({ u with pool := u.pool - (u.replyFrame r payload).blocks } : State).countManagement fun c =>
      c.replied true).offerFrame r.requester.port 3 (u.replyFrame r payload) (.reply false) →
    t = { w with engine := { w.engine with state := .idle } }
  queued : u.canReply r payload = true → (u.port r.requester.port).transmitter ≠ .idle →
    (u.queue r.requester.port 3).blocks + (u.replyFrame r payload).blocks ≤ (u.queue r.requester.port 3).limit →
    t = ({ u.replied true with pool := u.pool - (u.replyFrame r payload).blocks } : State).modQueue r.requester.port 3
      fun Q => Q.enqueued (u.replyFrame r payload) u.timer.index (.reply false)

/-- The payload of a reply (R125): request number and operation code as received, status, results. -/
def replyBytes (r : Request) (status : Status) (results : List Byte) : List Byte :=
  [r.number, r.op, status.code] ++ results

/-- From `u` to `t` a request is answered with this status and these results (R125, R127, R129): the reply is stored
and sent, the engine is IDLE, and nothing else changes but what sending touches. -/
abbrev State.Answered (u : State) (r : Request) (status : Status) (results : List Byte) (t : State) : Prop :=
  (u.storeReply r (replyBytes r status results)).Replied r (replyBytes r status results) t

end Sys2Proof.Machine
end

