-- ==== Sys2Proof/Certificates/Slice0/Obligations.lean ====
section
/-! DEFINITION. The statements for the provers. Each says in its docstring which rule of spec/ it formalises. A choice of
the model that a statement rests on is named with its log entry. -/

open Sys2Proof Sys2Proof.Machine

/-! ## The queue of commands and the step -/

/-- The command at the front of the queue is executed with the queue's rest (the model's own queue, log entry 7). -/
def Obligations.StepRunsTheFrontCommand : Prop :=
  ∀ (i : Instr) (rest : List Instr) (s : State), step { s with pending := i :: rest } = exec i { s with pending := rest }

/-- No command stops: the spec gives the device no event that stops it, so every command and every step answers a next
state. No command touches the queue of waiting commands (the model's own queue, log entry 7). -/
def Obligations.EveryCommandAnswersNext : Prop :=
  (∀ (i : Instr) (s : State), ∃ t, exec i s = .next t ∧ t.pending = s.pending) ∧ ∀ s : State, ∃ t, step s = .next t

/-! ## Invariants that every step keeps -/

/-- R63: the blocks always add up to 512. -/
def Obligations.EveryStepConservesBlocks : Prop :=
  ∀ s t : State, s.BlocksConserved → step s = .next t → t.BlocksConserved

/-- R22: no two entries that are not FREE have equal keys. -/
def Obligations.EveryStepKeepsKeysUnique : Prop := ∀ s t : State, s.KeysUnique → step s = .next t → t.KeysUnique

/-- R21, R42, R51, R57, R58: every record stays in range, and every entry's sequence state, tokens and score stay within
their laws. R33: so does every accepted set its order, by ascending distance below H. -/
def Obligations.EveryStepKeepsEntriesSound : Prop :=
  (∀ s t : State, s.EntriesSound → step s = .next t → t.EntriesSound)
  ∧ ∀ s t : State, s.EntriesSound → s.SequencesInOrder → step s = .next t → t.SequencesInOrder

/-- R97, R99, R82, R109, R93: the active plans stay valid and share the length C, a pending commit stays good, the
scheduled end is the cycle start plus C, each gate stands in a window in use, and Tb is at most C/4. -/
def Obligations.EveryStepKeepsPlansSound : Prop := ∀ s t : State, s.PlansSound → step s = .next t → t.PlansSound

/-- R1, R3, R4, R5, R116: a LINK pin is high exactly while its port is DOWN, and a DOWN port holds nothing. -/
def Obligations.EveryStepKeepsLinksSound : Prop := ∀ s t : State, s.LinksSound → step s = .next t → t.LinksSound

/-- R118, R127, R120: at most 4 requests, at most 4 stored replies and one for any requester, and between events the
engine is IDLE, PURGING or RESETTING. -/
def Obligations.EveryStepKeepsEngineSound : Prop := ∀ s t : State, s.EngineSound → step s = .next t → t.EngineSound

/-- R150, R149, R153: at most 16 notices, at most one in flight and one WAITING for any matter, and the destination is
the one R149 gives. -/
def Obligations.EveryStepKeepsNoticesSound : Prop := ∀ s t : State, s.NoticesSound → step s = .next t → t.NoticesSound

/-- R85, R90, R92: FREE exactly without a source, and the two counts within their ranges. -/
def Obligations.EveryStepKeepsBeatSound : Prop := ∀ s t : State, s.BeatSound → step s = .next t → t.BeatSound

/-- The machine right after reset is sound in all eight ways (its station address is the model's choice, log entry 2;
no clause depends on it), and every accepted set is in its order (R33). -/
def Obligations.ResetIsSound : Prop :=
  State.reset.BlocksConserved ∧ State.reset.KeysUnique ∧ State.reset.EntriesSound ∧ State.reset.PlansSound
    ∧ State.reset.LinksSound ∧ State.reset.EngineSound ∧ State.reset.NoticesSound ∧ State.reset.BeatSound
    ∧ State.reset.SequencesInOrder

/-! ## Rules of the whole machine -/

/-- R80, R130: outside a cold reset local time never runs back, and of the commands only the events of the device's own
timers bring it on (log entry 5); a unit reset and the requests leave it. The station address changes at a COLD_RESET
alone, where it is sampled; that it keeps its old value at RESET_N_ASSERTED is the model's choice (log entry 6). -/
def Obligations.TimeRunsOnAndTheStationStays : Prop :=
  ∀ (i : Instr) (s t : State), (∀ straps, i ≠ .coldReset straps) → exec i s = .next t →
    t.station = s.station
      ∧ (i ≠ .resetNAsserted → s.localTime ≤ t.localTime)
      ∧ (i ≠ .resetNAsserted → (∀ p, i ≠ .transmissionCompletion p) → i ≠ .scheduledCycleStart →
          (∀ p, i ≠ .windowChange p) → i ≠ .leaseExpiry → i ≠ .retryTimerExpiry → t.localTime = s.localTime)

/-- R99: while commit-pending stays set, no bank, no indicator and no last swap index changes in any step; PLAN_HEADER,
PLAN_WINDOWS, PLAN_REVERT and PLAN_COMMIT are answered COMMIT_PENDING and an end of session leaves the banks; the staged
plans are the ones that the swap makes active; and a unit reset clears commit-pending and loads the default plan into
all four banks, with both gates in its window 0. -/
def Obligations.PendingCommitHoldsTheBanks : Prop :=
  (∀ s t : State, s.plans.commitPending = true → step s = .next t → t.plans.commitPending = true → t.plans = s.plans)
    ∧ (∀ (s : State) (r : Request) (rest : List Request) (o : Op),
        o ∈ [Op.planHeader, .planWindows, .planRevert, .planCommit] → s.Taking o r rest →
        s.plans.commitPending = true →
        ∃ t, exec (takeInstr (some o)) s = .next t ∧ (s.atStep6 r rest).Answered r .commitPending [] t)
    ∧ (∀ s : State, s.plans.commitPending = true → s.endSession.plans = s.plans)
    ∧ (∀ (b : PlanBanks) (index : CycleIndex) (p : Port), b.commitPending = true →
        (b.atCycleStart index).activePlan p = b.stagedPlan p ∧ (b.atCycleStart index).commitPending = false)
    ∧ ∀ s : State, s.unitReset.plans.commitPending = false
        ∧ ∀ p : Port, (∀ k : Bank, s.unitReset.plans.plan p k = Plan.default)
            ∧ (s.unitReset.port p).gate.window = 0 ∧ (s.unitReset.port p).gate.windowEnd = s.localTime + 1000000

/-- R136, R123, R129, R121: in every step that leaves a session open its holder stays the same requester; and the take of
a request whose requester does not hold the session, SESSION_OPEN apart, changes no entry, no plan, no cycle, no beat
following, no session, no notice setting and no port setting. -/
def Obligations.TheHolderRules : Prop :=
  (∀ (s t : State) (x y : Session), s.session = some x → step s = .next t → t.session = some y → y.holder = x.holder)
    ∧ ∀ (s t : State) (r : Request) (rest : List Request), s.Plain → s.engine.queue = r :: rest →
        s.isHolder r.requester = false → Op.ofCode r.op ≠ some .sessionOpen →
        exec (takeInstr (Op.ofCode r.op)) s = .next t →
          t.table = s.table ∧ t.plans = s.plans ∧ t.timer = s.timer ∧ t.beat = s.beat ∧ t.session = s.session
            ∧ t.notice.settings = s.notice.settings ∧ s.portU.OnlySending t.portU ∧ s.portD.OnlySending t.portD

/-! ## Resets -/

/-- R175, R130: COLD_RESET reads the straps and leaves every block at its cold reset values, in cycle 0 at local time 0.
RESET_N_ASSERTED ends every reception and transmission, drives both LINK pins high and holds the device. That a held
device ignores every command but the release and keeps its station address until then is the model's reading (log entry
6); that the waiting commands and the draw count go on is its choice (log entry 7). -/
def Obligations.ResetsStartTheDevice : Prop :=
  (∀ (straps : BitVec 6) (s : State), ∃ t, exec (.coldReset straps) s = .next t
      ∧ t.station.toNat = 0xFC00 + straps.toNat ∧ t.localTime = 0
      ∧ t.timer = ⟨0, 0, 1000000, 1000000, false⟩ ∧ t.pool = 512 ∧ t.resetHeld = false
      ∧ (∀ p, t.port p = PortState.coldReset) ∧ (∀ i, t.entry i = none) ∧ t.plans = PlanBanks.default
      ∧ t.beat = BeatFollowing.default ∧ t.engine = Engine.default ∧ t.session = none ∧ t.notice = NoticeUnit.default
      ∧ t.pending = s.pending ∧ t.freeCount = s.freeCount)
    ∧ (∀ s : State, ∃ t, exec .resetNAsserted s = .next t ∧ t.resetHeld = true
        ∧ (∀ p, t.port p = PortState.coldReset) ∧ t.pool = 512 ∧ t.station = s.station)
    ∧ (∀ (i : Instr) (s : State), s.resetHeld = true → (∀ straps, i ≠ .coldReset straps) → i ≠ .resetNAsserted →
        exec i s = .next s)

/-- R133, R84, R20, R38, R76, R98, R109, R118, R127, R148: what the unit reset leaves, and what it leaves alone. -/
def Obligations.UnitResetValues : Prop :=
  ∀ s : State,
    (∀ i, s.unitReset.entry i = none)
      ∧ (∀ p, (s.unitReset.port p).unlisted = .forward 0 ∧ (s.unitReset.port p).counters = PortCounters.zero
          ∧ (s.unitReset.port p).gate = ⟨0, s.localTime + 1000000, 0⟩
          ∧ (s.unitReset.port p).link = (s.port p).link ∧ (s.unitReset.port p).linkPinHigh = (s.port p).linkPinHigh
          ∧ (s.unitReset.port p).receiver = (s.port p).receiver
          ∧ (s.unitReset.port p).transmitter = (s.port p).transmitter
          ∧ ∀ q, s.unitReset.queue p q = ⟨if q = 3 then 64 else 128, 0, [], QueueCounters.zero⟩)
      ∧ s.unitReset.pool = s.pool + s.portU.queueBlocks + s.portD.queueBlocks + requestBlocks s.engine.queue
      ∧ s.unitReset.plans = PlanBanks.default
      ∧ s.unitReset.timer = ⟨s.timer.index + 1, s.localTime, s.localTime + 1000000, 1000000, false⟩
      ∧ s.unitReset.beat = BeatFollowing.default ∧ s.unitReset.session = none
      ∧ s.unitReset.notice = NoticeUnit.default ∧ s.unitReset.engine = Engine.default
      ∧ s.unitReset.localTime = s.localTime ∧ s.unitReset.station = s.station

/-! ## Link events -/

/-- R2: a link-up makes the port UP and its pin low and changes no counter of the port, no queue setting, no gate, no
cycle and no stream. With empty queues it changes nothing else, unless the port is that of the notice destination: then
a send is tried (R152). A link-up of an UP port is no event (log entry 8). -/
def Obligations.LinkUpRaisesThePort : Prop :=
  ∀ (s : State) (p : Port), s.Plain →
    ((s.port p).link = .down → (∀ q, (s.queue p q).frames = []) →
      ∃ t, exec (.linkUp p) s = .next t
        ∧ (s.modPort p fun P => { P with link := .up, linkPinHigh := false }).OnlySending t
        ∧ (s.notice.destination.map Requester.port ≠ some p →
            t = s.modPort p fun P => { P with link := .up, linkPinHigh := false })
        ∧ (s.notice.destination.map Requester.port = some p →
            t = (s.modPort p fun P => { P with link := .up, linkPinHigh := false }).trySend))
      ∧ ((s.port p).link = .up → exec (.linkUp p) s = .next s)

/-- R3, R4: a link-down makes the port DOWN and its pin high, ends and counts its reception and its transmission,
flushes its four queues and counts them, returns every block, and changes nothing else: not the gate, not a setting,
not the other port. A link-down of a DOWN port is no event (log entry 8). -/
def Obligations.LinkDownEmptiesThePort : Prop :=
  ∀ (s : State) (p : Port), s.Plain →
    ((s.port p).link = .up →
      exec (.linkDown p) s = .next
        { s.modPort p fun P =>
            { P with
              link := .down
              linkPinHigh := true
              receiver := .idle
              transmitter := .idle
              queues := P.queues.map fun Q =>
                { Q with
                  frames := []
                  counters := { Q.counters with flushed := countBy Q.counters.flushed Q.frames.length } }
              counters :=
                { P.counters with
                  linkLosses := countUp P.counters.linkLosses
                  aborted := match P.receiver with
                    | .receiving _ => countUp P.counters.aborted
                    | _ => P.counters.aborted
                  transmitAborted := match P.transmitter with
                    | .sending _ _ _ => countUp P.counters.transmitAborted
                    | .idle => P.counters.transmitAborted } } with
          pool := s.pool + (s.port p).heldBlocks })
      ∧ ((s.port p).link = .down → exec (.linkDown p) s = .next s)

/-! ## Reception and routing -/

/-- R6: a frame start on an UP port with an IDLE receiver takes one block, or is abandoned as *no buffer* when none is
free; on a DOWN port it is not received. A frame start while a frame is on the line is no event (log entry 8). -/
def Obligations.FrameStartTakesOneBlock : Prop :=
  ∀ (s : State) (p : Port), s.Plain →
    ((s.port p).link = .up → (s.port p).receiver = .idle →
      exec (.frameStart p) s = .next
        (if 1 ≤ s.pool then
          { s.modPort p (fun P => { P with receiver := .receiving [] }) with pool := s.pool - 1 }
        else
          s.modPort p fun P =>
            { P with receiver := .discarding, counters := { P.counters with noBuffer := countUp P.counters.noBuffer } }))
      ∧ ((s.port p).link = .down ∨ (s.port p).receiver ≠ .idle → exec (.frameStart p) s = .next s)

/-- R9, R7, R8: header completion abandons a header of kind 6 to 15, of a tag above 4095, of a length above 1024 or of
source 0000h or FFFFh as *malformed*, abandons a DATA frame that finds fewer than 16 free blocks as *no buffer*, and
keeps every other. -/
def Obligations.HeaderCompletionJudgesTheHeader : Prop :=
  ∀ (s : State) (p : Port) (bytes : List Byte), s.Plain → (s.port p).receiver = .receiving [] → bytes.length = 12 →
    exec (.headerCompletion p bytes) s = .next
      (if 6 ≤ (byteAt bytes 4).toNat / 16 ∨ 4095 < fieldAt bytes 6 2 ∨ 1024 < fieldAt bytes 10 2
          ∨ fieldAt bytes 2 2 = 0 ∨ fieldAt bytes 2 2 = 0xFFFF then
        { s.modPort p (fun P =>
            { P with
              receiver := .discarding
              counters := { P.counters with malformed := countUp P.counters.malformed } }) with
          pool := s.pool + 1 }
      else if (byteAt bytes 4).toNat / 16 = 0 ∧ s.pool < 16 then
        { s.modPort p (fun P =>
            { P with receiver := .discarding, counters := { P.counters with noBuffer := countUp P.counters.noBuffer } }) with
          pool := s.pool + 1 }
      else s.modPort p fun P => { P with receiver := .receiving bytes })

/-- R7, R8, R9, R19: at the byte after each 256 a frame takes one more block, a DATA frame only with at least 17 free;
else it is abandoned as *no buffer* with all its `k` blocks. The first byte beyond the declared length abandons the frame
as *malformed* with all its `k` blocks. -/
def Obligations.LongFramesTakeBlocks : Prop :=
  ∀ (s : State) (p : Port) (old bytes : List Byte) (k : Nat), s.Plain → (s.port p).receiver = .receiving old →
    12 ≤ old.length → 256 * (k - 1) < old.length → old.length ≤ 256 * k →
    (old.length + bytes.length = 256 * k + 1 → old.length + bytes.length ≤ 12 + fieldAt old 10 2 + 4 →
      exec (.blockBoundary p bytes) s = .next
        (if (if (byteAt old 4).toNat / 16 = 0 then 17 else 1) ≤ s.pool then
          { s.modPort p (fun P => { P with receiver := .receiving (old ++ bytes) }) with pool := s.pool - 1 }
        else
          { s.modPort p (fun P =>
              { P with
                receiver := .discarding
                counters := { P.counters with noBuffer := countUp P.counters.noBuffer } }) with
            pool := s.pool + k }))
    ∧ (old.length + bytes.length = 12 + fieldAt old 10 2 + 4 + 1 → 12 + fieldAt old 10 2 + 4 ≤ 256 * k →
      exec (.surplusByte p bytes) s = .next
        { s.modPort p (fun P =>
            { P with
              receiver := .discarding
              counters := { P.counters with malformed := countUp P.counters.malformed } }) with
          pool := s.pool + k })

/-- R10, R8, R11: the end of a frame in DISCARDING makes the receiver IDLE and counts nothing; in RECEIVING a frame of
fewer than 16 bytes is *malformed*, one whose last 4 bytes are not the CRC-32 of the others a *check error*, one whose
bytes differ from its declared length *malformed*, and its blocks return. -/
def Obligations.EndOfFrameDiscards : Prop :=
  ∀ (s : State) (p : Port) (bytes : List Byte), s.Plain →
    ((s.port p).receiver = .discarding →
      exec (.endOfFrame p bytes) s = .next (s.modPort p fun P => { P with receiver := .idle }))
    ∧ ∀ (old : List Byte) (n : Nat), (s.port p).receiver = .receiving old → reachesEnd old bytes = true →
        n = (old ++ bytes).length →
        (n < 16 ∨ ((crc32 ((old ++ bytes).take (n - 4))).toNat = fieldAt (old ++ bytes) (n - 4) 4
            ∧ n ≠ 12 + fieldAt (old ++ bytes) 10 2 + 4) →
          exec (.endOfFrame p bytes) s = .next
            { s.modPort p (fun P =>
                { P with receiver := .idle, counters := { P.counters with malformed := countUp P.counters.malformed } }) with
              pool := s.pool + receptionBlocks old })
        ∧ (16 ≤ n → (crc32 ((old ++ bytes).take (n - 4))).toNat ≠ fieldAt (old ++ bytes) (n - 4) 4 →
          exec (.endOfFrame p bytes) s = .next
            { s.modPort p (fun P =>
                { P with receiver := .idle, counters := { P.counters with checkError := countUp P.counters.checkError } }) with
              pool := s.pool + receptionBlocks old })

/-- R13, R16: a DATA, REPLY or NOTICE frame to the device's own address is discarded as *misaddressed*. R14, R5, R69,
R68: a REPLY, NOTICE or ACK that is not for the device, a CONTROL frame for another station, and a BEAT that is not on
the beat port are offered to Q3 of the other port: refused as *dropped egress-down* while that port is DOWN, refused as
*dropped full* above the limit, and else admitted unchanged at the tail with the cycle index, where it stays while the
transmitter is SENDING. R69, R113, R147, R72: the offer of a forwarded frame or of a reply to any queue is so judged; a
refusal as *dropped full* hands QUEUE_OVERFLOW to the Notice Unit, and that of an awaited reply in RESETTING makes the
unit reset due before that, to be performed at the end of the event, after QUEUE_OVERFLOW has been handed on (log entry
14); an admission to a queue that is open tries a selection. (A NOTICE frame's offer, whose refusal lists the event but
sends nothing, is not this one: log entry 15.) -/
def Obligations.FramesAreRoutedByDestination : Prop :=
  (∀ (s : State) (p : Port) (bytes : List Byte) (f : Frame), s.Accepting p bytes f →
    (f.dest = s.station → (f.kind = .data ∨ f.kind = .reply ∨ f.kind = .notice) →
      exec (.endOfFrame p bytes) s = .next
        { s.modPort p (fun P =>
            { P with
              receiver := .idle
              counters :=
                { P.counters with
                  accepted := countUp P.counters.accepted
                  misaddressed := countUp P.counters.misaddressed } }) with
          pool := s.pool + f.blocks })
    ∧ ((f.kind = .beat ∧ s.beat.source ≠ some p
        ∨ (f.kind = .reply ∨ f.kind = .notice ∨ f.kind = .ack) ∧ f.dest ≠ s.station
        ∨ f.kind = .control ∧ f.dest ≠ s.station ∧ f.dest ≠ 0xFFFF) →
      exec (.endOfFrame p bytes) s = .next ((s.received p).offerFrame p.other 3 f .forwarded)
      ∧ ((s.port p.other).link = .down →
        exec (.endOfFrame p bytes) s = .next
          ({ s.received p with pool := s.pool + f.blocks }.countQueue p.other 3 fun c =>
            { c with droppedEgressDown := countUp c.droppedEgressDown }))
      ∧ ((s.port p.other).link = .up → (s.queue p.other 3).limit < (s.queue p.other 3).blocks + f.blocks →
        ∃ t, exec (.endOfFrame p bytes) s = .next t ∧ (s.received p).OnlySending t
          ∧ (s.notice.destination.map Requester.port ≠ some p.other →
              t.queue p.other 3 = { s.queue p.other 3 with
                counters :=
                  { (s.queue p.other 3).counters with
                    droppedFull := countUp (s.queue p.other 3).counters.droppedFull } }))
      ∧ ((s.port p.other).link = .up → (s.queue p.other 3).blocks + f.blocks ≤ (s.queue p.other 3).limit →
        (s.port p.other).transmitter ≠ .idle →
        exec (.endOfFrame p bytes) s = .next
          ((s.received p).modQueue p.other 3 fun Q => Q.enqueued f s.timer.index .forwarded))))
  ∧ ∀ (s : State) (p : Port) (q : QueueNo) (f : Frame) (o : Origin),
    ((s.port p).link = .down →
      s.offerFrame p q f o =
        ({ s with pool := s.pool + f.blocks }.countQueue p q fun c =>
          { c with droppedEgressDown := countUp c.droppedEgressDown }))
    ∧ ((s.port p).link = .up → (s.queue p q).limit < (s.queue p q).blocks + f.blocks →
      (o = .reply true → s.engine.state ≠ .resetting) →
      s.offerFrame p q f o =
        ({ s with pool := s.pool + f.blocks }.countQueue p q fun c =>
          { c with droppedFull := countUp c.droppedFull }).raise (.queueOverflow p q))
    ∧ ((s.port p).link = .up → (s.queue p q).limit < (s.queue p q).blocks + f.blocks →
      o = .reply true → s.engine.state = .resetting →
      s.offerFrame p q f o =
        ({ s with pool := s.pool + f.blocks, engine := { s.engine with state := .resetDue } }.countQueue p q fun c =>
          { c with droppedFull := countUp c.droppedFull }).raise (.queueOverflow p q))
    ∧ ((s.port p).link = .up → (s.queue p q).blocks + f.blocks ≤ (s.queue p q).limit →
      s.offerFrame p q f o =
        if (s.plans.activePlan p).opens (s.port p).gate.window q = true then
          (s.modQueue p q fun Q => Q.enqueued f s.timer.index o).trySelect p
        else s.modQueue p q fun Q => Q.enqueued f s.timer.index o)

/-- R17, R119: the request and the forwarded copy of a broadcast CONTROL frame are independent: each is admitted or
refused, and counted, whatever becomes of the other. The copy takes its own blocks from the pool, stands unchanged at
the tail of Q3 of the other port when that queue admits it behind a frame in transmission, is refused there as *dropped
egress-down* while that port is DOWN, and is not made when the pool has too few blocks, *no buffer* counting at the
receiving port. The request joins the request queue, or is counted *requests dropped* when that is full. R120: at an
IDLE engine with an empty request queue the admitted request is taken in the same event, before or after the copy is
offered. Every such frame is delivered and copied, in one order or the other: a payload shorter than 2 bytes is
*malformed request*, a full request queue *requests dropped*, an engine that is not IDLE lets the request wait, an IDLE
one takes the head of the queue in the same event; and the copy is offered to Q3 of the other port as any forwarded
frame is, or not made. The draw of the order of the two deliveries is the model's (log entry 1). Where the request taken
is a waiting UNIT_RESET whose reply leaves in this event, the unit reset comes after both deliveries (log entry 14). -/
def Obligations.BroadcastControlIsCopied : Prop :=
  (∀ (s : State) (p : Port) (bytes : List Byte) (f : Frame), s.Accepting p bytes f → f.kind = .control →
    f.dest = 0xFFFF → 2 ≤ f.payload.length →
    (4 ≤ s.engine.queue.length → (s.port p.other).link = .down → f.blocks ≤ s.pool →
      exec (.endOfFrame p bytes) s = .next
        (({ s.received p with pool := s.pool + f.blocks, freeCount := s.freeCount + 1 }.countManagement fun c =>
          { c with requestsDropped := countUp c.requestsDropped }).countQueue p.other 3 fun c =>
            { c with droppedEgressDown := countUp c.droppedEgressDown }))
    ∧ (4 ≤ s.engine.queue.length → (s.port p.other).link = .up → (s.port p.other).transmitter ≠ .idle →
        (s.queue p.other 3).blocks + f.blocks ≤ (s.queue p.other 3).limit → f.blocks ≤ s.pool →
      exec (.endOfFrame p bytes) s = .next
        (({ s.received p with freeCount := s.freeCount + 1 }.countManagement fun c =>
          { c with requestsDropped := countUp c.requestsDropped }).modQueue p.other 3 fun Q =>
            Q.enqueued f s.timer.index .forwarded))
    ∧ (s.engine.queue.length < 4 → s.engine.state ≠ .idle → s.pool < f.blocks →
      exec (.endOfFrame p bytes) s = .next
        ({ s.received p with
            freeCount := s.freeCount + 1
            engine := { s.engine with queue := s.engine.queue ++ [requestOf f p] } }.countPort p fun c =>
          { c with noBuffer := countUp c.noBuffer }))
    ∧ (s.engine.queue.length < 4 → s.engine.state ≠ .idle → (s.port p.other).link = .up →
        (s.port p.other).transmitter ≠ .idle →
        (s.queue p.other 3).blocks + f.blocks ≤ (s.queue p.other 3).limit → f.blocks ≤ s.pool →
      exec (.endOfFrame p bytes) s = .next
        ({ s.received p with
            freeCount := s.freeCount + 1
            pool := s.pool - f.blocks
            engine := { s.engine with queue := s.engine.queue ++ [requestOf f p] } }.modQueue p.other 3 fun Q =>
          Q.enqueued f s.timer.index .forwarded))
    ∧ (s.engine.state = .idle → s.engine.queue = [] →
      ∃ t, exec (.endOfFrame p bytes) s = .next t
        ∧ (s.received p).EitherOrder (fun x => x.deliverRequest f p) (fun x => x.broadcastCopy p f) t))
  ∧ (∀ (s : State) (p : Port) (bytes : List Byte) (f : Frame), s.Accepting p bytes f → f.kind = .control →
    f.dest = 0xFFFF →
    ∃ u, exec (.endOfFrame p bytes) s = .next u.settle
      ∧ (s.received p).EitherOrder (fun x => x.deliverRequest f p) (fun x => x.broadcastCopy p f) u)
  ∧ ∀ (s : State) (p : Port) (f : Frame),
    (f.payload.length < 2 →
      s.deliverRequest f p = { s with pool := s.pool + f.blocks }.countManagement fun c =>
        { c with malformedRequest := countUp c.malformedRequest })
    ∧ (2 ≤ f.payload.length → 4 ≤ s.engine.queue.length →
      s.deliverRequest f p = { s with pool := s.pool + f.blocks }.countManagement fun c =>
        { c with requestsDropped := countUp c.requestsDropped })
    ∧ (∀ (n c : Byte) (ops : List Byte), f.payload = n :: c :: ops → s.engine.queue.length < 4 →
        s.engine.state ≠ .idle →
      s.deliverRequest f p =
        { s with
          engine :=
            { s.engine with
              queue := s.engine.queue ++ [⟨⟨f.src, p⟩, f.dest == 0xFFFF, f.seq, n, c, ops⟩] } })
    ∧ (∀ (n c : Byte) (ops : List Byte) (r : Request) (rest : List Request), f.payload = n :: c :: ops →
        s.engine.queue.length < 4 → s.resetHeld = false → s.engine.state = .idle →
        s.engine.queue ++ [⟨⟨f.src, p⟩, f.dest == 0xFFFF, f.seq, n, c, ops⟩] = r :: rest →
      exec (takeInstr (Op.ofCode r.op)) { s with engine := { s.engine with queue := r :: rest } } =
        .next (s.deliverRequest f p).settle)
    ∧ (s.pool < f.blocks → s.broadcastCopy p f = s.countPort p fun c => { c with noBuffer := countUp c.noBuffer })
    ∧ (s.resetHeld = false → s.engine.state = .idle → s.engine.queue = [] → 2 ≤ f.payload.length →
      exec (takeInstr (Op.ofCode (byteAt f.payload 1)))
          { s with engine := { s.engine with queue := [requestOf f p] } } =
        .next (s.deliverRequest f p).settle)
    ∧ (f.blocks ≤ s.pool →
      s.broadcastCopy p f = { s with pool := s.pool - f.blocks }.offerFrame p.other 3 f .forwarded)

/-- R119, R118: a CONTROL frame for the device with a payload shorter than 2 bytes is discarded as *malformed request*;
one that finds 4 requests is discarded as *requests dropped*; any other is admitted at the tail, with its requester, its
number, its operation code, its operands and its sequence field, where it waits while the engine is not IDLE. R120: an
IDLE engine takes the head of the queue, the request itself if the queue was empty, in the same event. -/
def Obligations.RequestsAreAdmitted : Prop :=
  ∀ (s : State) (p : Port) (bytes : List Byte) (f : Frame), s.Accepting p bytes f → f.kind = .control →
    f.dest = s.station → s.station ≠ 0xFFFF →
    (f.payload.length < 2 →
      exec (.endOfFrame p bytes) s = .next
        ({ s.received p with pool := s.pool + f.blocks }.countManagement fun c =>
          { c with malformedRequest := countUp c.malformedRequest }))
    ∧ (2 ≤ f.payload.length → 4 ≤ s.engine.queue.length →
      exec (.endOfFrame p bytes) s = .next
        ({ s.received p with pool := s.pool + f.blocks }.countManagement fun c =>
          { c with requestsDropped := countUp c.requestsDropped }))
    ∧ (∀ (n c : Byte) (ops : List Byte), f.payload = n :: c :: ops → s.engine.queue.length < 4 →
        s.engine.state ≠ .idle →
      exec (.endOfFrame p bytes) s = .next
        { s.received p with
          engine := { s.engine with queue := s.engine.queue ++ [⟨⟨f.src, p⟩, false, f.seq, n, c, ops⟩] } })
    ∧ (∀ (n c : Byte) (ops : List Byte) (r : Request) (rest : List Request), f.payload = n :: c :: ops →
        s.engine.queue.length < 4 → s.engine.state = .idle →
        s.engine.queue ++ [⟨⟨f.src, p⟩, false, f.seq, n, c, ops⟩] = r :: rest →
      exec (.endOfFrame p bytes) s =
        exec (takeInstr (Op.ofCode r.op))
          { s.received p with engine := { s.engine with queue := r :: rest } })

/-- R11, R18, R171, R19: the bytes of a frame spell the frame: what a receiver keeps of the bytes of a frame is the frame
itself, its flags, reserved byte, payload and check included, so that a forwarded frame is sent as it was received;
its blocks and its line occupancy follow from its payload length.
Every frame that the device builds carries a check that a receiver accepts (R11, R125, R154). -/
def Obligations.FrameBytesSpellTheFrame : Prop :=
  (∀ f : Frame, f.payload.length ≤ 1024 →
    frameOfBytes f.bytes = some f ∧ f.bytes.length = 12 + f.payload.length + 4
      ∧ declaredBytes f.bytes = f.bytes.length
      ∧ f.blocks = (if f.payload.length ≤ 240 then 1 else if f.payload.length ≤ 496 then 2
          else if f.payload.length ≤ 752 then 3 else if f.payload.length ≤ 1008 then 4 else 5)
      ∧ f.occupancy = (12 + f.payload.length + 4 + 8) * 8)
  ∧ ∀ (dest src seq : Half) (kind : Kind) (payload : List Byte), payload.length ≤ 1024 →
    judgeEnd (builtFrame dest src kind seq payload).bytes = .accepted (builtFrame dest src kind seq payload)

/-! ## The Stream Table and its checks -/

/-- R23, R39, R59, R40: a DATA frame whose key an entry has is judged by that entry alone: the entry takes the verdict
whole, no other entry changes, and nothing else does but by the sending of the frame and of notices. A discarded frame's
blocks return; a forwarded one is offered to the record's queue, or to the demote queue, of the other port, and stands at
its tail when that queue admits it behind a frame in transmission. R58, R147: a frame that trips the entry keeps its fate,
and STREAM_TRIPPED with the entry's index is handed to the Notice Unit in the same event (in a drawn order, log entry
1). -/
def Obligations.HitsAreJudgedWhole : Prop :=
  ∀ (s : State) (p : Port) (bytes : List Byte) (f : Frame) (i : StreamIndex) (e : StreamEntry) (v : Verdict),
    s.Accepting p bytes f → f.kind = .data → f.dest ≠ s.station → s.KeysUnique → s.entry i = some e →
    e.record.key = ⟨p, f.src, f.tag⟩ → v = judgeFrame e f.seq f.size s.localTime →
    ∃ t, exec (.endOfFrame p bytes) s = .next t
      ∧ ((s.received p).setEntry i (some v.entry)).OnlySending t
      ∧ (∀ reason, v.fate = .discarded reason →
          (v.tripped = false → t = { (s.received p).setEntry i (some v.entry) with pool := s.pool + f.blocks })
          ∧ (v.tripped = true →
              ((s.received p).setEntry i (some v.entry)).EitherOrder (fun x => { x with pool := x.pool + f.blocks })
                (fun x => x.raise (.streamTripped i)) t))
      ∧ (∀ q, (v.fate = .passed ∧ q = dataQueue e.record.queue ∨ ∃ d, v.fate = .demoted d ∧ q = dataQueue d) →
          (v.tripped = false →
            t = ((s.received p).setEntry i (some v.entry)).offerFrame p.other q f .forwarded)
          ∧ (v.tripped = true →
              ((s.received p).setEntry i (some v.entry)).EitherOrder (fun x => x.offerFrame p.other q f .forwarded)
                (fun x => x.raise (.streamTripped i)) t)
          ∧ (v.tripped = false → (s.port p.other).link = .up → (s.port p.other).transmitter ≠ .idle →
              (s.queue p.other q).blocks + f.blocks ≤ (s.queue p.other q).limit →
              t = ((s.received p).setEntry i (some v.entry)).modQueue p.other q
                fun Q => Q.enqueued f s.timer.index .forwarded))

/-- R24, R147: a miss follows the unlisted policy of its ingress port. Under DISCARD the frame's blocks return and
*unlisted discarded* counts there; under FORWARD to queue q the frame is offered to queue q of the other port and
*unlisted forwarded* counts at the ingress port. Under either policy UNLISTED_SEEN with the ingress port is handed to the
Notice Unit in the same event (in a drawn order, log entry 1). No entry changes, and nothing else does but by the sending
of the frame and of notices. With the master enable off nothing is listed or sent: the blocks are back in the pool, or the
frame stands at the tail of its queue when that queue admits it behind a frame in transmission. -/
def Obligations.MissesFollowThePolicy : Prop :=
  ∀ (s : State) (p : Port) (bytes : List Byte) (f : Frame), s.Accepting p bytes f →
    f.kind = .data → f.dest ≠ s.station → (∀ i e, s.entry i = some e → e.record.key ≠ ⟨p, f.src, f.tag⟩) →
    ∃ t, exec (.endOfFrame p bytes) s = .next t
      ∧ (((s.received p).countPort p fun c =>
          match (s.port p).unlisted with
          | .forward _ => { c with unlistedForwarded := countUp c.unlistedForwarded }
          | .discard => { c with unlistedDiscarded := countUp c.unlistedDiscarded })).OnlySending t
      ∧ ((s.port p).unlisted = .discard →
          (s.received p).EitherOrder
            (fun x =>
              { x with pool := x.pool + f.blocks }.countPort p fun c =>
                { c with unlistedDiscarded := countUp c.unlistedDiscarded })
            (fun x => x.raise (.unlistedSeen p)) t)
      ∧ (∀ q, (s.port p).unlisted = .forward q →
          (s.received p).EitherOrder
            (fun x =>
              (x.countPort p fun c => { c with unlistedForwarded := countUp c.unlistedForwarded }).offerFrame p.other
                (dataQueue q) f .forwarded)
            (fun x => x.raise (.unlistedSeen p)) t)
      ∧ (s.notice.settings.master = false → (s.port p).unlisted = .discard →
          t = { s.received p with pool := s.pool + f.blocks, freeCount := s.freeCount + 1 }.countPort p fun c =>
            { c with unlistedDiscarded := countUp c.unlistedDiscarded })
      ∧ (∀ q, s.notice.settings.master = false → (s.port p).unlisted = .forward q → (s.port p.other).link = .up →
          (s.port p.other).transmitter ≠ .idle →
          (s.queue p.other (dataQueue q)).blocks + f.blocks ≤ (s.queue p.other (dataQueue q)).limit →
          t = ({ s.received p with freeCount := s.freeCount + 1 }.countPort p fun c =>
              { c with unlistedForwarded := countUp c.unlistedForwarded }).modQueue p.other (dataQueue q)
            fun Q => Q.enqueued f s.timer.index .forwarded)

/-- R43: the sequence step sorts a frame by the first case of the table that holds, and leaves the entry as it was; a
frame with s = H, which is always in the set, is a duplicate; and whatever the case, H absent included, H, the set and the
gap count stand through the cadence and the meter step, and the outcome step changes them for no frame that is
discarded. -/
def Obligations.SequenceStepSorts : Prop :=
  ∀ (e : StreamEntry) (f : Findings) (s : Half) (w : Nat) (st : SequenceState),
    e.record.sequence = some w → e.sequence = some st → 1 ≤ w → w ≤ 32 →
    (st.highest = none → sequenceStep s ⟨e, f⟩ = ⟨e, { f with case := .first }⟩)
    ∧ (∀ (h : Half) (d : Nat), st.highest = some h → d = (s.toNat + 65536 - h.toNat) % 65536 →
        ((d = 0 ∨ 65536 - w + 1 ≤ d) → s ∈ st.accepted →
          sequenceStep s ⟨e, f⟩ = ⟨e, { f with fate := some (.discarded .duplicate) }⟩)
        ∧ ((d = 0 ∨ 65536 - w + 1 ≤ d) → s ∉ st.accepted →
          sequenceStep s ⟨e, f⟩ = ⟨e, { f with case := .outOfOrder }⟩)
        ∧ (1 ≤ d → d ≤ 32767 → sequenceStep s ⟨e, f⟩ = ⟨e, { f with case := .ahead d }⟩)
        ∧ (32768 ≤ d → d ≤ 65536 - w →
          sequenceStep s ⟨e, f⟩ = ⟨e, { f with fate := some (.discarded .late), violation := true }⟩)
        ∧ (s = h → h ∈ st.accepted → sequenceStep s ⟨e, f⟩ = ⟨e, { f with fate := some (.discarded .duplicate) }⟩))
    ∧ (∀ bytes now : Nat,
        (cadenceStep now ⟨e, f⟩).entry.sequence = some st ∧ (cadenceStep now ⟨e, f⟩).entry.counters = e.counters
          ∧ (meterStep bytes now ⟨e, f⟩).entry.sequence = some st
          ∧ (meterStep bytes now ⟨e, f⟩).entry.counters = e.counters)
    ∧ (∀ reason, f.fate = some (.discarded reason) →
        (outcomeStep s ⟨e, f⟩).sequence = some st ∧ (outcomeStep s ⟨e, f⟩).counters.gap = e.counters.gap)

/-- R47, R48, R49: the cadence step moves the last arrival of every frame that reaches it, finds a frame early that
comes less than I - T after it, and marks an early frame, which the action DISCARD ends. R50, R51, R52, R53: the meter
earns R tokens for each multiple of 1,024 after its last update and not after the arrival, up to B; a frame of no more
bytes than the tokens takes its bytes; a longer one is nonconforming and takes none; the update time becomes the arrival
in every case. -/
def Obligations.CadenceAndMeterStepsJudge : Prop :=
  (∀ (e : StreamEntry) (f : Findings) (part : CadencePart) (st : CadenceState) (now : Ticks),
    e.record.cadence = some part → e.cadence = some st →
    (cadenceStep now ⟨e, f⟩).entry = { e with cadence := some ⟨some now⟩ }
      ∧ ((∀ last, st.lastArrival = some last → part.interval - part.tolerance ≤ now - last) →
          (cadenceStep now ⟨e, f⟩).found = f)
      ∧ (∀ last, st.lastArrival = some last → now - last < part.interval - part.tolerance →
          (cadenceStep now ⟨e, f⟩).found =
            (if part.early = .discard then { f with fate := some (.discarded .early), violation := true }
            else { f with violation := true })))
  ∧ ∀ (e : StreamEntry) (f : Findings) (part : MeterPart) (st : MeterState) (bytes now tokens : Nat),
    e.record.meter = some part → e.meter = some st → st.lastUpdate ≤ now →
    tokens = min part.depth
      (st.tokens + part.fill * ((List.range (now + 1)).filter fun t => t % 1024 = 0 ∧ st.lastUpdate < t).length) →
    (bytes ≤ tokens → meterStep bytes now ⟨e, f⟩ = ⟨{ e with meter := some ⟨tokens - bytes, now⟩ }, f⟩)
    ∧ (tokens < bytes → ∀ q, part.action = .demote q →
        meterStep bytes now ⟨e, f⟩ =
          ⟨{ e with meter := some ⟨tokens, now⟩ }, { f with fate := some (.demoted q), violation := true }⟩)
    ∧ (tokens < bytes → part.action = .discard →
        meterStep bytes now ⟨e, f⟩ =
          ⟨{ e with meter := some ⟨tokens, now⟩ }, { f with fate := some (.discarded .meter), violation := true }⟩)

/-- R55: what the outcome step leaves in the sequence state of an entry with window W: a forwarded frame that is the
first leaves H and the set {s}; one out of order adds s to the set under the same H; one that is ahead makes s the new
H, keeps the members within the W numbers ending at s, and adds s; a discarded frame leaves H and the set as they were.
The set never holds more than W members, and it is kept in ascending order of the distance below H (R33).
An entry without a sequence check has none to change. -/
def Obligations.ForwardedFramesTeach : Prop :=
  (∀ (e : StreamEntry) (f : Findings) (s : Half) (w : Nat) (st : SequenceState),
    e.record.sequence = some w → e.sequence = some st →
      (f.outcome.isForwarded = true → f.case = .first → (outcomeStep s ⟨e, f⟩).sequence = some ⟨some s, [s]⟩)
      ∧ (f.outcome.isForwarded = true → f.case = .outOfOrder → ∀ h, st.highest = some h →
          ∃ l, (outcomeStep s ⟨e, f⟩).sequence = some ⟨some h, l⟩ ∧ ∀ m, m ∈ l ↔ m = s ∨ m ∈ st.accepted)
      ∧ (f.outcome.isForwarded = true → ∀ d, f.case = .ahead d →
          ∃ l, (outcomeStep s ⟨e, f⟩).sequence = some ⟨some s, l⟩
            ∧ ∀ m, m ∈ l ↔ m = s ∨ m ∈ st.accepted ∧ (s.toNat + 65536 - m.toNat) % 65536 < w)
      ∧ (f.outcome.isForwarded = false → (outcomeStep s ⟨e, f⟩).sequence = some st)
      ∧ (st.Sound w → 1 ≤ w → w ≤ 32 → f.case = (sequenceStep s ⟨e, Findings.start⟩).found.case →
          ∀ after, (outcomeStep s ⟨e, f⟩).sequence = some after → after.accepted.length ≤ w)
      ∧ (st.Sound w → 1 ≤ w → w ≤ 32 → st.InOrder → f.case = (sequenceStep s ⟨e, Findings.start⟩).found.case →
          ∀ after, (outcomeStep s ⟨e, f⟩).sequence = some after → after.InOrder))
  ∧ ∀ (e : StreamEntry) (f : Findings) (s : Half), e.sequence = none → (outcomeStep s ⟨e, f⟩).sequence = none

/-- R39: a frame that hits an ENABLED entry goes through the sequence, the cadence and the meter step in this order, each
of which a discard before it cuts off and an absent part passes over, and then the outcome step; the verdict is the
entry that the outcome step leaves, the fate that the steps gave, or passed if none did (R40), and whether the entry is
now TRIPPED. R59: the outcome step counts the frame once, under its fate, and no other of the eight frame counters. R57,
R58, R56: the outcome step raises the score of a frame with a violation by 1, lowers that of a clean forwarded one by 1
and not below 0, and leaves it otherwise; an ENABLED entry whose score is raised to its limit becomes TRIPPED; an entry
without a trip part gets no score and never trips. On every entry the gap goes up by d - 1 for a forwarded frame ahead by d
and stands for any other, and the record, the cadence state and the meter state stand. R41: a frame that hits a BLOCKED
or TRIPPED entry is discarded and counted, and nothing else on the entry changes. -/
def Obligations.OutcomeStepScores : Prop :=
  (∀ (e : StreamEntry) (f : Findings) (s : Half) (limit score : Nat),
    e.record.trip = some limit → e.score = some score → e.state = .enabled → score < limit →
    (f.violation = true → (outcomeStep s ⟨e, f⟩).score = some (score + 1)
        ∧ (outcomeStep s ⟨e, f⟩).state = if score + 1 = limit then .tripped else .enabled)
      ∧ (f.violation = false → f.outcome.isForwarded = true → (outcomeStep s ⟨e, f⟩).score = some (score - 1)
        ∧ (outcomeStep s ⟨e, f⟩).state = .enabled)
      ∧ (f.violation = false → f.outcome.isForwarded = false → (outcomeStep s ⟨e, f⟩).score = some score
        ∧ (outcomeStep s ⟨e, f⟩).state = .enabled))
  ∧ (∀ (e : StreamEntry) (f : Findings) (s : Half),
    (∀ d, f.case = .ahead d → f.outcome.isForwarded = true →
        (outcomeStep s ⟨e, f⟩).counters.gap = min (e.counters.gap + (d - 1)) 4294967295)
      ∧ (f.outcome.isForwarded = false ∨ (∀ d, f.case ≠ .ahead d) → e.counters.gap ≤ 4294967295 →
        (outcomeStep s ⟨e, f⟩).counters.gap = e.counters.gap)
      ∧ (outcomeStep s ⟨e, f⟩).record = e.record ∧ (outcomeStep s ⟨e, f⟩).cadence = e.cadence
      ∧ (outcomeStep s ⟨e, f⟩).meter = e.meter
      ∧ (e.record.trip = none →
        (outcomeStep s ⟨e, f⟩).score = e.score ∧ (outcomeStep s ⟨e, f⟩).state = e.state
          ∧ ∀ (bytes now : Nat), (judgeFrame e s bytes now).tripped = false
              ∧ (judgeFrame e s bytes now).entry.score = e.score ∧ (judgeFrame e s bytes now).entry.state = e.state))
  ∧ ∀ (e : StreamEntry) (s : Half) (bytes now : Nat),
    (e.state = .blocked →
      judgeFrame e s bytes now =
        ⟨{ e with counters := { e.counters with discardedBlocked := countUp e.counters.discardedBlocked } },
          .discarded .blocked, false⟩)
    ∧ (e.state = .tripped →
      judgeFrame e s bytes now =
        ⟨{ e with counters := { e.counters with discardedTripped := countUp e.counters.discardedTripped } },
          .discarded .tripped, false⟩)
    ∧ (∀ (j1 j2 j3 : Judging), e.state = .enabled → j1 = sequenceStep s ⟨e, ⟨none, .none, false⟩⟩ →
        (∀ reason, j1.found.fate = some (.discarded reason) → j2 = j1) →
        ((∀ reason, j1.found.fate ≠ some (.discarded reason)) → j2 = cadenceStep now j1) →
        (∀ reason, j2.found.fate = some (.discarded reason) → j3 = j2) →
        ((∀ reason, j2.found.fate ≠ some (.discarded reason)) → j3 = meterStep bytes now j2) →
        (judgeFrame e s bytes now).entry = outcomeStep s j3
          ∧ (judgeFrame e s bytes now).fate = j3.found.fate.getD .passed
          ∧ ((judgeFrame e s bytes now).tripped = true ↔ (outcomeStep s j3).state = .tripped))
    ∧ ∀ f : Findings,
      (e.record.sequence = none → sequenceStep s ⟨e, f⟩ = ⟨e, f⟩)
      ∧ (e.record.cadence = none → cadenceStep now ⟨e, f⟩ = ⟨e, f⟩)
      ∧ (e.record.meter = none → meterStep bytes now ⟨e, f⟩ = ⟨e, f⟩)
      ∧ { (outcomeStep s ⟨e, f⟩).counters with gap := e.counters.gap } =
          (match f.fate with
            | none => { e.counters with passed := countUp e.counters.passed }
            | some .passed => { e.counters with passed := countUp e.counters.passed }
            | some (.demoted _) => { e.counters with demoted := countUp e.counters.demoted }
            | some (.discarded .blocked) =>
              { e.counters with discardedBlocked := countUp e.counters.discardedBlocked }
            | some (.discarded .tripped) =>
              { e.counters with discardedTripped := countUp e.counters.discardedTripped }
            | some (.discarded .duplicate) =>
              { e.counters with discardedDuplicate := countUp e.counters.discardedDuplicate }
            | some (.discarded .late) => { e.counters with discardedLate := countUp e.counters.discardedLate }
            | some (.discarded .early) => { e.counters with discardedEarly := countUp e.counters.discardedEarly }
            | some (.discarded .meter) => { e.counters with discardedMeter := countUp e.counters.discardedMeter })

/-! ## Queues and the gate -/

/-- R114, R73, R18, R113: the gate of an UP port with an IDLE transmitter takes the head of the first of Q3, Q2, Q1, Q0
that the window opens and whose head fits the time remaining: the frame leaves its queue and the transmitter is SENDING
it, to complete one line occupancy later. R72, R132: if the frame is the awaited reply of a UNIT_RESET, the unit reset
is due with that (at the end of the event: log entry 14). A selection tried on a DOWN port, with the transmitter
SENDING, or with no open queue whose head fits, selects nothing and changes nothing. -/
def Obligations.SelectionTakesTheFirstFittingHead : Prop :=
  (∀ (s : State) (p : Port) (q : QueueNo) (f : QueuedFrame) (rest : List QueuedFrame),
    (s.port p).link = .up → (s.port p).transmitter = .idle → (s.queue p q).frames = f :: rest →
    (s.plans.activePlan p).opens (s.port p).gate.window q = true →
    f.frame.occupancy ≤ (s.port p).gate.windowEnd - s.localTime →
    (∀ k : QueueNo, q < k →
      (s.plans.activePlan p).opens (s.port p).gate.window k = false
        ∨ ∀ g ∈ (s.queue p k).frames.head?, (s.port p).gate.windowEnd - s.localTime < g.frame.occupancy) →
    ((f.origin = .reply true → s.engine.state ≠ .resetting) →
      s.trySelect p =
        (s.modQueue p q fun Q => { Q with frames := rest }).modPort p fun P =>
          { P with transmitter := .sending q f.frame (s.localTime + f.frame.occupancy) })
    ∧ (f.origin = .reply true → s.engine.state = .resetting →
      s.trySelect p =
        ({ s with engine := { s.engine with state := .resetDue } }.modQueue p q fun Q =>
          { Q with frames := rest }).modPort p fun P =>
            { P with transmitter := .sending q f.frame (s.localTime + f.frame.occupancy) }))
  ∧ ∀ (s : State) (p : Port),
    ((s.port p).link = .down ∨ (s.port p).transmitter ≠ .idle
      ∨ ∀ (q : QueueNo), (s.plans.activePlan p).opens (s.port p).gate.window q = false
          ∨ ∀ g ∈ (s.queue p q).frames.head?, (s.port p).gate.windowEnd - s.localTime < g.frame.occupancy) →
    s.trySelect p = s

/-- R74: at a cycle start a queue with age limit A of 1 or more removes from its head the frames of age A or more, up to
the first that is younger; their blocks return and each counts as *aged*. A queue with age limit 0 is not aged. -/
def Obligations.AgeingRemovesOldHeads : Prop :=
  ∀ (s : State) (p : Port) (q : QueueNo) (old young : List QueuedFrame), s.Plain →
    ((s.queue p q).ageLimit = 0 → s.ageQueue p q = s)
    ∧ (1 ≤ (s.queue p q).ageLimit → (s.queue p q).frames = old ++ young →
        (∀ f ∈ old, (s.queue p q).ageLimit ≤ (s.timer.index.toNat + 4294967296 - f.enqueueIndex.toNat) % 4294967296) →
        (∀ f ∈ young.head?,
          (s.timer.index.toNat + 4294967296 - f.enqueueIndex.toNat) % 4294967296 < (s.queue p q).ageLimit) →
        s.ageQueue p q =
          { s.modQueue p q (fun Q =>
              { Q with
                frames := young
                counters := { Q.counters with aged := countBy Q.counters.aged old.length } }) with
            pool := s.pool + blocksOf old })

/-- R18, R79, R113: a completion returns the frame's blocks, counts *transmitted* under its queue, leaves the transmitter
IDLE, and tries a selection; with the queues of the port empty nothing follows. A completion on an IDLE transmitter is no
event (log entry 8), and the event falls at its time if no other of the device's times comes before it (log entry 5). -/
def Obligations.CompletionFreesTheTransmitter : Prop :=
  ∀ (s : State) (p : Port), s.Plain →
    (∀ (q : QueueNo) (f : Frame) (c : Ticks), (s.port p).transmitter = .sending q f c → s.First c →
      exec (.transmissionCompletion p) s = .next
        (State.trySelect { (s.countQueue p q fun c => { c with transmitted := countUp c.transmitted }).modPort p (fun P =>
              { P with transmitter := .idle }) with
            localTime := max s.localTime c
            pool := s.pool + f.blocks } p))
    ∧ (∀ (q : QueueNo) (f : Frame) (c : Ticks), (s.port p).transmitter = .sending q f c → s.First c →
      (∀ k, (s.queue p k).frames = []) →
      exec (.transmissionCompletion p) s = .next
        { (s.countQueue p q fun c => { c with transmitted := countUp c.transmitted }).modPort p (fun P =>
            { P with transmitter := .idle }) with
          localTime := max s.localTime c
          pool := s.pool + f.blocks })
    ∧ ((s.port p).transmitter = .idle → exec (.transmissionCompletion p) s = .next s)

/-- R110, R113: at the end of a window that is not the last in use the gate goes to the next window, whose end lies its
duration later, and tries a selection; nothing else changes, but for the unit reset if the selection sends the reply
that it awaits, at the end of the event (R132, log entry 14). At the end of the last window there is no window change.
The event falls at its time if no other of the device's times comes before it (log entry 5). -/
def Obligations.WindowsChangeInTurn : Prop :=
  ∀ (s u : State) (p : Port), s.resetHeld = false →
    ((s.port p).gate.window + 1 < (s.plans.activePlan p).windowCount → s.First (s.port p).gate.windowEnd →
      u = ({ s with localTime := max s.localTime (s.port p).gate.windowEnd }.modPort p fun P =>
          { P with
            gate :=
              { P.gate with
                window := P.gate.window + 1
                windowEnd := P.gate.windowEnd + (s.plans.activePlan p).duration (P.gate.window + 1) } }) →
      exec (.windowChange p) s = .next (u.trySelect p).settle
        ∧ (s.Plain → exec (.windowChange p) s = .next (u.trySelect p)))
    ∧ (s.Plain → (s.plans.activePlan p).windowCount ≤ (s.port p).gate.window + 1 → exec (.windowChange p) s = .next s)

/-! ## Cycles and beats -/

/-- R82, R83, R106, R111, R92: at the scheduled end a new cycle starts there: the index goes up by 1, a pending commit is
swapped, the new length and end are those of the plans active in it, both gates stand in window 0, and in LOCKED a
cycle without its beat counts a miss, the fourth making beat following LOST and counting *lost* (R95), while the source,
Tb, the fault count and the last error stand. R74, R147: then, in some order (log entry 1),
each queue with an age limit is aged, each gate of an UP port with an IDLE transmitter tries a selection, and PLAN_SWAPPED
of a swap and BEAT_LOST of a fourth miss are handed to the Notice Unit; nothing else happens. The event falls at its time
if no other of the device's times comes before it (log entry 5). -/
def Obligations.ScheduledEndStartsACycle : Prop :=
  ∀ s : State, s.Plain → s.First s.timer.scheduledEnd →
    ∃ t, exec .scheduledCycleStart s = .next t
      ∧ t.localTime = max s.localTime s.timer.scheduledEnd ∧ t.table = s.table ∧ t.session = s.session
      ∧ t.plans = (if s.plans.commitPending then
            { s.plans with
              active := s.plans.active.other, commitPending := false, lastSwap := some (s.timer.index + 1) }
          else s.plans)
      ∧ t.timer = ⟨s.timer.index + 1, s.timer.scheduledEnd,
          s.timer.scheduledEnd + (t.plans.activePlan .u).cycleLength, (t.plans.activePlan .u).cycleLength, false⟩
      ∧ (∀ k, (t.port k).gate =
          ⟨0, s.timer.scheduledEnd + (t.plans.activePlan k).duration 0, (s.port k).gate.overruns⟩)
      ∧ (s.beat.state = .locked → s.timer.beatSeen = false →
          t.beat =
            { s.beat with
              missCount := s.beat.missCount + 1
              state := if s.beat.missCount + 1 < 4 then .locked else .lost
              counters :=
                { s.beat.counters with
                  misses := countUp s.beat.counters.misses
                  lost :=
                    if s.beat.missCount + 1 < 4 then s.beat.counters.lost else countUp s.beat.counters.lost } })
      ∧ (s.beat.state ≠ .locked ∨ s.timer.beatSeen = true → t.beat = s.beat)
      ∧ ({ s with
            localTime := t.localTime
            timer := t.timer
            plans := t.plans
            beat := t.beat
            portU := { s.portU with gate := t.portU.gate }
            portD := { s.portD with gate := t.portD.gate } } : State).EachDone
          (fun w => s.StartBrings w
            ∨ w = .raise .beatLost ∧ s.beat.state = .locked ∧ s.timer.beatSeen = false ∧ 3 ≤ s.beat.missCount) t

/-- R87, R88, R90, R91, R95: a beat on the beat port in LOCKED, in a cycle of length C: the first beat of the cycle, `a`
ticks after its start, re-anchors the cycle when it is late by no more than Tb, and is a fault when it lies further from
either end, the third fault making beat following LOST; a beat after the first is extra and moves nothing
(an early beat in a cycle that has had its beat included, where sections 5.5 and 6.8 work it otherwise, log entry 12).
R15: the beat is reported to the Cycle Timer and its frame offered to Q3 of the other port (in a drawn order, log entry
1). R112, R113, R147: a re-anchor is followed by a selection tried at each gate, and a third fault hands BEAT_LOST to the
Notice Unit. -/
def Obligations.BeatsInLockedAreJudged : Prop :=
  (∀ (s : State) (p : Port) (bytes : List Byte) (f : Frame) (a : Nat), s.Accepting p bytes f → f.kind = .beat →
    s.beat.source = some p → s.beat.state = .locked → s.timer.start + a = s.localTime →
    4 * s.beat.tolerance ≤ s.timer.length →
    s.timer.beatSeen = true ∨ a + s.beat.tolerance < s.timer.length →
    ∃ t, exec (.endOfFrame p bytes) s = .next t ∧ t.plans = s.plans ∧ t.table = s.table ∧ t.session = s.session
      ∧ (s.received p).EitherOrder (fun x => x.offerFrame p.other 3 f .forwarded) (fun x => x.reportBeat s.localTime) t
      ∧ t.beat.counters.beats = countUp s.beat.counters.beats
      ∧ (s.timer.beatSeen = true →
          t.timer = s.timer
            ∧ t.beat = { s.beat with
                counters :=
                  { s.beat.counters with
                    beats := countUp s.beat.counters.beats
                    extra := countUp s.beat.counters.extra } })
      ∧ (s.timer.beatSeen = false → a ≤ s.beat.tolerance →
          t.timer = { s.timer with start := s.localTime, scheduledEnd := s.localTime + s.timer.length, beatSeen := true }
            ∧ t.beat = { s.beat with
                faultCount := 0
                missCount := 0
                lastError := some (a : Int)
                counters :=
                  { s.beat.counters with
                    beats := countUp s.beat.counters.beats
                    reAnchors := countUp s.beat.counters.reAnchors } }
            ∧ ∀ k, (t.port k).gate.window = (s.port k).gate.window
                ∧ (t.port k).gate.windowEnd =
                    s.localTime + (s.plans.activePlan k).span ((s.port k).gate.window + 1))
      ∧ (s.timer.beatSeen = false → s.beat.tolerance < a → a + s.beat.tolerance < s.timer.length →
          t.timer = { s.timer with beatSeen := true }
            ∧ t.beat.faultCount = s.beat.faultCount + 1
            ∧ t.beat.state = (if s.beat.faultCount + 1 < 3 then .locked else .lost)
            ∧ t.beat.lastError = s.beat.lastError ∧ t.beat.missCount = s.beat.missCount
            ∧ t.beat.counters.faults = countUp s.beat.counters.faults))
  ∧ ∀ (s u : State) (now a : Nat), s.beat.state = .locked → s.timer.beatSeen = false → s.timer.start + a = now →
    4 * s.beat.tolerance ≤ s.timer.length →
    (a ≤ s.beat.tolerance → 0 < s.timer.length →
      u = { s with
        timer := { s.timer with start := now, scheduledEnd := now + s.timer.length, beatSeen := true }
        beat :=
          { s.beat with
            faultCount := 0
            missCount := 0
            lastError := some (a : Int)
            counters :=
              { s.beat.counters with
                beats := countUp s.beat.counters.beats
                reAnchors := countUp s.beat.counters.reAnchors } }
        portU :=
          { s.portU with
            gate :=
              { s.portU.gate with windowEnd := now + (s.plans.activePlan .u).span (s.portU.gate.window + 1) } }
        portD :=
          { s.portD with
            gate :=
              { s.portD.gate with windowEnd := now + (s.plans.activePlan .d).span (s.portD.gate.window + 1) } } } →
      s.reportBeat now = (u.trySelect .u).trySelect .d)
    ∧ (s.beat.tolerance < a → a + s.beat.tolerance < s.timer.length →
      u = { s with
        timer := { s.timer with beatSeen := true }
        beat :=
          { s.beat with
            state := if s.beat.faultCount < 2 then .locked else .lost
            faultCount := s.beat.faultCount + 1
            counters :=
              { s.beat.counters with
                beats := countUp s.beat.counters.beats
                faults := countUp s.beat.counters.faults
                lost := if s.beat.faultCount < 2 then s.beat.counters.lost else countUp s.beat.counters.lost } } } →
      s.reportBeat now = if s.beat.faultCount < 2 then u else u.raise .beatLost)

/-- R89, R83, R106, R111, R117, R92: a tolerated early beat, the first of its cycle, starts the next cycle at its arrival:
the index goes up by 1, a pending commit is swapped, both gates stand in window 0 of the new plans, the cycle that ended
counts a miss that the beat clears, and the beat counts as a realign. A port whose transmitter is SENDING counts an
overrun; one that is DOWN counts none. R15: the beat is reported to the Cycle Timer and its frame offered to Q3 of the
other port (in a drawn order, log entry 1). R74, R147: in the report the ageing of the queues, the selections of the gates,
PLAN_SWAPPED of a swap and GATE_OVERRUN of each port whose transmitter is found SENDING follow in some order (log entry
1), and nothing else happens. -/
def Obligations.EarlyBeatsStartTheNextCycle : Prop :=
  (∀ (s : State) (p : Port) (bytes : List Byte) (f : Frame) (e : Nat), s.Accepting p bytes f → f.kind = .beat →
    s.beat.source = some p → s.beat.state = .locked → s.timer.beatSeen = false →
    s.localTime + e = s.timer.start + s.timer.length → e ≤ s.beat.tolerance → 4 * s.beat.tolerance ≤ s.timer.length →
    0 < s.timer.length →
    ∃ t, exec (.endOfFrame p bytes) s = .next t ∧ t.table = s.table ∧ t.session = s.session
      ∧ (s.received p).EitherOrder (fun x => x.offerFrame p.other 3 f .forwarded) (fun x => x.reportBeat s.localTime) t
      ∧ t.plans = (if s.plans.commitPending then
            { s.plans with
              active := s.plans.active.other, commitPending := false, lastSwap := some (s.timer.index + 1) }
          else s.plans)
      ∧ t.timer = ⟨s.timer.index + 1, s.localTime, s.localTime + (t.plans.activePlan .u).cycleLength,
          (t.plans.activePlan .u).cycleLength, true⟩
      ∧ t.beat.state = .locked ∧ t.beat.faultCount = 0 ∧ t.beat.missCount = 0
      ∧ t.beat.lastError = some (-(e : Int))
      ∧ t.beat.counters.realigns = countUp s.beat.counters.realigns
      ∧ t.beat.counters.misses = countUp s.beat.counters.misses
      ∧ ∀ k, (t.port k).gate.window = 0
          ∧ (t.port k).gate.windowEnd = s.localTime + (t.plans.activePlan k).duration 0
          ∧ ((s.port k).transmitter ≠ .idle → (t.port k).gate.overruns = countUp (s.port k).gate.overruns)
          ∧ ((s.port k).transmitter = .idle → (s.port k).link = .down →
              (t.port k).gate.overruns = (s.port k).gate.overruns))
  ∧ ∀ (s : State) (now e length : Nat) (plans : PlanBanks), s.beat.state = .locked → s.timer.beatSeen = false →
    now + e = s.timer.start + s.timer.length → e ≤ s.beat.tolerance → 4 * s.beat.tolerance ≤ s.timer.length →
    0 < s.timer.length →
    plans = (if s.plans.commitPending then
        { s.plans with
          active := s.plans.active.other, commitPending := false, lastSwap := some (s.timer.index + 1) }
      else s.plans) →
    length = (plans.activePlan .u).cycleLength →
    ({ s with
        timer := ⟨s.timer.index + 1, now, now + length, length, true⟩
        plans := plans
        beat :=
          { s.beat with
            faultCount := 0
            missCount := 0
            lastError := some (-(e : Int))
            counters :=
              { s.beat.counters with
                beats := countUp s.beat.counters.beats
                realigns := countUp s.beat.counters.realigns
                misses := countUp s.beat.counters.misses } }
        portU := s.portU.realigned (now + (plans.activePlan .u).duration 0)
        portD := s.portD.realigned (now + (plans.activePlan .d).duration 0) } : State).EachDone s.RealignBrings
      (s.reportBeat now)

/-- R86, R95, R147: a beat in SEEKING or LOST locks, and BEAT_LOCKED is handed to the Notice Unit. At any instant but that
of the cycle's start it starts a new cycle at its arrival, counts as a realign, and each port whose transmitter is SENDING
counts an overrun (R117). At the very instant the cycle started it locks only: R86 says so of a scheduled start, and the
model reads it of every cycle start (log entry 18). R15: the beat is reported to the Cycle Timer and its frame offered to
Q3 of the other port (in a drawn order, log entry 1). R83, R74, R106, R111: in the report of a realign the swap's
PLAN_SWAPPED, the overruns' GATE_OVERRUN, the ageing, the selections and BEAT_LOCKED follow in some order (log entry
1). -/
def Obligations.BeatsInSeekingAndLostLock : Prop :=
  (∀ (s : State) (p : Port) (bytes : List Byte) (f : Frame), s.Accepting p bytes f → f.kind = .beat →
    s.beat.source = some p → (s.beat.state = .seeking ∨ s.beat.state = .lost) →
    ∃ t, exec (.endOfFrame p bytes) s = .next t
      ∧ (s.received p).EitherOrder (fun x => x.offerFrame p.other 3 f .forwarded) (fun x => x.reportBeat s.localTime) t
      ∧ t.beat.state = .locked ∧ t.beat.faultCount = 0 ∧ t.beat.missCount = 0 ∧ t.beat.lastError = none
      ∧ t.timer.beatSeen = true ∧ t.beat.counters.beats = countUp s.beat.counters.beats
      ∧ (s.timer.start = s.localTime →
          t.timer.index = s.timer.index ∧ t.timer.start = s.timer.start ∧ t.plans = s.plans
            ∧ t.beat.counters.realigns = s.beat.counters.realigns)
      ∧ (s.timer.start ≠ s.localTime →
          t.timer.index = s.timer.index + 1 ∧ t.timer.start = s.localTime
            ∧ t.timer.scheduledEnd = s.localTime + t.timer.length
            ∧ t.beat.counters.realigns = countUp s.beat.counters.realigns)
      ∧ (s.timer.start ≠ s.localTime → ∀ k,
          (t.port k).gate.window = 0
            ∧ ((s.port k).transmitter ≠ .idle → (t.port k).gate.overruns = countUp (s.port k).gate.overruns)
            ∧ ((s.port k).transmitter = .idle → (s.port k).link = .down →
                (t.port k).gate.overruns = (s.port k).gate.overruns)))
  ∧ ∀ (s : State) (now length : Nat) (plans : PlanBanks), s.beat.state = .seeking ∨ s.beat.state = .lost →
    (s.timer.start = now →
      s.reportBeat now =
        ({ s with
            timer := { s.timer with beatSeen := true }
            beat :=
              { s.beat with
                state := .locked
                faultCount := 0
                missCount := 0
                lastError := none
                counters := { s.beat.counters with beats := countUp s.beat.counters.beats } } } : State).raise .beatLocked)
    ∧ (s.timer.start ≠ now →
      plans = (if s.plans.commitPending then
          { s.plans with
            active := s.plans.active.other, commitPending := false, lastSwap := some (s.timer.index + 1) }
        else s.plans) →
      length = (plans.activePlan .u).cycleLength →
      ({ s with
          timer := ⟨s.timer.index + 1, now, now + length, length, true⟩
          plans := plans
          beat :=
            { s.beat with
              state := .locked
              faultCount := 0
              missCount := 0
              lastError := none
              counters :=
                { s.beat.counters with
                  beats := countUp s.beat.counters.beats
                  realigns := countUp s.beat.counters.realigns } }
          portU := s.portU.realigned (now + (plans.activePlan .u).duration 0)
          portD := s.portD.realigned (now + (plans.activePlan .d).duration 0) } : State).EachDone
        (fun w => s.RealignBrings w ∨ w = .raise .beatLocked) (s.reportBeat now))

/-! ## Leases and notices -/

/-- R141, R143, R108, R149: at its expiry time the session ends, the staged banks become copies of the active ones
unless a commit is pending, and the notice destination becomes the standing one; with no session there is no expiry. R158,
R150, R152: if the destination changes by this, the entry in flight returns to WAITING and the retry timer stops; then
SESSION_EXPIRED is judged, and then a send is tried. The event falls at the expiry time if no other of the device's times
comes before it (log entry 5). -/
def Obligations.LeaseExpiryEndsTheSession : Prop :=
  ∀ s : State, s.Plain →
    (∀ x, s.session = some x → s.First x.expiry →
      (∃ t, exec .leaseExpiry s = .next t
        ∧ ({ s with
              localTime := max s.localTime x.expiry
              session := none
              plans := if s.plans.commitPending then s.plans else s.plans.revert
              notice := { s.notice with destination := s.notice.settings.standing } } : State).OnlySending t
        ∧ (s.notice.settings.master = true → s.notice.settings.kinds.getLsbD 4 = true → s.notice.list.length < 16 →
            ∃ y ∈ t.notice.list, y.event = .sessionExpired x.holder.station))
      ∧ ∀ v w : State,
          v = { s with
                localTime := max s.localTime x.expiry
                session := none
                plans := if s.plans.commitPending then s.plans else s.plans.revert } →
          (s.notice.destination = s.notice.settings.standing → w = v) →
          (s.notice.destination ≠ s.notice.settings.standing →
            w = v.changeDestination s.notice.settings.standing) →
          exec .leaseExpiry s = .next
            (State.trySend { w with
              notice :=
                w.notice.judge (.sessionExpired x.holder.station) (max s.localTime x.expiry) s.timer.index }))
    ∧ (s.session = none → exec .leaseExpiry s = .next s)

/-- R150, R157: an event is not listed while the master enable or its kind is disabled; it counts in its WAITING entry; it
is lost to a list of 16, with the lost flag set, the mark of the entry in flight cleared, *notices lost* counted and every
entry else as it was; or it is a new WAITING entry at the end of the list. R152: an event handed to the Notice Unit is
judged so, with the local time and the cycle index of the moment, and then a send is tried. -/
def Obligations.EventsAreListed : Prop :=
  (∀ (n : NoticeUnit) (e : Event) (now : Ticks) (index : CycleIndex),
    ((n.settings.master && n.settings.kinds.getLsbD (e.priority - 1)) = false → n.judge e now index = n)
    ∧ ((n.settings.master && n.settings.kinds.getLsbD (e.priority - 1)) = true →
        (∀ before x after, n.list = before ++ x :: after → x.status = .waiting → x.event = e →
            (∀ y ∈ before, ¬ (y.status = .waiting ∧ y.event = e)) →
            n.judge e now index =
              { n with list := before ++ { x with count := min (x.count + 1) 65535 } :: after })
        ∧ ((∀ y ∈ n.list, ¬ (y.status = .waiting ∧ y.event = e)) →
            (n.list.length < 16 →
              n.judge e now index = { n with list := n.list ++ [⟨e, now, index, 1, .waiting, none⟩] })
            ∧ (16 ≤ n.list.length →
              n.judge e now index =
                { n with
                  lostFlag := true
                  counters := { n.counters with noticesLost := countUp n.counters.noticesLost }
                  list := n.list.map fun x =>
                    match x.status with
                    | .waiting => x
                    | .inFlight attempts _ => { x with status := .inFlight attempts false } }))))
  ∧ ∀ (s : State) (e : Event),
    s.raise e = ({ s with notice := s.notice.judge e s.localTime s.timer.index } : State).trySend

/-- R151: the send order holds exactly the WAITING entries: of two of them the one of the higher priority, or of equal
priority and earlier first occurrence, never stands behind the other, and those equal in both stand as in the list.
R152: while an entry is in flight, the timer runs, the master enable is off, there is no destination or its port is DOWN,
or no entry is WAITING, a try sends nothing and changes nothing. R152, R153, R154: with none of these the entry first in
the send order is sent: it takes the next number, or keeps the one it has, and is in flight with 1 attempt and the lost
flag as its mark, the timer runs one retry interval, and *sent* counts; its frame of 20 payload bytes is offered to Q3 of
the destination's port. Q3 admits it at its tail, and a selection is tried if Q3 is open; or refuses it as *dropped full*
with its block returned and QUEUE_OVERFLOW judged, the entry in flight all the same (R71, R69). An empty pool leaves it
WAITING and starts the timer. -/
def Obligations.SendsTakeTheLeadingEntry : Prop :=
  (∀ l : List NoticeEntry,
    (sendOrder l).Perm (l.filter NoticeEntry.isWaiting)
      ∧ ((sendOrder l).Pairwise fun x y =>
          x.event.priority < y.event.priority
            ∨ x.event.priority = y.event.priority ∧ x.firstTime ≤ y.firstTime)
      ∧ ∀ k t : Nat, (sendOrder l).filter (fun x => x.event.priority == k && x.firstTime == t) =
          l.filter fun x => x.isWaiting && (x.event.priority == k && x.firstTime == t))
  ∧ (∀ s : State,
    ((∃ y ∈ s.notice.list, y.status ≠ .waiting) ∨ s.notice.retryTimer ≠ none ∨ s.notice.settings.master = false
      ∨ s.notice.destination = none ∨ (∃ d, s.notice.destination = some d ∧ (s.port d.port).link = .down)
      ∨ ∀ y ∈ s.notice.list, y.status ≠ .waiting) →
    s.trySend = s)
  ∧ ∀ (s sent : State) (d : Requester) (x : NoticeEntry) (before after waiting : List NoticeEntry) (number next : Half)
      (frame : Frame), s.Plain →
    (∀ y ∈ s.notice.list, y.status = .waiting) → s.notice.retryTimer = none → s.notice.settings.master = true →
    s.notice.destination = some d → (s.port d.port).link = .up → sendOrder s.notice.list = x :: waiting →
    s.notice.list = before ++ x :: after → (∀ y ∈ before, y.event ≠ x.event) →
    (x.number = none ∧ number = s.notice.nextNumber ∧ next = s.notice.nextNumber + 1
      ∨ x.number = some number ∧ next = s.notice.nextNumber) →
    sent =
      { s with
        pool := s.pool - 1
        notice :=
          { s.notice with
            list := before ++ { x with status := .inFlight 1 s.notice.lostFlag, number := some number } :: after
            nextNumber := next
            retryTimer := some (s.localTime + s.notice.settings.retryMs * 100000)
            counters := { s.notice.counters with sent := countUp s.notice.counters.sent } } } →
    frame =
      builtFrame d.station s.station .notice number
        (beBytes 2 number.toNat ++ [BitVec.ofNat 8 x.event.priority] ++ x.event.subject
          ++ beBytes 2 x.count ++ beBytes 8 x.firstTime ++ beBytes 4 x.firstIndex.toNat
          ++ [if s.notice.lostFlag then 1 else 0]) →
    (s.pool = 0 →
        s.trySend = { s with
          notice :=
            { s.notice with retryTimer := some (s.localTime + s.notice.settings.retryMs * 100000) } })
    ∧ (1 ≤ s.pool → s.OnlySending s.trySend)
    ∧ (1 ≤ s.pool → (s.queue d.port 3).blocks + 1 ≤ (s.queue d.port 3).limit →
        s.trySend =
          if (s.plans.activePlan d.port).opens (s.port d.port).gate.window 3 = true then
            (sent.modQueue d.port 3 fun Q => Q.enqueued frame s.timer.index .notice).trySelect d.port
          else sent.modQueue d.port 3 fun Q => Q.enqueued frame s.timer.index .notice)
    ∧ (1 ≤ s.pool → (s.port d.port).transmitter ≠ .idle →
        (s.queue d.port 3).blocks + 1 ≤ (s.queue d.port 3).limit →
        s.trySend = sent.modQueue d.port 3 fun Q => Q.enqueued frame s.timer.index .notice)
    ∧ (1 ≤ s.pool → (s.queue d.port 3).limit < (s.queue d.port 3).blocks + 1 →
        s.trySend =
          { sent with
            pool := s.pool
            notice := sent.notice.judge (.queueOverflow d.port 3) s.localTime s.timer.index }.countQueue d.port 3 fun c =>
              { c with droppedFull := countUp c.droppedFull })

/-- R155, R16: an ACK for the device from the destination's station with the number of the entry in flight removes the
entry, stops the timer, counts *acked* and clears the lost flag if the entry's mark is set, and a send is tried; any other
is stray. R16 returns the ACK's blocks to the pool in the same event; that they are back before the send is tried is the
model's reading (log entry 11). -/
def Obligations.AcksConfirm : Prop :=
  ∀ (s : State) (p : Port) (bytes : List Byte) (f : Frame), s.Accepting p bytes f → f.kind = .ack →
    f.dest = s.station →
    (∀ (before after : List NoticeEntry) (x : NoticeEntry) (attempts : Nat) (mark : Bool) (d : Requester) (number : Half)
      (rest : List Byte), s.notice.list = before ++ x :: after → x.status = .inFlight attempts mark →
      (∀ y ∈ before ++ after, y.status = .waiting) → s.notice.destination = some d → d.station = f.src →
      x.number = some number → f.payload = beBytes 2 number.toNat ++ rest →
      exec (.endOfFrame p bytes) s = .next
        ({ s.received p with
            pool := s.pool + f.blocks
            notice :=
              { s.notice with
                list := before ++ after
                retryTimer := none
                lostFlag := s.notice.lostFlag && !mark
                counters := { s.notice.counters with acked := countUp s.notice.counters.acked } } } : State).trySend)
    ∧ ((∀ x ∈ s.notice.list, x.status ≠ .waiting → f.payload.length < 2
          ∨ s.notice.destination.map Requester.station ≠ some f.src
          ∨ x.number ≠ some (BitVec.ofNat 16 (fieldAt f.payload 0 2))) →
        exec (.endOfFrame p bytes) s = .next
          { s.received p with
            pool := s.pool + f.blocks
            notice := { s.notice with counters := { s.notice.counters with stray := countUp s.notice.counters.stray } } })

/-- R156, R153, R157: at the expiry of the retry timer an entry in flight with more attempts than the limit is abandoned:
it leaves the list, *abandoned* counts, the lost flag is set and a send is tried. One with no more is sent again: its
attempts are one more, its mark is the lost flag, *sent* counts, the timer is started again, and a frame built anew under
its number is offered to Q3 of the destination's port, which admits it at its tail, with a selection tried if Q3 is open,
or refuses it as *dropped full* with its block returned and QUEUE_OVERFLOW judged (R71, R69). With the destination's port
DOWN no frame is built and the attempt counts all the same, and with the pool empty only the timer is started again. With
no entry in flight the expiry only stops the timer and tries a send; with the timer stopped there is no expiry. The event
falls at its time if no other of the device's times comes before it (log entry 5). -/
def Obligations.RetryTimerExpires : Prop :=
  ∀ (s : State), s.Plain →
    (∀ (due now : Ticks) (x : NoticeEntry) (attempts : Nat) (mark : Bool) (before after : List NoticeEntry),
      s.notice.retryTimer = some due → s.First due → now = max s.localTime due →
      s.notice.list = before ++ x :: after → (∀ y ∈ before ++ after, y.status = .waiting) →
      x.status = .inFlight attempts mark →
      (s.notice.settings.retryLimit < attempts →
        exec .retryTimerExpiry s = .next
          ({ s with
              localTime := now
              notice :=
                { s.notice with
                  list := before ++ after
                  lostFlag := true
                  retryTimer := none
                  counters := { s.notice.counters with abandoned := countUp s.notice.counters.abandoned } } }
            : State).trySend)
      ∧ (attempts ≤ s.notice.settings.retryLimit → ∀ d, s.notice.destination = some d → (s.port d.port).link = .down →
        exec .retryTimerExpiry s = .next
          { s with
            localTime := now
            notice :=
              { s.notice with
                list := before ++ { x with status := .inFlight (attempts + 1) mark } :: after
                retryTimer := some (now + s.notice.settings.retryMs * 100000) } })
      ∧ (attempts ≤ s.notice.settings.retryLimit → ∀ d, s.notice.destination = some d → (s.port d.port).link = .up →
          s.pool = 0 →
        exec .retryTimerExpiry s = .next
          { s with
            localTime := now
            notice := { s.notice with retryTimer := some (now + s.notice.settings.retryMs * 100000) } })
      ∧ (attempts ≤ s.notice.settings.retryLimit → ∀ (d : Requester) (n : Half) (again : State) (frame : Frame),
          s.notice.destination = some d → (s.port d.port).link = .up → 1 ≤ s.pool → x.number = some n →
          again =
            { s with
              localTime := now
              pool := s.pool - 1
              notice :=
                { s.notice with
                  list := before ++ { x with status := .inFlight (attempts + 1) s.notice.lostFlag } :: after
                  retryTimer := some (now + s.notice.settings.retryMs * 100000)
                  counters := { s.notice.counters with sent := countUp s.notice.counters.sent } } } →
          frame = builtFrame d.station s.station .notice n (noticePayload x n s.notice.lostFlag) →
          ((s.queue d.port 3).blocks + 1 ≤ (s.queue d.port 3).limit →
            exec .retryTimerExpiry s = .next
              (if (s.plans.activePlan d.port).opens (s.port d.port).gate.window 3 = true then
                (again.modQueue d.port 3 fun Q => Q.enqueued frame s.timer.index .notice).trySelect d.port
              else again.modQueue d.port 3 fun Q => Q.enqueued frame s.timer.index .notice))
          ∧ ((s.port d.port).transmitter ≠ .idle → (s.queue d.port 3).blocks + 1 ≤ (s.queue d.port 3).limit →
            exec .retryTimerExpiry s = .next
              (again.modQueue d.port 3 fun Q => Q.enqueued frame s.timer.index .notice))
          ∧ ((s.queue d.port 3).limit < (s.queue d.port 3).blocks + 1 →
            exec .retryTimerExpiry s = .next
              ({ again with
                  pool := s.pool
                  notice := again.notice.judge (.queueOverflow d.port 3) now s.timer.index }.countQueue d.port 3 fun c =>
                { c with droppedFull := countUp c.droppedFull }))))
    ∧ (∀ due, s.notice.retryTimer = some due → s.First due → (∀ y ∈ s.notice.list, y.status = .waiting) →
        exec .retryTimerExpiry s = .next
          ({ s with
              localTime := max s.localTime due
              notice := { s.notice with retryTimer := none } } : State).trySend)
    ∧ (s.notice.retryTimer = none → exec .retryTimerExpiry s = .next s)

/-- R158: at a change of destination the entry in flight returns to WAITING in its place and under its number, and the
timer stops. It is merged with its WAITING twin if there is one (counts added, the earlier first occurrence kept, the twin
removed); where the two times are equal the cycle index kept is one of the two (log entry 1). With no entry in flight only
the timer stops. R149, R152: the destination is the session holder, or the standing one with no session; where that is the
value in force nothing changes, and otherwise the change is followed by a try of a send. -/
def Obligations.DestinationChangesMerge : Prop :=
  (∀ (s : State) (dest : Option Requester) (x twin : NoticeEntry) (attempts : Nat) (mark : Bool)
    (a b c : List NoticeEntry), s.notice.list = a ++ x :: b ++ twin :: c → x.status = .inFlight attempts mark →
    (∀ y ∈ a ++ b ++ c, y.status = .waiting ∧ y.event ≠ x.event) → twin.status = .waiting → twin.event = x.event →
    ∃ index, (index = x.firstIndex ∨ index = twin.firstIndex)
      ∧ (x.firstTime < twin.firstTime → index = x.firstIndex)
      ∧ (twin.firstTime < x.firstTime → index = twin.firstIndex)
      ∧ (s.changeDestination dest).notice =
          { s.notice with
            destination := dest
            retryTimer := none
            list :=
              a ++ { x with
                status := .waiting
                count := min (x.count + twin.count) 65535
                firstTime := min x.firstTime twin.firstTime
                firstIndex := index } :: b ++ c })
  ∧ (∀ (s : State) (dest : Option Requester) (x : NoticeEntry) (attempts : Nat) (mark : Bool)
    (before after : List NoticeEntry), s.notice.list = before ++ x :: after → x.status = .inFlight attempts mark →
    (∀ y ∈ before ++ after, y.status = .waiting ∧ y.event ≠ x.event) →
    s.changeDestination dest =
      { s with
        notice :=
          { s.notice with
            destination := dest
            retryTimer := none
            list := before ++ { x with status := .waiting } :: after } })
  ∧ (∀ (s : State) (dest : Option Requester), (∀ y ∈ s.notice.list, y.status = .waiting) →
    s.changeDestination dest = { s with notice := { s.notice with destination := dest, retryTimer := none } })
  ∧ ∀ (s : State) (wanted : Option Requester),
    (wanted = match s.session with
      | some x => some x.holder
      | none => s.notice.settings.standing) →
    s.updateDestination = if s.notice.destination = wanted then s else (s.changeDestination wanted).trySend

/-! ## Requests -/

/-- R120, R138, R66: a take removes the head, returns its blocks, counts and renews the lease of a holder: that is the
device at step 6. R121, R122, R123, R129: before step 6 a broadcast of anything but IDENTIFY is answered
BROADCAST_REFUSED, a repeat is answered with the stored payload while *repeats* counts and nothing is stored, an unknown
code is answered UNKNOWN_REQUEST, a length that does not agree BAD_LENGTH, and a request that needs a session its
requester does not hold NO_SESSION, or HELD with the holder; none of these four refusals renews a lease. R172, R123 and the
tables of sections 11.2 and 7.8: the 26 operation codes, the operand length of each request, and which need a session. -/
def Obligations.RefusalsAndRepeats : Prop :=
  (Op.ofCode 0x01 = some .identify ∧ Op.ofCode 0x02 = some .unitReset
    ∧ Op.ofCode 0x03 = some .sessionOpen ∧ Op.ofCode 0x04 = some .sessionKeep
    ∧ Op.ofCode 0x05 = some .sessionClose ∧ Op.ofCode 0x10 = some .streamWrite
    ∧ Op.ofCode 0x11 = some .streamClear ∧ Op.ofCode 0x12 = some .streamState
    ∧ Op.ofCode 0x13 = some .streamRead ∧ Op.ofCode 0x14 = some .streamFind
    ∧ Op.ofCode 0x15 = some .streamPurge ∧ Op.ofCode 0x16 = some .unlistedSet
    ∧ Op.ofCode 0x17 = some .streamReset ∧ Op.ofCode 0x20 = some .queueSet
    ∧ Op.ofCode 0x21 = some .queueRead ∧ Op.ofCode 0x28 = some .beatSet
    ∧ Op.ofCode 0x29 = some .timeRead ∧ Op.ofCode 0x30 = some .planHeader
    ∧ Op.ofCode 0x31 = some .planWindows ∧ Op.ofCode 0x32 = some .planRead
    ∧ Op.ofCode 0x33 = some .planRevert ∧ Op.ofCode 0x34 = some .planCommit
    ∧ Op.ofCode 0x35 = some .planCancel ∧ Op.ofCode 0x38 = some .noticeSet
    ∧ Op.ofCode 0x39 = some .noticeRead ∧ Op.ofCode 0x40 = some .counterRead
    ∧ ∀ b : Byte, b ∉ ([0x01, 0x02, 0x03, 0x04, 0x05, 0x10, 0x11, 0x12, 0x13, 0x14, 0x15, 0x16, 0x17, 0x20, 0x21,
          0x28, 0x29, 0x30, 0x31, 0x32, 0x33, 0x34, 0x35, 0x38, 0x39, 0x40] : List Byte) → Op.ofCode b = none)
  ∧ (∀ (o : Op) (ops : List Byte),
    (o.lengthAgrees ops = true ↔
      match o with
      | .identify | .unitReset | .sessionKeep | .sessionClose | .timeRead | .planRevert | .planCommit | .planCancel
      | .noticeRead => ops = []
      | .streamClear | .streamRead => ops.length = 1
      | .sessionOpen | .streamState | .streamPurge | .streamReset | .queueRead | .planRead => ops.length = 2
      | .unlistedSet => ops.length = 3
      | .counterRead => ops.length = 4
      | .streamFind | .beatSet => ops.length = 5
      | .queueSet | .planHeader => ops.length = 6
      | .noticeSet => ops.length = 9
      | .streamWrite =>
        10 ≤ ops.length ∧ ops.length = 10 + (if (byteAt ops 9).getLsbD 0 then 1 else 0)
          + (if (byteAt ops 9).getLsbD 1 then 9 else 0) + (if (byteAt ops 9).getLsbD 2 then 5 else 0)
          + (if (byteAt ops 9).getLsbD 3 then 1 else 0)
      | .planWindows => 3 ≤ ops.length ∧ ops.length = 3 + 5 * (byteAt ops 2).toNat)
    ∧ (o.needsSession ops = true ↔
      match o with
      | .identify | .sessionOpen | .streamRead | .streamFind | .queueRead | .timeRead | .planRead | .noticeRead => False
      | .counterRead => byteAt ops 3 ≠ 0
      | .unitReset | .sessionKeep | .sessionClose | .streamWrite | .streamClear | .streamState | .streamPurge
      | .unlistedSet | .streamReset | .queueSet | .beatSet | .planHeader | .planWindows | .planRevert | .planCommit
      | .planCancel | .noticeSet => True))
  ∧ ∀ (s : State) (r : Request) (rest : List Request), s.resetHeld = false → s.engine.state = .idle →
    s.engine.queue = r :: rest →
    s.atStep6 r rest =
        { s with
          pool := s.pool + (18 + r.operands.length + 255) / 256
          engine :=
            { s.engine with
              queue := rest
              state := .executing
              counters := { s.engine.counters with requestsTaken := countUp s.engine.counters.requestsTaken } }
          session := s.session.map fun x =>
            if x.holder = r.requester then { x with expiry := s.localTime + x.leaseMs * 100000 } else x }
    ∧ (r.isBroadcast = true → Op.ofCode r.op ≠ some .identify →
        ∃ t, exec (takeInstr (Op.ofCode r.op)) s = .next t ∧ (s.takeHead r rest).Answered r .broadcastRefused [] t)
    ∧ (r.isBroadcast = false ∨ Op.ofCode r.op = some .identify →
        (∀ (before after : List MemoryEntry) (m : MemoryEntry), s.engine.memory = before ++ m :: after →
            (∀ x ∈ before, ¬ (x.requester = r.requester ∧ x.number = r.number ∧ x.op = r.op)) →
            m.requester = r.requester → m.number = r.number → m.op = r.op →
            ∃ t, exec (takeInstr (Op.ofCode r.op)) s = .next t
              ∧ ((s.atStep6 r rest).countManagement fun c => { c with repeats := countUp c.repeats }).Replied r
                  m.payload t)
        ∧ ((∀ x ∈ s.engine.memory, ¬ (x.requester = r.requester ∧ x.number = r.number ∧ x.op = r.op)) →
            (Op.ofCode r.op = none →
              ∃ t, exec .unknownRequest s = .next t ∧ (s.takeHead r rest).Answered r .unknownRequest [] t)
            ∧ ∀ o, Op.ofCode r.op = some o →
                (o.lengthAgrees r.operands = false →
                  ∃ t, exec (takeInstr (some o)) s = .next t ∧ (s.takeHead r rest).Answered r .badLength [] t)
                ∧ (o.lengthAgrees r.operands = true → o.needsSession r.operands = true → s.session = none →
                  ∃ t, exec (takeInstr (some o)) s = .next t ∧ (s.takeHead r rest).Answered r .noSession [] t)
                ∧ (o.lengthAgrees r.operands = true → o.needsSession r.operands = true →
                  ∀ x, s.session = some x → x.holder ≠ r.requester →
                  ∃ t, exec (takeInstr (some o)) s = .next t
                    ∧ (s.takeHead r rest).Answered r .held
                        (beBytes 2 x.holder.station.toNat ++ [portByte x.holder.port]) t)))

/-- R131, R94, R78, R103, R161, R173: IDENTIFY, TIME_READ, QUEUE_READ, PLAN_READ and NOTICE_READ are answered OK with the
values that stand at the take and change nothing; QUEUE_READ of a port or queue, and PLAN_READ of a port or bank, that
there is not is answered BAD_VALUE. -/
def Obligations.ReadsReportTheDevice : Prop :=
  ∀ (s : State) (r : Request) (rest : List Request),
    (s.Taking .identify r rest → ∃ t, exec .identify s = .next t
      ∧ (s.atStep6 r rest).Answered r .ok
          ([0x5A, 0x31, 0x22, 0x04, 0x01] ++ beBytes 2 s.station.toNat ++ [0x01, 0x00, 0x02, 0x00, 32, 4, 4, 16]
            ++ (match s.session with
              | some x => beBytes 2 x.holder.station.toNat ++ [portByte x.holder.port]
              | none => [0x00, 0x00, 0xFF])
            ++ beBytes 8 s.localTime) t)
    ∧ (s.Taking .timeRead r rest → ∃ t, exec .timeRead s = .next t
      ∧ (s.atStep6 r rest).Answered r .ok
          (beBytes 8 s.localTime ++ beBytes 4 s.timer.index.toNat ++ beBytes 4 (s.localTime - s.timer.start)
            ++ beBytes 4 s.timer.length
            ++ [s.beat.state.code,
                match s.beat.source with
                | some p => portByte p
                | none => 0xFF]
            ++ beBytes 4 s.beat.tolerance
            ++ (match s.beat.lastError with
              | some v => 0x01 :: beBytes 4 (BitVec.ofInt 32 v).toNat
              | none => [0x00, 0x00, 0x00, 0x00, 0x00])
            ++ [BitVec.ofNat 8 s.beat.faultCount, BitVec.ofNat 8 s.beat.missCount]) t)
    ∧ (s.Taking .queueRead r rest →
      (∀ (p : Port) (q : QueueNo), byteAt r.operands 0 = portByte p → (byteAt r.operands 1).toNat = q.val →
        ∃ t, exec .queueRead s = .next t
          ∧ (s.atStep6 r rest).Answered r .ok
              (beBytes 2 (s.queue p q).limit ++ beBytes 2 (s.queue p q).ageLimit
                ++ beBytes 2 (s.queue p q).frames.length ++ beBytes 2 (s.queue p q).blocks
                ++ (match (s.queue p q).frames with
                  | f :: _ => 0x01 :: beBytes 4 f.enqueueIndex.toNat
                  | [] => [0x00, 0x00, 0x00, 0x00, 0x00])
                ++ beBytes 2 (s.pool + r.blocks)) t)
      ∧ (1 < (byteAt r.operands 0).toNat ∨ 3 < (byteAt r.operands 1).toNat →
        ∃ t, exec .queueRead s = .next t ∧ (s.atStep6 r rest).Answered r .badValue [] t))
    ∧ (s.Taking .planRead r rest →
      (∀ (p : Port) (k : Bank), byteAt r.operands 0 = portByte p →
        (byteAt r.operands 1 = 0x00 ∧ k = s.plans.active ∨ byteAt r.operands 1 = 0x01 ∧ k = s.plans.active.other) →
        ∃ t, exec .planRead s = .next t
          ∧ (s.atStep6 r rest).Answered r .ok
              ([k.code] ++ beBytes 4 (s.plans.plan p k).cycleLength
                ++ [BitVec.ofNat 8 (s.plans.plan p k).windowCount]
                ++ (s.plans.plan p k).slots.toList.flatMap (fun w => match w with
                  | some w => beBytes 4 w.duration ++ [w.openSet.setWidth 8]
                  | none => [0x00, 0x00, 0x00, 0x00, 0x00])
                ++ [if s.plans.commitPending then 0x01 else 0x00]
                ++ (match s.plans.lastSwap with
                  | some i => 0x01 :: beBytes 4 i.toNat
                  | none => [0x00, 0x00, 0x00, 0x00, 0x00])) t)
      ∧ (1 < (byteAt r.operands 0).toNat ∨ 1 < (byteAt r.operands 1).toNat →
        ∃ t, exec .planRead s = .next t ∧ (s.atStep6 r rest).Answered r .badValue [] t))
    ∧ (s.Taking .noticeRead r rest → ∃ t, exec .noticeRead s = .next t
      ∧ (s.atStep6 r rest).Answered r .ok
          ([if s.notice.settings.master then 0x01 else 0x00] ++ beBytes 2 s.notice.settings.kinds.toNat
            ++ stationBytes s.notice.settings.standing ++ beBytes 2 s.notice.settings.retryMs
            ++ [BitVec.ofNat 8 s.notice.settings.retryLimit] ++ stationBytes s.notice.destination
            ++ [if s.notice.lostFlag then 0x01 else 0x00] ++ beBytes 2 s.notice.nextNumber.toNat
            ++ optionBytes 8 s.notice.retryTimer ++ [BitVec.ofNat 8 s.notice.list.length]
            ++ (s.notice.list.filter NoticeEntry.isInFlight ++ sendOrder s.notice.list).flatMap fun x =>
              [BitVec.ofNat 8 x.event.priority] ++ x.event.subject ++ beBytes 8 x.firstTime
                ++ beBytes 4 x.firstIndex.toNat ++ beBytes 2 x.count
                ++ (match x.status with
                  | .waiting => [0x00, 0x00]
                  | .inFlight n _ => [0x01, BitVec.ofNat 8 n])
                ++ optionBytes 2 (x.number.map BitVec.toNat)) t)

/-- R33, R34, R173: STREAM_READ is answered with the state FREE alone, or with the state, the record, the dynamic state of
each check that is present and the nine counters; STREAM_FIND with the index and state of the entry that has the key, or
NOT_FOUND and the unlisted policy of its port, or BAD_VALUE. Both change nothing. R21, R27, R173: the bytes of a record in
range are read as that record, so the record that STREAM_READ returns can be written again. R33: of a sound entry whose
set is in its order (as every step keeps it) the set is returned H first, and then by ascending distance below H. -/
def Obligations.StreamReadsReport : Prop :=
  (∀ x : StreamRecord, x.InRange → recordOf x.bytes = some x)
  ∧ (∀ (e : StreamEntry) (w : Nat) (st : SequenceState), e.Sound → e.record.sequence = some w → e.sequence = some st →
    (st.highest = none → st.accepted = [])
    ∧ ∀ h, st.highest = some h → st.InOrder →
        ∃ below, st.accepted = h :: below ∧ below.length < w
          ∧ ∀ (before : List Half) (m : Half) (after : List Half), below = before ++ m :: after →
              0 < (h.toNat + 65536 - m.toNat) % 65536 ∧ (h.toNat + 65536 - m.toNat) % 65536 < w
                ∧ ∀ n ∈ after, (h.toNat + 65536 - m.toNat) % 65536 < (h.toNat + 65536 - n.toNat) % 65536)
  ∧ ∀ (s : State) (r : Request) (rest : List Request),
    (s.Taking .streamRead r rest →
      (s.entry (byteAt r.operands 0).toFin = none →
        ∃ t, exec .streamRead s = .next t ∧ (s.atStep6 r rest).Answered r .ok [0x00] t)
      ∧ (∀ e, s.entry (byteAt r.operands 0).toFin = some e →
        ∃ t, exec .streamRead s = .next t
          ∧ (s.atStep6 r rest).Answered r .ok
              ([match e.state with
                | .enabled => 0x01
                | .blocked => 0x02
                | .tripped => 0x03]
              ++ e.record.bytes
              ++ (match e.sequence with
                | some st =>
                  (match st.highest with
                    | some h => 0x01 :: beBytes 2 h.toNat
                    | none => [0x00, 0x00, 0x00])
                    ++ [BitVec.ofNat 8 st.accepted.length] ++ st.accepted.flatMap fun m => beBytes 2 m.toNat
                | none => [])
              ++ (match e.cadence with
                | some st => optionBytes 8 st.lastArrival
                | none => [])
              ++ (match e.meter with
                | some st => beBytes 2 st.tokens ++ beBytes 8 st.lastUpdate
                | none => [])
              ++ (match e.score with
                | some sc => [BitVec.ofNat 8 sc]
                | none => [])
              ++ beBytes 4 e.counters.passed ++ beBytes 4 e.counters.demoted ++ beBytes 4 e.counters.discardedBlocked
              ++ beBytes 4 e.counters.discardedTripped ++ beBytes 4 e.counters.discardedDuplicate
              ++ beBytes 4 e.counters.discardedLate ++ beBytes 4 e.counters.discardedEarly
              ++ beBytes 4 e.counters.discardedMeter ++ beBytes 4 e.counters.gap) t))
    ∧ (s.Taking .streamFind r rest →
      (1 < (byteAt r.operands 0).toNat ∨ fieldAt r.operands 1 2 = 0 ∨ fieldAt r.operands 1 2 = 0xFFFF
          ∨ 4095 < fieldAt r.operands 3 2 →
        ∃ t, exec .streamFind s = .next t ∧ (s.atStep6 r rest).Answered r .badValue [] t)
      ∧ ∀ (k : StreamKey), byteAt r.operands 0 = portByte k.port → fieldAt r.operands 1 2 = k.source.toNat →
          fieldAt r.operands 3 2 = k.tag.toNat → 1 ≤ k.source.toNat → k.source.toNat ≤ 0xFFFE → k.tag.toNat ≤ 4095 →
        (∀ (i : StreamIndex) (e : StreamEntry), s.KeysUnique → s.entry i = some e → e.record.key = k →
          ∃ t, exec .streamFind s = .next t
            ∧ (s.atStep6 r rest).Answered r .ok
                [BitVec.ofNat 8 i.val,
                  match e.state with
                  | .enabled => 0x01
                  | .blocked => 0x02
                  | .tripped => 0x03] t)
        ∧ ((∀ (i : StreamIndex) (e : StreamEntry), s.entry i = some e → e.record.key ≠ k) →
          ∃ t, exec .streamFind s = .next t
            ∧ (s.atStep6 r rest).Answered r .notFound
                (match (s.port k.port).unlisted with
                  | .forward q => [0x00, BitVec.ofNat 8 q.val]
                  | .discard => [0x01, 0x00]) t))

/-- R137, R139, R140, R138, R143, R108, R149: SESSION_OPEN refuses a lease outside 10 to 60,000 ms with BAD_VALUE and
another's session with HELD, renews the holder's session under the new lease, and opens one for its requester, who
becomes the notice destination. SESSION_KEEP answers the lease and the renewed expiry. SESSION_CLOSE ends the session,
makes the staged banks copies of the active ones unless a commit is pending, which its result tells, and gives the
notices back to the standing destination. R158, R152: a change of destination by an opening or a close returns the entry
in flight to WAITING, stops the retry timer, and then a send is tried. That this comes before the reply is built is the
model's reading of R124 (log entry 24). -/
def Obligations.SessionRequestsAreAnswered : Prop :=
  ∀ (s : State) (r : Request) (rest : List Request) (ms : Nat), fieldAt r.operands 0 2 = ms →
    (s.Taking .sessionOpen r rest →
      (ms < 10 ∨ 60000 < ms →
        ∃ t, exec .sessionOpen s = .next t ∧ (s.atStep6 r rest).Answered r .badValue [] t)
      ∧ (10 ≤ ms → ms ≤ 60000 → ∀ x, s.session = some x → x.holder ≠ r.requester →
        ∃ t, exec .sessionOpen s = .next t
          ∧ (s.atStep6 r rest).Answered r .held (beBytes 2 x.holder.station.toNat ++ [portByte x.holder.port]) t)
      ∧ (10 ≤ ms → ms ≤ 60000 → ∀ x, s.session = some x → x.holder = r.requester →
        ∃ t, exec .sessionOpen s = .next t
          ∧ { s.atStep6 r rest with session := some ⟨r.requester, ms, s.localTime + ms * 100000⟩ }.Answered r .ok
              ([0x01] ++ beBytes 2 ms ++ beBytes 8 (s.localTime + ms * 100000)) t)
      ∧ (10 ≤ ms → ms ≤ 60000 → s.session = none →
        ∃ t v, exec .sessionOpen s = .next t
          ∧ (∀ u : State, u = { s.atStep6 r rest with
                session := some ⟨r.requester, ms, s.localTime + ms * 100000⟩ } →
              v = if s.notice.destination = some r.requester then u
                else (u.changeDestination (some r.requester)).trySend)
          ∧ ({ s.atStep6 r rest with
                session := some ⟨r.requester, ms, s.localTime + ms * 100000⟩
                notice := { s.notice with destination := some r.requester } } : State).OnlySending v
          ∧ v.Answered r .ok ([0x00] ++ beBytes 2 ms ++ beBytes 8 (s.localTime + ms * 100000)) t))
    ∧ (s.Taking .sessionKeep r rest → ∀ x, s.session = some x →
        ∃ t, exec .sessionKeep s = .next t
          ∧ (s.atStep6 r rest).Answered r .ok
              (beBytes 2 x.leaseMs ++ beBytes 8 (s.localTime + x.leaseMs * 100000)) t)
    ∧ (s.Taking .sessionClose r rest →
        ∃ t v, exec .sessionClose s = .next t
          ∧ (∀ u : State, u = { s.atStep6 r rest with
                session := none
                plans := if s.plans.commitPending then s.plans else s.plans.revert } →
              v = if s.notice.destination = s.notice.settings.standing then u
                else (u.changeDestination s.notice.settings.standing).trySend)
          ∧ ({ s.atStep6 r rest with
                session := none
                plans := if s.plans.commitPending then s.plans else s.plans.revert
                notice := { s.notice with destination := s.notice.settings.standing } } : State).OnlySending v
          ∧ v.Answered r .ok [if s.plans.commitPending then 0x01 else 0x00] t)

/-- R132, R126, R72: UNIT_RESET stores its OK reply and enters RESETTING, in which no take happens (R120; a command for a
take changes nothing then, log entry 3). When no frame can be built, or Q3 refuses the reply as *dropped full*, the unit
reset is performed in the event of the take; when Q3 holds the reply, it waits: behind a frame in transmission, in a closed
Q3, behind another head of Q3, or because it does not fit the window. It is performed when the reply leaves Q3:
at its selection, in the event of the take or here after a transmission completes, at its ageing by a cycle start, or at
its flush by a link-down. That it comes after everything else that its event does is the model's reading of R132 and R170
(log entry 14). An event of the device's times falls at its time if none comes before it (log entry 5). -/
def Obligations.UnitResetAwaitsItsReply : Prop :=
  (∀ (s : State) (r : Request) (rest : List Request) (payload : List Byte), s.Taking .unitReset r rest →
    payload = [r.number, r.op, 0x00] →
    ((s.atStep6 r rest).canReply r payload = false → exec .unitReset s = .next (s.atStep6 r rest).unitReset)
    ∧ ((s.atStep6 r rest).canReply r payload = true → (s.port r.requester.port).transmitter ≠ .idle →
      (s.queue r.requester.port 3).blocks + 1 ≤ (s.queue r.requester.port 3).limit →
      exec .unitReset s = .next
        ({ (s.atStep6 r rest).storeReply r payload with
            pool := (s.atStep6 r rest).pool - 1
            engine :=
              { ((s.atStep6 r rest).storeReply r payload).engine with
                state := .resetting
                counters := (s.atStep6 r rest).engine.counters.replied true } }.modQueue r.requester.port 3 fun Q =>
          Q.enqueued (s.replyFrame r payload) s.timer.index (.reply true)))
    ∧ ((s.atStep6 r rest).canReply r payload = true →
      (s.queue r.requester.port 3).limit < (s.queue r.requester.port 3).blocks + 1 →
      exec .unitReset s = .next ((s.atStep6 r rest).raise (.queueOverflow r.requester.port 3)).unitReset)
    ∧ ((s.atStep6 r rest).canReply r payload = true → (s.port r.requester.port).transmitter = .idle →
      (s.queue r.requester.port 3).frames = [] → 1 ≤ (s.queue r.requester.port 3).limit →
      (s.plans.activePlan r.requester.port).opens (s.port r.requester.port).gate.window 3 = true →
      (s.replyFrame r payload).occupancy ≤ (s.port r.requester.port).gate.windowEnd - s.localTime →
      exec .unitReset s = .next
        (State.unitReset { (s.atStep6 r rest).setTransmitter r.requester.port
            (.sending 3 (s.replyFrame r payload) (s.localTime + (s.replyFrame r payload).occupancy)) with
          pool := (s.atStep6 r rest).pool - 1 }))
    ∧ ∀ u : State,
      u = { (s.atStep6 r rest).storeReply r payload with
            pool := (s.atStep6 r rest).pool - 1
            engine :=
              { ((s.atStep6 r rest).storeReply r payload).engine with
                state := .resetting
                counters := (s.atStep6 r rest).engine.counters.replied true } }.modQueue r.requester.port 3 (fun Q =>
          Q.enqueued (s.replyFrame r payload) s.timer.index (.reply true)) →
      (s.atStep6 r rest).canReply r payload = true →
      (s.queue r.requester.port 3).blocks + 1 ≤ (s.queue r.requester.port 3).limit →
      ((s.plans.activePlan r.requester.port).opens (s.port r.requester.port).gate.window 3 = false →
        exec .unitReset s = .next u)
      ∧ ((s.plans.activePlan r.requester.port).opens (s.port r.requester.port).gate.window 3 = true →
        exec .unitReset s = .next (u.trySelect r.requester.port).settle)
      ∧ ((s.plans.activePlan r.requester.port).opens (s.port r.requester.port).gate.window 3 = true →
        (∀ (k : QueueNo), ∀ g ∈ (s.queue r.requester.port k).frames, g.origin ≠ .reply true) →
        ((s.queue r.requester.port 3).frames ≠ []
          ∨ (s.port r.requester.port).gate.windowEnd - s.localTime < (s.replyFrame r payload).occupancy) →
        exec .unitReset s = .next (u.trySelect r.requester.port)
          ∧ (u.trySelect r.requester.port).engine.state = .resetting))
  ∧ (∀ (s : State) (o : Option Op), s.engine.state = .resetting → exec (takeInstr o) s = .next s)
  ∧ (∀ (s : State) (p : Port), s.resetHeld = false → s.engine.state = .resetting → (s.port p).link = .up →
    (∃ g ∈ (s.queue p 3).frames, g.origin = .reply true) →
    exec (.linkDown p) s = .next
      (State.unitReset { s.modPort p fun P =>
          { P with
            link := .down
            linkPinHigh := true
            receiver := .idle
            transmitter := .idle
            queues := P.queues.map fun Q => { Q with frames := [] } } with
        pool := s.pool + (s.port p).heldBlocks }))
  ∧ (∀ (s : State) (p : Port) (old behind : List QueuedFrame) (g : QueuedFrame) (now : Ticks), s.resetHeld = false →
    s.engine.state = .resetting → s.First s.timer.scheduledEnd → now = max s.localTime s.timer.scheduledEnd →
    (s.queue p 3).frames = old ++ g :: behind → g.origin = .reply true → 1 ≤ (s.queue p 3).ageLimit →
    (∀ f ∈ old ++ [g], (s.queue p 3).ageLimit ≤
      (s.timer.index.toNat + 1 + 4294967296 - f.enqueueIndex.toNat) % 4294967296) →
    ∃ t, exec .scheduledCycleStart s = .next t
      ∧ t.timer = ⟨s.timer.index + 2, now, now + 1000000, 1000000, false⟩ ∧ t.engine = Engine.default
      ∧ t.session = none ∧ t.notice = NoticeUnit.default ∧ t.plans = PlanBanks.default ∧ t.beat = BeatFollowing.default
      ∧ (∀ i, t.entry i = none) ∧ ∀ k q, t.queue k q = Queue.fresh q)
  ∧ ∀ (s : State) (p : Port) (q : QueueNo) (f : Frame) (c now : Ticks) (g : QueuedFrame) (behind : List QueuedFrame),
    s.resetHeld = false → s.engine.state = .resetting → (s.port p).transmitter = .sending q f c → s.First c →
    now = max s.localTime c → (s.port p).link = .up → (s.queue p 3).frames = g :: behind → g.origin = .reply true →
    (s.plans.activePlan p).opens (s.port p).gate.window 3 = true →
    g.frame.occupancy ≤ (s.port p).gate.windowEnd - now →
    exec (.transmissionCompletion p) s = .next
      (State.unitReset { s.modPort p fun P =>
          { P with
            transmitter := .sending 3 g.frame (now + g.frame.occupancy)
            queues := P.queues.set 3 { P.queues[3] with frames := behind } } with
        localTime := now
        pool := s.pool + f.blocks })

/-- R27, R28, R29, R30: STREAM_WRITE refuses a record out of range with BAD_VALUE and a key that another index has with
DUPLICATE_KEY. Otherwise it replaces the entry whole. Without keep-state (the flag clear, the entry FREE, or another
key) the dynamic state is fresh and the counters 0. With it the counters are kept and each check that both records have
keeps its state within the new bounds: the set within the new window, the tokens at most the new B, the score at most L
- 1, or 0 from TRIPPED; a check that only the new record has is fresh. The reply names the carried checks; that the trip
check of a TRIPPED entry is not among them is the model's reading (log entry 13). R21, R172: which record bytes are
refused, and where each field of a record is read from. -/
def Obligations.StreamWritesReplaceTheEntry : Prop :=
  (∀ (bs : List Byte) (c m l : Nat),
    c = 8 + (if (byteAt bs 7).getLsbD 0 then 1 else 0) → m = c + (if (byteAt bs 7).getLsbD 1 then 9 else 0) →
    l = m + (if (byteAt bs 7).getLsbD 2 then 5 else 0) →
    (recordOf bs = none ↔
      byteAt bs 0 ≠ 0x01 ∧ byteAt bs 0 ≠ 0x02
        ∨ 1 < (byteAt bs 1).toNat
        ∨ fieldAt bs 2 2 = 0 ∨ fieldAt bs 2 2 = 0xFFFF ∨ 4095 < fieldAt bs 4 2
        ∨ 2 < (byteAt bs 6).toNat
        ∨ 15 < (byteAt bs 7).toNat
        ∨ (byteAt bs 7).getLsbD 0 = true ∧ (byteAt bs 8 = 0 ∨ 32 < (byteAt bs 8).toNat)
        ∨ (byteAt bs 7).getLsbD 1 = true ∧ (fieldAt bs c 4 < 1000 ∨ 10000000 < fieldAt bs c 4
          ∨ fieldAt bs c 4 / 2 < fieldAt bs (c + 4) 4 ∨ 1 < (byteAt bs (c + 8)).toNat)
        ∨ (byteAt bs 7).getLsbD 2 = true ∧ (byteAt bs m = 0 ∨ 128 < (byteAt bs m).toNat ∨ fieldAt bs (m + 1) 2 < 16
          ∨ 1 < (byteAt bs (m + 3)).toNat ∨ byteAt bs (m + 3) = 1 ∧ 2 < (byteAt bs (m + 4)).toNat)
        ∨ (byteAt bs 7).getLsbD 3 = true ∧ byteAt bs l = 0)
    ∧ ∀ x : StreamRecord, recordOf bs = some x →
      x.InRange
      ∧ byteAt bs 0 = (if x.state = .enabled then 0x01 else 0x02) ∧ byteAt bs 1 = portByte x.key.port
      ∧ fieldAt bs 2 2 = x.key.source.toNat ∧ fieldAt bs 4 2 = x.key.tag.toNat ∧ (byteAt bs 6).toNat = x.queue.val
      ∧ (byteAt bs 7).getLsbD 0 = x.sequence.isSome ∧ (byteAt bs 7).getLsbD 1 = x.cadence.isSome
      ∧ (byteAt bs 7).getLsbD 2 = x.meter.isSome ∧ (byteAt bs 7).getLsbD 3 = x.trip.isSome
      ∧ (∀ w, x.sequence = some w → w = (byteAt bs 8).toNat)
      ∧ (∀ y, x.cadence = some y → y.interval = fieldAt bs c 4 ∧ y.tolerance = fieldAt bs (c + 4) 4
          ∧ byteAt bs (c + 8) = if y.early = .count then 0x00 else 0x01)
      ∧ (∀ y, x.meter = some y → y.fill = (byteAt bs m).toNat ∧ y.depth = fieldAt bs (m + 1) 2
          ∧ match y.action with
            | .discard => byteAt bs (m + 3) = 0x00
            | .demote q => byteAt bs (m + 3) = 0x01 ∧ (byteAt bs (m + 4)).toNat = q.val)
      ∧ ∀ y, x.trip = some y → y = (byteAt bs l).toNat)
  ∧ ∀ (s : State) (r : Request) (rest : List Request) (i : StreamIndex), s.Taking .streamWrite r rest →
    i = (byteAt r.operands 0).toFin →
    (recordOf (r.operands.drop 2) = none →
      ∃ t, exec .streamWrite s = .next t ∧ (s.atStep6 r rest).Answered r .badValue [] t)
    ∧ ∀ x, recordOf (r.operands.drop 2) = some x →
      ((∃ j e, j ≠ i ∧ s.entry j = some e ∧ e.record.key = x.key) →
        ∃ t, exec .streamWrite s = .next t ∧ (s.atStep6 r rest).Answered r .duplicateKey [] t)
      ∧ ((∀ j e, j ≠ i → s.entry j = some e → e.record.key ≠ x.key) →
        (byteAt r.operands 1 = 0 ∨ s.entry i = none ∨ (∃ old, s.entry i = some old ∧ old.record.key ≠ x.key) →
          ∃ t, exec .streamWrite s = .next t
            ∧ ((s.atStep6 r rest).setEntry i (some
                { state := if x.state = .enabled then .enabled else .blocked
                  record := x
                  sequence := x.sequence.map fun _ => ⟨none, []⟩
                  cadence := x.cadence.map fun _ => ⟨none⟩
                  meter := x.meter.map fun m => ⟨m.depth, s.localTime⟩
                  score := x.trip.map fun _ => 0
                  counters := ⟨0, 0, 0, 0, 0, 0, 0, 0, 0⟩ })).Answered r .ok [byteAt r.operands 0, 0x00, 0x00] t)
        ∧ (byteAt r.operands 1 ≠ 0 → ∀ old, s.entry i = some old → old.record.key = x.key →
          ∃ t e, exec .streamWrite s = .next t
            ∧ ((s.atStep6 r rest).setEntry i (some e)).Answered r .ok
                [byteAt r.operands 0, 0x01,
                  BitVec.ofNat 8 ((if old.sequence.isSome ∧ x.sequence.isSome then 1 else 0)
                    + (if old.cadence.isSome ∧ x.cadence.isSome then 2 else 0)
                    + (if old.meter.isSome ∧ x.meter.isSome then 4 else 0)
                    + (if old.score.isSome ∧ x.trip.isSome ∧ old.state ≠ .tripped then 8 else 0))] t
            ∧ e.record = x ∧ e.counters = old.counters
            ∧ e.state = (if x.state = .enabled then .enabled else .blocked)
            ∧ (∀ w st, x.sequence = some w → old.sequence = some st →
                ∃ l, e.sequence = some ⟨st.highest, l⟩ ∧ l.Sublist st.accepted
                  ∧ ∀ m, m ∈ l ↔ m ∈ st.accepted
                      ∧ ∀ h, st.highest = some h → (h.toNat + 65536 - m.toNat) % 65536 < w)
            ∧ (∀ w, x.sequence = some w → old.sequence = none → e.sequence = some ⟨none, []⟩)
            ∧ (x.sequence = none → e.sequence = none)
            ∧ e.cadence = (x.cadence.map fun _ => old.cadence.getD ⟨none⟩)
            ∧ (∀ m st, x.meter = some m → old.meter = some st → e.meter = some ⟨min st.tokens m.depth, st.lastUpdate⟩)
            ∧ (∀ m, x.meter = some m → old.meter = none → e.meter = some ⟨m.depth, s.localTime⟩)
            ∧ (x.meter = none → e.meter = none)
            ∧ e.score = (x.trip.map fun l => if old.state = .tripped then 0 else min (old.score.getD 0) (l - 1))))

/-- R31, R32, R60: STREAM_CLEAR makes its entry FREE; STREAM_STATE sets ENABLED or BLOCKED by its table; STREAM_RESET
renews the state of every check that is present, clears the counters if its flag is set and returns a TRIPPED entry to
ENABLED. Each answers OK with the state before. STREAM_STATE answers another state with BAD_VALUE, and both answer a FREE
entry with NOT_FOUND; that another state for a FREE entry is answered BAD_VALUE is the model's choice (log entry 26). No
other entry changes. -/
def Obligations.StreamStatesChange : Prop :=
  ∀ (s : State) (r : Request) (rest : List Request) (i : StreamIndex), i = (byteAt r.operands 0).toFin →
    (s.Taking .streamClear r rest →
      ∃ t, exec .streamClear s = .next t
        ∧ ((s.atStep6 r rest).setEntry i none).Answered r .ok
            [match (s.entry i).map StreamEntry.state with
              | none => 0x00
              | some .enabled => 0x01
              | some .blocked => 0x02
              | some .tripped => 0x03] t)
    ∧ (s.Taking .streamState r rest →
      (byteAt r.operands 1 ≠ 0x01 → byteAt r.operands 1 ≠ 0x02 →
        ∃ t, exec .streamState s = .next t ∧ (s.atStep6 r rest).Answered r .badValue [] t)
      ∧ (byteAt r.operands 1 = 0x01 ∨ byteAt r.operands 1 = 0x02 → s.entry i = none →
        ∃ t, exec .streamState s = .next t ∧ (s.atStep6 r rest).Answered r .notFound [] t)
      ∧ (∀ e, s.entry i = some e → byteAt r.operands 1 = 0x01 →
        ∃ t, exec .streamState s = .next t
          ∧ ((s.atStep6 r rest).setEntry i (some
              (if e.state = .tripped then
                { e with
                  state := .enabled
                  sequence := e.record.sequence.map fun _ => ⟨none, []⟩
                  cadence := e.record.cadence.map fun _ => ⟨none⟩
                  meter := e.record.meter.map fun m => ⟨m.depth, s.localTime⟩
                  score := e.record.trip.map fun _ => 0 }
              else { e with state := .enabled }))).Answered r .ok
              [match e.state with
                | .enabled => 0x01
                | .blocked => 0x02
                | .tripped => 0x03] t)
      ∧ (∀ e, s.entry i = some e → byteAt r.operands 1 = 0x02 →
        ∃ t, exec .streamState s = .next t
          ∧ ((s.atStep6 r rest).setEntry i (some
              { e with
                state := .blocked
                score := if e.state = .tripped then e.score.map fun _ => 0 else e.score })).Answered r .ok
              [match e.state with
                | .enabled => 0x01
                | .blocked => 0x02
                | .tripped => 0x03] t))
    ∧ (s.Taking .streamReset r rest →
      (s.entry i = none →
        ∃ t, exec .streamReset s = .next t ∧ (s.atStep6 r rest).Answered r .notFound [] t)
      ∧ (∀ e, s.entry i = some e →
        ∃ t, exec .streamReset s = .next t
          ∧ ((s.atStep6 r rest).setEntry i (some
              { e with
                state := if e.state = .blocked then .blocked else .enabled
                sequence := e.record.sequence.map fun _ => ⟨none, []⟩
                cadence := e.record.cadence.map fun _ => ⟨none⟩
                meter := e.record.meter.map fun m => ⟨m.depth, s.localTime⟩
                score := e.record.trip.map fun _ => 0
                counters :=
                  if byteAt r.operands 1 = 0 then e.counters else ⟨0, 0, 0, 0, 0, 0, 0, 0, 0⟩ })).Answered r .ok
              [match e.state with
                | .enabled => 0x01
                | .blocked => 0x02
                | .tripped => 0x03] t))

/-- R35, R37, R124: STREAM_PURGE refuses a source of 0000h or FFFFh and otherwise enters PURGING at entry 0 with a count of
0, its lease renewed and no reply built. A visit makes its entry FREE and counts it if it holds the purged source, leaves
it as it is otherwise, and goes on to the next entry; the visit of entry 255 completes the walk with the reply OK and the
count. A visit while no walk runs is no event (log entry 8). -/
def Obligations.PurgesWalkTheTable : Prop :=
  (∀ (s : State) (r : Request) (rest : List Request), s.Taking .streamPurge r rest →
    ((fieldAt r.operands 0 2 = 0 ∨ fieldAt r.operands 0 2 = 0xFFFF) →
      ∃ t, exec .streamPurge s = .next t ∧ (s.atStep6 r rest).Answered r .badValue [] t)
    ∧ (fieldAt r.operands 0 2 ≠ 0 → fieldAt r.operands 0 2 ≠ 0xFFFF →
      exec .streamPurge s = .next
        { s.atStep6 r rest with
          engine :=
            { (s.atStep6 r rest).engine with
              state := .purging r (BitVec.ofNat 16 (fieldAt r.operands 0 2)) 0 0 s.localTime } }))
  ∧ ∀ (s : State), s.Plain →
    (∀ (r : Request) (source : Half) (i : StreamIndex) (n : Nat) (taken : Ticks),
      s.engine.state = .purging r source i n taken →
      (∀ j : StreamIndex, i.val + 1 = j.val →
        exec .purgeVisit s = .next
          (if s.hasSource source i then
            { s.setEntry i none with engine := { s.engine with state := .purging r source j (n + 1) taken } }
          else { s with engine := { s.engine with state := .purging r source j n taken } }))
      ∧ (i = 255 → ∃ t, exec .purgeVisit s = .next t
          ∧ ((if s.hasSource source i then s.setEntry i none else s) : State).Answered r .ok
              (beBytes 2 (if s.hasSource source i then n + 1 else n)) t))
    ∧ ((∀ r source i n taken, s.engine.state ≠ .purging r source i n taken) → exec .purgeVisit s = .next s)

/-- R38, R77, R93: UNLISTED_SET, QUEUE_SET and BEAT_SET replace one setting each, within its ranges, and answer OK with
what stood before; any operand out of range is answered BAD_VALUE and changes nothing. BEAT_SET makes beat following
SEEKING, or FREE without a source, clears both counts and the last error and changes no time; its Tb is at most C/4 and
at most a quarter of the length that awaits a swap. -/
def Obligations.SettingsAreReplaced : Prop :=
  ∀ (s : State) (r : Request) (rest : List Request),
    (s.Taking .unlistedSet r rest →
      (∀ (p : Port) (x : UnlistedPolicy), byteAt r.operands 0 = portByte p →
        (byteAt r.operands 1 = 0x01 ∧ x = .discard
          ∨ byteAt r.operands 1 = 0x00 ∧ ∃ q : DataQueueNo, (byteAt r.operands 2).toNat = q.val ∧ x = .forward q) →
        ∃ t, exec .unlistedSet s = .next t
          ∧ ((s.atStep6 r rest).modPort p fun P => { P with unlisted := x }).Answered r .ok
              ((match (s.port p).unlisted with
                | .forward q => [0x00, BitVec.ofNat 8 q.val]
                | .discard => [0x01, 0x00])
              ++ (match x with
                | .forward q => [0x00, BitVec.ofNat 8 q.val]
                | .discard => [0x01, 0x00])) t)
      ∧ (1 < (byteAt r.operands 0).toNat ∨ 1 < (byteAt r.operands 1).toNat
          ∨ byteAt r.operands 1 = 0x00 ∧ 2 < (byteAt r.operands 2).toNat →
        ∃ t, exec .unlistedSet s = .next t ∧ (s.atStep6 r rest).Answered r .badValue [] t))
    ∧ (s.Taking .queueSet r rest → ∀ limit age : Nat, fieldAt r.operands 2 2 = limit → fieldAt r.operands 4 2 = age →
      (∀ (p : Port) (q : QueueNo), byteAt r.operands 0 = portByte p → (byteAt r.operands 1).toNat = q.val →
        1 ≤ limit → limit ≤ 512 → age ≤ 1000 →
        ∃ t, exec .queueSet s = .next t
          ∧ ((s.atStep6 r rest).modQueue p q fun Q => { Q with limit := limit, ageLimit := age }).Answered r .ok
              (beBytes 2 (s.queue p q).limit ++ beBytes 2 (s.queue p q).ageLimit) t)
      ∧ (1 < (byteAt r.operands 0).toNat ∨ 3 < (byteAt r.operands 1).toNat ∨ limit = 0 ∨ 512 < limit ∨ 1000 < age →
        ∃ t, exec .queueSet s = .next t ∧ (s.atStep6 r rest).Answered r .badValue [] t))
    ∧ (s.Taking .beatSet r rest → ∀ tb : Nat, fieldAt r.operands 1 4 = tb →
      (∀ source : Option Port,
        (byteAt r.operands 0 = 0xFF ∧ source = none ∨ ∃ p, byteAt r.operands 0 = portByte p ∧ source = some p) →
        100 ≤ tb → tb ≤ 100000 → 4 * tb ≤ s.timer.length →
        (s.plans.commitPending = true → 4 * tb ≤ (s.plans.stagedPlan .u).cycleLength) →
        ∃ t, exec .beatSet s = .next t
          ∧ { s.atStep6 r rest with
              beat :=
                { s.beat with
                  state := if source = none then .free else .seeking
                  source := source
                  tolerance := tb
                  faultCount := 0
                  missCount := 0
                  lastError := none } }.Answered r .ok
              ([match s.beat.source with
                | some p => portByte p
                | none => 0xFF]
              ++ beBytes 4 s.beat.tolerance ++ [s.beat.state.code]) t)
      ∧ (2 ≤ (byteAt r.operands 0).toNat ∧ (byteAt r.operands 0).toNat ≤ 254 ∨ tb < 100 ∨ 100000 < tb
          ∨ s.timer.length < 4 * tb
          ∨ s.plans.commitPending = true ∧ (s.plans.stagedPlan .u).cycleLength < 4 * tb →
        ∃ t, exec .beatSet s = .next t ∧ (s.atStep6 r rest).Answered r .badValue [] t))

/-- R100, R101, R102, R99: while a commit is pending PLAN_HEADER, PLAN_WINDOWS and PLAN_REVERT are answered
COMMIT_PENDING. Otherwise PLAN_HEADER replaces the cycle length and the window count of a staged plan, PLAN_WINDOWS
writes its windows into the slots from the first index on, and PLAN_REVERT makes both staged plans copies of the active
ones; each within its ranges, else BAD_VALUE. No active plan, no indicator and no other staged plan changes. -/
def Obligations.StagedPlansChange : Prop :=
  ∀ (s : State) (r : Request) (rest : List Request),
    (∀ o ∈ [Op.planHeader, .planWindows, .planRevert], s.Taking o r rest → s.plans.commitPending = true →
      ∃ t, exec (takeInstr (some o)) s = .next t ∧ (s.atStep6 r rest).Answered r .commitPending [] t)
    ∧ (s.Taking .planHeader r rest → s.plans.commitPending = false →
      (∀ p : Port, byteAt r.operands 0 = portByte p → 1000 ≤ fieldAt r.operands 1 4 →
        fieldAt r.operands 1 4 ≤ 10000000 → 1 ≤ (byteAt r.operands 5).toNat → (byteAt r.operands 5).toNat ≤ 32 →
        ∃ t, exec .planHeader s = .next t
          ∧ { s.atStep6 r rest with
              plans := s.plans.setStaged p
                { s.plans.stagedPlan p with
                  cycleLength := fieldAt r.operands 1 4
                  windowCount := (byteAt r.operands 5).toNat } }.Answered r .ok
              (beBytes 4 (s.plans.stagedPlan p).cycleLength
                ++ [BitVec.ofNat 8 (s.plans.stagedPlan p).windowCount]) t)
      ∧ (1 < (byteAt r.operands 0).toNat ∨ fieldAt r.operands 1 4 < 1000 ∨ 10000000 < fieldAt r.operands 1 4
          ∨ (byteAt r.operands 5).toNat = 0 ∨ 32 < (byteAt r.operands 5).toNat →
        ∃ t, exec .planHeader s = .next t ∧ (s.atStep6 r rest).Answered r .badValue [] t))
    ∧ (s.Taking .planWindows r rest → s.plans.commitPending = false →
      ∀ first n : Nat, (byteAt r.operands 1).toNat = first → (byteAt r.operands 2).toNat = n →
      (∀ p : Port, byteAt r.operands 0 = portByte p → 1 ≤ n → n ≤ 8 → first + n ≤ 32 →
        (∀ k, k < n → 100 ≤ fieldAt r.operands (3 + 5 * k) 4 ∧ fieldAt r.operands (3 + 5 * k) 4 ≤ 10000000
          ∧ (byteAt r.operands (7 + 5 * k)).toNat < 16) →
        ∃ t x, exec .planWindows s = .next t
          ∧ { s.atStep6 r rest with plans := s.plans.setStaged p x }.Answered r .ok
              [byteAt r.operands 1, byteAt r.operands 2] t
          ∧ x.cycleLength = (s.plans.stagedPlan p).cycleLength ∧ x.windowCount = (s.plans.stagedPlan p).windowCount
          ∧ (∀ k, k < n → x.slot (first + k) =
              some ⟨fieldAt r.operands (3 + 5 * k) 4, (byteAt r.operands (7 + 5 * k)).setWidth 4⟩)
          ∧ ∀ k, k < first ∨ first + n ≤ k → x.slot k = (s.plans.stagedPlan p).slot k)
      ∧ (1 < (byteAt r.operands 0).toNat ∨ 31 < first ∨ n = 0 ∨ 8 < n ∨ 32 < first + n
          ∨ (∃ k, k < n ∧ (fieldAt r.operands (3 + 5 * k) 4 < 100 ∨ 10000000 < fieldAt r.operands (3 + 5 * k) 4
              ∨ 16 ≤ (byteAt r.operands (7 + 5 * k)).toNat)) →
        ∃ t, exec .planWindows s = .next t ∧ (s.atStep6 r rest).Answered r .badValue [] t))
    ∧ (s.Taking .planRevert r rest → s.plans.commitPending = false →
      ∃ t v, exec .planRevert s = .next t ∧ { s.atStep6 r rest with plans := v }.Answered r .ok [] t
        ∧ (∀ p, v.stagedPlan p = s.plans.activePlan p ∧ v.activePlan p = s.plans.activePlan p)
        ∧ v.active = s.plans.active ∧ v.commitPending = false ∧ v.lastSwap = s.plans.lastSwap)

/-- R104, R105, R107, R97, R129: PLAN_COMMIT is answered COMMIT_PENDING while one is pending; INVALID_PLAN with the first
of the eight tests that fails, U before D, and its reason; and otherwise ACCEPTED, with commit-pending set. PLAN_CANCEL
clears commit-pending, or answers NOTHING_PENDING with the active bank and the last swap index. -/
def Obligations.CommitsAreJudged : Prop :=
  ∀ (s : State) (r : Request) (rest : List Request) (x : Port → Plan) (allSet sum q3 : Port → Prop),
    (∀ p, x p = s.plans.stagedPlan p) →
    (∀ p, allSet p ↔ ∀ k, k < (x p).windowCount → (x p).slot k ≠ none) →
    (∀ p, sum p ↔ (x p).span (x p).windowCount = (x p).cycleLength) →
    (∀ p, q3 p ↔ ∃ k, k < (x p).windowCount ∧ (x p).opens k 3 = true ∧ 8384 ≤ (x p).duration k) →
    (s.Taking .planCommit r rest →
      (s.plans.commitPending = true →
        ∃ t, exec .planCommit s = .next t ∧ (s.atStep6 r rest).Answered r .commitPending [] t)
      ∧ (s.plans.commitPending = false →
        (∀ p, (p = .d → allSet .u ∧ sum .u ∧ q3 .u) →
          (∀ k, k < (x p).windowCount → (x p).slot k = none → (∀ j, j < k → (x p).slot j ≠ none) →
            ∃ t, exec .planCommit s = .next t
              ∧ (s.atStep6 r rest).Answered r .invalidPlan [0x01, portByte p, BitVec.ofNat 8 k] t)
          ∧ (allSet p → ¬ sum p →
            ∃ t, exec .planCommit s = .next t
              ∧ (s.atStep6 r rest).Answered r .invalidPlan
                  ([0x02, portByte p] ++ beBytes 4 ((x p).span (x p).windowCount)) t)
          ∧ (allSet p → sum p → ¬ q3 p →
            ∃ t, exec .planCommit s = .next t
              ∧ (s.atStep6 r rest).Answered r .invalidPlan [0x03, portByte p] t))
        ∧ ((∀ p, allSet p ∧ sum p ∧ q3 p) →
          ((x .u).cycleLength ≠ (x .d).cycleLength →
            ∃ t, exec .planCommit s = .next t
              ∧ (s.atStep6 r rest).Answered r .invalidPlan
                  ([0x04] ++ beBytes 4 (x .u).cycleLength ++ beBytes 4 (x .d).cycleLength) t)
          ∧ ((x .u).cycleLength = (x .d).cycleLength → s.beat.state ≠ .free →
              (x .u).cycleLength < 4 * s.beat.tolerance →
            ∃ t, exec .planCommit s = .next t
              ∧ (s.atStep6 r rest).Answered r .invalidPlan
                  ([0x05] ++ beBytes 4 s.beat.tolerance ++ beBytes 4 (x .u).cycleLength) t)
          ∧ ((x .u).cycleLength = (x .d).cycleLength →
              (s.beat.state = .free ∨ 4 * s.beat.tolerance ≤ (x .u).cycleLength) →
            ∃ t, exec .planCommit s = .next t
              ∧ { s.atStep6 r rest with plans := { s.plans with commitPending := true } }.Answered r .accepted
                  (beBytes 4 (x .u).cycleLength ++ [if s.plans.active = Bank.a then 0x01 else 0x00]) t))))
    ∧ (s.Taking .planCancel r rest →
      (s.plans.commitPending = true →
        ∃ t, exec .planCancel s = .next t
          ∧ { s.atStep6 r rest with plans := { s.plans with commitPending := false } }.Answered r .ok [] t)
      ∧ (s.plans.commitPending = false →
        ∃ t, exec .planCancel s = .next t
          ∧ (s.atStep6 r rest).Answered r .nothingPending
              ((if s.plans.active = Bank.a then 0x00 else 0x01)
                :: (match s.plans.lastSwap with
                  | some i => 0x01 :: beBytes 4 i.toNat
                  | none => [0x00, 0x00, 0x00, 0x00, 0x00])) t))

/-- R159, R160, R149, R172: NOTICE_SET with every field in range replaces the five settings and answers OK with those
before; the WAITING entries of kinds that are no longer enabled leave the list, whatever the master enable, then the
destination is recomputed and a change acted on (R158), and then a send is tried (R152). An entry of a disabled kind that
the change of destination returns from IN_FLIGHT stays in the list (the model's reading, log entry 21), and a WAITING
entry of a disabled kind is removed also where the settings are those already in place (the model's choice, log entry 27).
That all this comes before the reply is built is the model's reading of R124 (log entry 24). With the master
disabled and the destination unchanged nothing else changes. Any field out of range, the device's own address included, is
answered BAD_VALUE and changes nothing; station 0000h is no destination, whatever its port byte. -/
def Obligations.NoticeSettingsChange : Prop :=
  ∀ (s : State) (r : Request) (rest : List Request) (kinds station ms : Nat), s.Taking .noticeSet r rest →
    fieldAt r.operands 1 2 = kinds → fieldAt r.operands 3 2 = station → fieldAt r.operands 6 2 = ms →
    (255 < kinds ∨ ms = 0 ∨ 1000 < ms ∨ 15 < (byteAt r.operands 8).toNat
        ∨ station ≠ 0 ∧ (station = 0xFFFF ∨ station = s.station.toNat ∨ 1 < (byteAt r.operands 5).toNat) →
      ∃ t, exec .noticeSet s = .next t ∧ (s.atStep6 r rest).Answered r .badValue [] t)
    ∧ ∀ x : NoticeSettings, kinds ≤ 255 → 1 ≤ ms → ms ≤ 1000 → (byteAt r.operands 8).toNat ≤ 15 →
      (station = 0 ∧ x.standing = none
        ∨ 1 ≤ station ∧ station ≤ 0xFFFE ∧ station ≠ s.station.toNat ∧
          ∃ p, byteAt r.operands 5 = portByte p ∧ x.standing = some ⟨BitVec.ofNat 16 station, p⟩) →
      x.master = (byteAt r.operands 0 != 0) → x.kinds.toNat = kinds → x.retryMs = ms →
      x.retryLimit = (byteAt r.operands 8).toNat →
      (∃ t v, exec .noticeSet s = .next t
        ∧ ({ s.atStep6 r rest with
              notice :=
                { s.notice with
                  settings := x
                  destination := match s.session with
                    | some y => some y.holder
                    | none => x.standing } } : State).OnlySending v
        ∧ v.Answered r .ok
            ([if s.notice.settings.master then 0x01 else 0x00] ++ beBytes 2 s.notice.settings.kinds.toNat
              ++ stationBytes s.notice.settings.standing ++ beBytes 2 s.notice.settings.retryMs
              ++ [BitVec.ofNat 8 s.notice.settings.retryLimit]) t)
      ∧ (x.master = false →
          s.notice.destination = (match s.session with
            | some y => some y.holder
            | none => x.standing) →
          ∃ t, exec .noticeSet s = .next t
            ∧ { s.atStep6 r rest with
                notice :=
                  { s.notice with
                    settings := x
                    list := s.notice.list.filter fun y =>
                      y.status != NoticeStatus.waiting || x.kinds.getLsbD (y.event.priority - 1) } }.Answered r .ok
                ([if s.notice.settings.master then 0x01 else 0x00] ++ beBytes 2 s.notice.settings.kinds.toNat
                  ++ stationBytes s.notice.settings.standing ++ beBytes 2 s.notice.settings.retryMs
                  ++ [BitVec.ofNat 8 s.notice.settings.retryLimit]) t)
      ∧ ∀ (w : State) (dest : Option Requester),
          (dest = match s.session with
            | some y => some y.holder
            | none => x.standing) →
          w = { s.atStep6 r rest with
                notice :=
                  { s.notice with
                    settings := x
                    list := s.notice.list.filter fun y =>
                      y.status != NoticeStatus.waiting || x.kinds.getLsbD (y.event.priority - 1) } } →
          ∃ t, exec .noticeSet s = .next t
            ∧ (if s.notice.destination = dest then w.trySend else (w.changeDestination dest).trySend).Answered r .ok
                ([if s.notice.settings.master then 0x01 else 0x00] ++ beBytes 2 s.notice.settings.kinds.toNat
                  ++ stationBytes s.notice.settings.standing ++ beBytes 2 s.notice.settings.retryMs
                  ++ [BitVec.ofNat 8 s.notice.settings.retryLimit]) t

/-- R165, R166, R168, R164: COUNTER_READ of a group or selector that there is not is answered BAD_VALUE, and of the set of
a FREE entry NOT_FOUND. Otherwise it is answered OK with the group and selector as in the request, the local time, the
clear flag and the members of the set as they stood, and with the flag set every member of that set is 0 afterwards,
before the read's own reply is counted. A clear changes no member of any other set and nothing that is no counter. The
groups are 01h PORT, 02h STREAM, 03h QUEUE, 04h GATE, 05h BEAT, 06h MANAGEMENT and 07h NOTICE with their selectors (R165,
R172), and the members of each set stand in the order of section 10.1. -/
def Obligations.CounterReadsClearOneSet : Prop :=
  (∀ (group high low : Byte) (c : CounterSet), counterSetOf group high low = some c ↔
    ((∃ p, group = 0x01 ∧ high = portByte p ∧ c = .port p)
      ∨ (∃ i : StreamIndex, group = 0x02 ∧ high = 0x00 ∧ low.toNat = i.val ∧ c = .stream i)
      ∨ (∃ (p : Port) (q : QueueNo), group = 0x03 ∧ high = portByte p ∧ low.toNat = q.val ∧ c = .queue p q)
      ∨ (∃ p, group = 0x04 ∧ high = portByte p ∧ c = .gate p)
      ∨ (high = 0x00 ∧ low = 0x00
          ∧ (group = 0x05 ∧ c = .beat ∨ group = 0x06 ∧ c = .management ∨ group = 0x07 ∧ c = .notice))))
  ∧ (∀ (s : State),
    (∀ (p : Port) (c : PortCounters), (s.port p).counters = c →
      s.members (.port p) =
        some [c.accepted, c.noBuffer, c.checkError, c.malformed, c.aborted, c.misaddressed, c.transmitAborted,
          c.linkLosses, c.unlistedForwarded, c.unlistedDiscarded])
    ∧ (∀ i : StreamIndex, s.entry i = none → s.members (.stream i) = none)
    ∧ (∀ (i : StreamIndex) (e : StreamEntry) (c : StreamCounters), s.entry i = some e → e.counters = c →
      s.members (.stream i) =
        some [c.passed, c.demoted, c.discardedBlocked, c.discardedTripped, c.discardedDuplicate, c.discardedLate,
          c.discardedEarly, c.discardedMeter, c.gap])
    ∧ (∀ (p : Port) (q : QueueNo) (c : QueueCounters), (s.queue p q).counters = c →
      s.members (.queue p q) =
        some [c.enqueued, c.transmitted, c.droppedFull, c.droppedEgressDown, c.flushed, c.aged, c.highWater])
    ∧ (∀ p : Port, s.members (.gate p) = some [(s.port p).gate.overruns])
    ∧ (∀ c : BeatCounters, s.beat.counters = c →
      s.members .beat = some [c.beats, c.realigns, c.reAnchors, c.faults, c.misses, c.extra, c.lost])
    ∧ (∀ c : ManagementCounters, s.engine.counters = c →
      s.members .management =
        some [c.requestsTaken, c.requestsDropped, c.malformedRequest, c.repeats, c.repliesBuilt, c.replyDropped])
    ∧ (∀ c : NoticeCounters, s.notice.counters = c →
      s.members .notice = some [c.sent, c.acked, c.stray, c.abandoned, c.noticesLost]))
  ∧ (∀ (s : State) (r : Request) (rest : List Request), s.Taking .counterRead r rest →
    (counterSetOf (byteAt r.operands 0) (byteAt r.operands 1) (byteAt r.operands 2) = none →
      ∃ t, exec .counterRead s = .next t ∧ (s.atStep6 r rest).Answered r .badValue [] t)
    ∧ ∀ c, counterSetOf (byteAt r.operands 0) (byteAt r.operands 1) (byteAt r.operands 2) = some c →
      ((s.atStep6 r rest).members c = none →
        ∃ t, exec .counterRead s = .next t ∧ (s.atStep6 r rest).Answered r .notFound [] t)
      ∧ (∀ values, (s.atStep6 r rest).members c = some values →
        ∃ t, exec .counterRead s = .next t
          ∧ ((if byteAt r.operands 3 = 0 then s.atStep6 r rest else (s.atStep6 r rest).clearSet c) : State).Answered r .ok
              ([byteAt r.operands 0, byteAt r.operands 1, byteAt r.operands 2] ++ beBytes 8 s.localTime
                ++ [if byteAt r.operands 3 = 0 then 0x00 else 0x01] ++ values.flatMap (beBytes 4)) t))
  ∧ (∀ (s : State) (c d : CounterSet) (values : List Nat), s.members c = some values →
      (∃ zeros, (s.clearSet c).members c = some zeros ∧ zeros.length = values.length ∧ ∀ n ∈ zeros, n = 0)
        ∧ (d ≠ c → (s.clearSet c).members d = s.members d)
        ∧ (s.clearSet c).pool = s.pool ∧ (s.clearSet c).timer = s.timer ∧ (s.clearSet c).plans = s.plans
        ∧ (s.clearSet c).session = s.session ∧ (s.clearSet c).localTime = s.localTime
        ∧ (s.clearSet c).engine.queue = s.engine.queue ∧ (s.clearSet c).engine.memory = s.engine.memory
        ∧ (s.clearSet c).engine.state = s.engine.state
        ∧ { (s.clearSet c).notice with counters := s.notice.counters } = s.notice
        ∧ { (s.clearSet c).beat with counters := s.beat.counters } = s.beat
        ∧ (∀ i, ((s.clearSet c).entry i).map (fun e => { e with counters := StreamCounters.zero }) =
            (s.entry i).map fun e => { e with counters := StreamCounters.zero })
        ∧ ∀ p, ((s.clearSet c).port p).link = (s.port p).link
            ∧ ((s.clearSet c).port p).receiver = (s.port p).receiver
            ∧ ((s.clearSet c).port p).transmitter = (s.port p).transmitter
            ∧ ((s.clearSet c).port p).unlisted = (s.port p).unlisted
            ∧ { ((s.clearSet c).port p).gate with overruns := 0 } = { (s.port p).gate with overruns := 0 }
            ∧ ∀ q, { (s.clearSet c).queue p q with counters := QueueCounters.zero } =
                { s.queue p q with counters := QueueCounters.zero })

/-! ## With no command waiting -/

/-- R80 and log entry 4 (what a step does when no command waits is the model's choice): with no command waiting the device
does one thing by itself. It is an event that is due (a completion, the scheduled end, a window's end, an expiry), a visit
of a purge walk that runs, the take of the head request by an IDLE engine, or, while no event is due, one tick of local
time, by which nothing else changes; where there are several, a draw picks one. With every due time ahead, no walk running
and no request that could be taken, it is the tick. While a cold reset is held nothing happens (log entry 6). -/
def Obligations.TheDeviceActsByItself : Prop :=
  ∀ s : State, s.pending = [] →
    (s.resetHeld = true → step s = .next s)
    ∧ (s.resetHeld = false →
      ∃ n, (n = s.freeCount ∨ n = s.freeCount + 1)
        ∧ ((∀ d ∈ s.deadlines, s.localTime < d)
            ∧ step s = .next { s with localTime := s.localTime + 1, freeCount := n }
          ∨ ∃ i, step s = exec i { s with freeCount := n }
            ∧ ((∃ p q f c, i = .transmissionCompletion p ∧ (s.port p).transmitter = .sending q f c ∧ c ≤ s.localTime)
              ∨ (i = .scheduledCycleStart ∧ s.timer.scheduledEnd ≤ s.localTime)
              ∨ (∃ p, i = .windowChange p ∧ (s.port p).gate.window + 1 < (s.plans.activePlan p).windowCount
                  ∧ (s.port p).gate.windowEnd ≤ s.localTime)
              ∨ (∃ x, i = .leaseExpiry ∧ s.session = some x ∧ x.expiry ≤ s.localTime)
              ∨ (∃ due, i = .retryTimerExpiry ∧ s.notice.retryTimer = some due ∧ due ≤ s.localTime)
              ∨ (∃ r source next cleared takenAt,
                  i = .purgeVisit ∧ s.engine.state = .purging r source next cleared takenAt)
              ∨ ∃ r rest, i = takeInstr (Op.ofCode r.op) ∧ s.engine.state = .idle ∧ s.engine.queue = r :: rest)))
    ∧ (s.resetHeld = false → (∀ d ∈ s.deadlines, s.localTime < d) →
      (∀ r source next cleared takenAt, s.engine.state ≠ .purging r source next cleared takenAt) →
      (s.engine.state = .idle → s.engine.queue = []) →
      step s = .next { s with localTime := s.localTime + 1 })
end

