-- ==== Sys2Proof/Laws/State.lean ====
section
/-! SUPPORT. One lemma for each field and each update of the state: what the update leaves there. All are true by
unfolding, so that no later proof unfolds a record update. -/

namespace Sys2Proof.Machine

/-! ## State.returnBlocks -/

@[simp] theorem State.returnBlocks_pending (s : State) (n : Nat) : (s.returnBlocks n).pending = s.pending := rfl
@[simp] theorem State.returnBlocks_freeCount (s : State) (n : Nat) : (s.returnBlocks n).freeCount = s.freeCount := rfl
@[simp] theorem State.returnBlocks_resetHeld (s : State) (n : Nat) : (s.returnBlocks n).resetHeld = s.resetHeld := rfl
@[simp] theorem State.returnBlocks_station (s : State) (n : Nat) : (s.returnBlocks n).station = s.station := rfl
@[simp] theorem State.returnBlocks_localTime (s : State) (n : Nat) : (s.returnBlocks n).localTime = s.localTime := rfl
@[simp] theorem State.returnBlocks_timer (s : State) (n : Nat) : (s.returnBlocks n).timer = s.timer := rfl
@[simp] theorem State.returnBlocks_beat (s : State) (n : Nat) : (s.returnBlocks n).beat = s.beat := rfl
@[simp] theorem State.returnBlocks_portU (s : State) (n : Nat) : (s.returnBlocks n).portU = s.portU := rfl
@[simp] theorem State.returnBlocks_portD (s : State) (n : Nat) : (s.returnBlocks n).portD = s.portD := rfl
@[simp] theorem State.returnBlocks_table (s : State) (n : Nat) : (s.returnBlocks n).table = s.table := rfl
@[simp] theorem State.returnBlocks_plans (s : State) (n : Nat) : (s.returnBlocks n).plans = s.plans := rfl
@[simp] theorem State.returnBlocks_engine (s : State) (n : Nat) : (s.returnBlocks n).engine = s.engine := rfl
@[simp] theorem State.returnBlocks_session (s : State) (n : Nat) : (s.returnBlocks n).session = s.session := rfl
@[simp] theorem State.returnBlocks_notice (s : State) (n : Nat) : (s.returnBlocks n).notice = s.notice := rfl

/-! ## State.modPort -/

@[simp] theorem State.modPort_pending (s : State) (p : Port) (f : PortState → PortState) : (s.modPort p f).pending = s.pending := by cases p <;> rfl
@[simp] theorem State.modPort_freeCount (s : State) (p : Port) (f : PortState → PortState) : (s.modPort p f).freeCount = s.freeCount := by cases p <;> rfl
@[simp] theorem State.modPort_resetHeld (s : State) (p : Port) (f : PortState → PortState) : (s.modPort p f).resetHeld = s.resetHeld := by cases p <;> rfl
@[simp] theorem State.modPort_station (s : State) (p : Port) (f : PortState → PortState) : (s.modPort p f).station = s.station := by cases p <;> rfl
@[simp] theorem State.modPort_localTime (s : State) (p : Port) (f : PortState → PortState) : (s.modPort p f).localTime = s.localTime := by cases p <;> rfl
@[simp] theorem State.modPort_timer (s : State) (p : Port) (f : PortState → PortState) : (s.modPort p f).timer = s.timer := by cases p <;> rfl
@[simp] theorem State.modPort_beat (s : State) (p : Port) (f : PortState → PortState) : (s.modPort p f).beat = s.beat := by cases p <;> rfl
@[simp] theorem State.modPort_pool (s : State) (p : Port) (f : PortState → PortState) : (s.modPort p f).pool = s.pool := by cases p <;> rfl
@[simp] theorem State.modPort_table (s : State) (p : Port) (f : PortState → PortState) : (s.modPort p f).table = s.table := by cases p <;> rfl
@[simp] theorem State.modPort_plans (s : State) (p : Port) (f : PortState → PortState) : (s.modPort p f).plans = s.plans := by cases p <;> rfl
@[simp] theorem State.modPort_engine (s : State) (p : Port) (f : PortState → PortState) : (s.modPort p f).engine = s.engine := by cases p <;> rfl
@[simp] theorem State.modPort_session (s : State) (p : Port) (f : PortState → PortState) : (s.modPort p f).session = s.session := by cases p <;> rfl
@[simp] theorem State.modPort_notice (s : State) (p : Port) (f : PortState → PortState) : (s.modPort p f).notice = s.notice := by cases p <;> rfl

/-! ## State.countPort -/

@[simp] theorem State.countPort_pending (s : State) (p : Port) (f : PortCounters → PortCounters) : (s.countPort p f).pending = s.pending := by cases p <;> rfl
@[simp] theorem State.countPort_freeCount (s : State) (p : Port) (f : PortCounters → PortCounters) : (s.countPort p f).freeCount = s.freeCount := by cases p <;> rfl
@[simp] theorem State.countPort_resetHeld (s : State) (p : Port) (f : PortCounters → PortCounters) : (s.countPort p f).resetHeld = s.resetHeld := by cases p <;> rfl
@[simp] theorem State.countPort_station (s : State) (p : Port) (f : PortCounters → PortCounters) : (s.countPort p f).station = s.station := by cases p <;> rfl
@[simp] theorem State.countPort_localTime (s : State) (p : Port) (f : PortCounters → PortCounters) : (s.countPort p f).localTime = s.localTime := by cases p <;> rfl
@[simp] theorem State.countPort_timer (s : State) (p : Port) (f : PortCounters → PortCounters) : (s.countPort p f).timer = s.timer := by cases p <;> rfl
@[simp] theorem State.countPort_beat (s : State) (p : Port) (f : PortCounters → PortCounters) : (s.countPort p f).beat = s.beat := by cases p <;> rfl
@[simp] theorem State.countPort_pool (s : State) (p : Port) (f : PortCounters → PortCounters) : (s.countPort p f).pool = s.pool := by cases p <;> rfl
@[simp] theorem State.countPort_table (s : State) (p : Port) (f : PortCounters → PortCounters) : (s.countPort p f).table = s.table := by cases p <;> rfl
@[simp] theorem State.countPort_plans (s : State) (p : Port) (f : PortCounters → PortCounters) : (s.countPort p f).plans = s.plans := by cases p <;> rfl
@[simp] theorem State.countPort_engine (s : State) (p : Port) (f : PortCounters → PortCounters) : (s.countPort p f).engine = s.engine := by cases p <;> rfl
@[simp] theorem State.countPort_session (s : State) (p : Port) (f : PortCounters → PortCounters) : (s.countPort p f).session = s.session := by cases p <;> rfl
@[simp] theorem State.countPort_notice (s : State) (p : Port) (f : PortCounters → PortCounters) : (s.countPort p f).notice = s.notice := by cases p <;> rfl

/-! ## State.modQueue -/

@[simp] theorem State.modQueue_pending (s : State) (p : Port) (q : QueueNo) (f : Queue → Queue) : (s.modQueue p q f).pending = s.pending := by cases p <;> rfl
@[simp] theorem State.modQueue_freeCount (s : State) (p : Port) (q : QueueNo) (f : Queue → Queue) : (s.modQueue p q f).freeCount = s.freeCount := by cases p <;> rfl
@[simp] theorem State.modQueue_resetHeld (s : State) (p : Port) (q : QueueNo) (f : Queue → Queue) : (s.modQueue p q f).resetHeld = s.resetHeld := by cases p <;> rfl
@[simp] theorem State.modQueue_station (s : State) (p : Port) (q : QueueNo) (f : Queue → Queue) : (s.modQueue p q f).station = s.station := by cases p <;> rfl
@[simp] theorem State.modQueue_localTime (s : State) (p : Port) (q : QueueNo) (f : Queue → Queue) : (s.modQueue p q f).localTime = s.localTime := by cases p <;> rfl
@[simp] theorem State.modQueue_timer (s : State) (p : Port) (q : QueueNo) (f : Queue → Queue) : (s.modQueue p q f).timer = s.timer := by cases p <;> rfl
@[simp] theorem State.modQueue_beat (s : State) (p : Port) (q : QueueNo) (f : Queue → Queue) : (s.modQueue p q f).beat = s.beat := by cases p <;> rfl
@[simp] theorem State.modQueue_pool (s : State) (p : Port) (q : QueueNo) (f : Queue → Queue) : (s.modQueue p q f).pool = s.pool := by cases p <;> rfl
@[simp] theorem State.modQueue_table (s : State) (p : Port) (q : QueueNo) (f : Queue → Queue) : (s.modQueue p q f).table = s.table := by cases p <;> rfl
@[simp] theorem State.modQueue_plans (s : State) (p : Port) (q : QueueNo) (f : Queue → Queue) : (s.modQueue p q f).plans = s.plans := by cases p <;> rfl
@[simp] theorem State.modQueue_engine (s : State) (p : Port) (q : QueueNo) (f : Queue → Queue) : (s.modQueue p q f).engine = s.engine := by cases p <;> rfl
@[simp] theorem State.modQueue_session (s : State) (p : Port) (q : QueueNo) (f : Queue → Queue) : (s.modQueue p q f).session = s.session := by cases p <;> rfl
@[simp] theorem State.modQueue_notice (s : State) (p : Port) (q : QueueNo) (f : Queue → Queue) : (s.modQueue p q f).notice = s.notice := by cases p <;> rfl

/-! ## State.countQueue -/

@[simp] theorem State.countQueue_pending (s : State) (p : Port) (q : QueueNo) (f : QueueCounters → QueueCounters) : (s.countQueue p q f).pending = s.pending := by cases p <;> rfl
@[simp] theorem State.countQueue_freeCount (s : State) (p : Port) (q : QueueNo) (f : QueueCounters → QueueCounters) : (s.countQueue p q f).freeCount = s.freeCount := by cases p <;> rfl
@[simp] theorem State.countQueue_resetHeld (s : State) (p : Port) (q : QueueNo) (f : QueueCounters → QueueCounters) : (s.countQueue p q f).resetHeld = s.resetHeld := by cases p <;> rfl
@[simp] theorem State.countQueue_station (s : State) (p : Port) (q : QueueNo) (f : QueueCounters → QueueCounters) : (s.countQueue p q f).station = s.station := by cases p <;> rfl
@[simp] theorem State.countQueue_localTime (s : State) (p : Port) (q : QueueNo) (f : QueueCounters → QueueCounters) : (s.countQueue p q f).localTime = s.localTime := by cases p <;> rfl
@[simp] theorem State.countQueue_timer (s : State) (p : Port) (q : QueueNo) (f : QueueCounters → QueueCounters) : (s.countQueue p q f).timer = s.timer := by cases p <;> rfl
@[simp] theorem State.countQueue_beat (s : State) (p : Port) (q : QueueNo) (f : QueueCounters → QueueCounters) : (s.countQueue p q f).beat = s.beat := by cases p <;> rfl
@[simp] theorem State.countQueue_pool (s : State) (p : Port) (q : QueueNo) (f : QueueCounters → QueueCounters) : (s.countQueue p q f).pool = s.pool := by cases p <;> rfl
@[simp] theorem State.countQueue_table (s : State) (p : Port) (q : QueueNo) (f : QueueCounters → QueueCounters) : (s.countQueue p q f).table = s.table := by cases p <;> rfl
@[simp] theorem State.countQueue_plans (s : State) (p : Port) (q : QueueNo) (f : QueueCounters → QueueCounters) : (s.countQueue p q f).plans = s.plans := by cases p <;> rfl
@[simp] theorem State.countQueue_engine (s : State) (p : Port) (q : QueueNo) (f : QueueCounters → QueueCounters) : (s.countQueue p q f).engine = s.engine := by cases p <;> rfl
@[simp] theorem State.countQueue_session (s : State) (p : Port) (q : QueueNo) (f : QueueCounters → QueueCounters) : (s.countQueue p q f).session = s.session := by cases p <;> rfl
@[simp] theorem State.countQueue_notice (s : State) (p : Port) (q : QueueNo) (f : QueueCounters → QueueCounters) : (s.countQueue p q f).notice = s.notice := by cases p <;> rfl

/-! ## State.setReceiver -/

@[simp] theorem State.setReceiver_pending (s : State) (p : Port) (r : Receiver) : (s.setReceiver p r).pending = s.pending := by cases p <;> rfl
@[simp] theorem State.setReceiver_freeCount (s : State) (p : Port) (r : Receiver) : (s.setReceiver p r).freeCount = s.freeCount := by cases p <;> rfl
@[simp] theorem State.setReceiver_resetHeld (s : State) (p : Port) (r : Receiver) : (s.setReceiver p r).resetHeld = s.resetHeld := by cases p <;> rfl
@[simp] theorem State.setReceiver_station (s : State) (p : Port) (r : Receiver) : (s.setReceiver p r).station = s.station := by cases p <;> rfl
@[simp] theorem State.setReceiver_localTime (s : State) (p : Port) (r : Receiver) : (s.setReceiver p r).localTime = s.localTime := by cases p <;> rfl
@[simp] theorem State.setReceiver_timer (s : State) (p : Port) (r : Receiver) : (s.setReceiver p r).timer = s.timer := by cases p <;> rfl
@[simp] theorem State.setReceiver_beat (s : State) (p : Port) (r : Receiver) : (s.setReceiver p r).beat = s.beat := by cases p <;> rfl
@[simp] theorem State.setReceiver_pool (s : State) (p : Port) (r : Receiver) : (s.setReceiver p r).pool = s.pool := by cases p <;> rfl
@[simp] theorem State.setReceiver_table (s : State) (p : Port) (r : Receiver) : (s.setReceiver p r).table = s.table := by cases p <;> rfl
@[simp] theorem State.setReceiver_plans (s : State) (p : Port) (r : Receiver) : (s.setReceiver p r).plans = s.plans := by cases p <;> rfl
@[simp] theorem State.setReceiver_engine (s : State) (p : Port) (r : Receiver) : (s.setReceiver p r).engine = s.engine := by cases p <;> rfl
@[simp] theorem State.setReceiver_session (s : State) (p : Port) (r : Receiver) : (s.setReceiver p r).session = s.session := by cases p <;> rfl
@[simp] theorem State.setReceiver_notice (s : State) (p : Port) (r : Receiver) : (s.setReceiver p r).notice = s.notice := by cases p <;> rfl

/-! ## State.setTransmitter -/

@[simp] theorem State.setTransmitter_pending (s : State) (p : Port) (x : Transmitter) : (s.setTransmitter p x).pending = s.pending := by cases p <;> rfl
@[simp] theorem State.setTransmitter_freeCount (s : State) (p : Port) (x : Transmitter) : (s.setTransmitter p x).freeCount = s.freeCount := by cases p <;> rfl
@[simp] theorem State.setTransmitter_resetHeld (s : State) (p : Port) (x : Transmitter) : (s.setTransmitter p x).resetHeld = s.resetHeld := by cases p <;> rfl
@[simp] theorem State.setTransmitter_station (s : State) (p : Port) (x : Transmitter) : (s.setTransmitter p x).station = s.station := by cases p <;> rfl
@[simp] theorem State.setTransmitter_localTime (s : State) (p : Port) (x : Transmitter) : (s.setTransmitter p x).localTime = s.localTime := by cases p <;> rfl
@[simp] theorem State.setTransmitter_timer (s : State) (p : Port) (x : Transmitter) : (s.setTransmitter p x).timer = s.timer := by cases p <;> rfl
@[simp] theorem State.setTransmitter_beat (s : State) (p : Port) (x : Transmitter) : (s.setTransmitter p x).beat = s.beat := by cases p <;> rfl
@[simp] theorem State.setTransmitter_pool (s : State) (p : Port) (x : Transmitter) : (s.setTransmitter p x).pool = s.pool := by cases p <;> rfl
@[simp] theorem State.setTransmitter_table (s : State) (p : Port) (x : Transmitter) : (s.setTransmitter p x).table = s.table := by cases p <;> rfl
@[simp] theorem State.setTransmitter_plans (s : State) (p : Port) (x : Transmitter) : (s.setTransmitter p x).plans = s.plans := by cases p <;> rfl
@[simp] theorem State.setTransmitter_engine (s : State) (p : Port) (x : Transmitter) : (s.setTransmitter p x).engine = s.engine := by cases p <;> rfl
@[simp] theorem State.setTransmitter_session (s : State) (p : Port) (x : Transmitter) : (s.setTransmitter p x).session = s.session := by cases p <;> rfl
@[simp] theorem State.setTransmitter_notice (s : State) (p : Port) (x : Transmitter) : (s.setTransmitter p x).notice = s.notice := by cases p <;> rfl

/-! ## State.countManagement -/

@[simp] theorem State.countManagement_pending (s : State) (f : ManagementCounters → ManagementCounters) : (s.countManagement f).pending = s.pending := rfl
@[simp] theorem State.countManagement_freeCount (s : State) (f : ManagementCounters → ManagementCounters) : (s.countManagement f).freeCount = s.freeCount := rfl
@[simp] theorem State.countManagement_resetHeld (s : State) (f : ManagementCounters → ManagementCounters) : (s.countManagement f).resetHeld = s.resetHeld := rfl
@[simp] theorem State.countManagement_station (s : State) (f : ManagementCounters → ManagementCounters) : (s.countManagement f).station = s.station := rfl
@[simp] theorem State.countManagement_localTime (s : State) (f : ManagementCounters → ManagementCounters) : (s.countManagement f).localTime = s.localTime := rfl
@[simp] theorem State.countManagement_timer (s : State) (f : ManagementCounters → ManagementCounters) : (s.countManagement f).timer = s.timer := rfl
@[simp] theorem State.countManagement_beat (s : State) (f : ManagementCounters → ManagementCounters) : (s.countManagement f).beat = s.beat := rfl
@[simp] theorem State.countManagement_portU (s : State) (f : ManagementCounters → ManagementCounters) : (s.countManagement f).portU = s.portU := rfl
@[simp] theorem State.countManagement_portD (s : State) (f : ManagementCounters → ManagementCounters) : (s.countManagement f).portD = s.portD := rfl
@[simp] theorem State.countManagement_pool (s : State) (f : ManagementCounters → ManagementCounters) : (s.countManagement f).pool = s.pool := rfl
@[simp] theorem State.countManagement_table (s : State) (f : ManagementCounters → ManagementCounters) : (s.countManagement f).table = s.table := rfl
@[simp] theorem State.countManagement_plans (s : State) (f : ManagementCounters → ManagementCounters) : (s.countManagement f).plans = s.plans := rfl
@[simp] theorem State.countManagement_session (s : State) (f : ManagementCounters → ManagementCounters) : (s.countManagement f).session = s.session := rfl
@[simp] theorem State.countManagement_notice (s : State) (f : ManagementCounters → ManagementCounters) : (s.countManagement f).notice = s.notice := rfl

/-! ## State.setEntry -/

@[simp] theorem State.setEntry_pending (s : State) (i : StreamIndex) (e : Option StreamEntry) : (s.setEntry i e).pending = s.pending := rfl
@[simp] theorem State.setEntry_freeCount (s : State) (i : StreamIndex) (e : Option StreamEntry) : (s.setEntry i e).freeCount = s.freeCount := rfl
@[simp] theorem State.setEntry_resetHeld (s : State) (i : StreamIndex) (e : Option StreamEntry) : (s.setEntry i e).resetHeld = s.resetHeld := rfl
@[simp] theorem State.setEntry_station (s : State) (i : StreamIndex) (e : Option StreamEntry) : (s.setEntry i e).station = s.station := rfl
@[simp] theorem State.setEntry_localTime (s : State) (i : StreamIndex) (e : Option StreamEntry) : (s.setEntry i e).localTime = s.localTime := rfl
@[simp] theorem State.setEntry_timer (s : State) (i : StreamIndex) (e : Option StreamEntry) : (s.setEntry i e).timer = s.timer := rfl
@[simp] theorem State.setEntry_beat (s : State) (i : StreamIndex) (e : Option StreamEntry) : (s.setEntry i e).beat = s.beat := rfl
@[simp] theorem State.setEntry_portU (s : State) (i : StreamIndex) (e : Option StreamEntry) : (s.setEntry i e).portU = s.portU := rfl
@[simp] theorem State.setEntry_portD (s : State) (i : StreamIndex) (e : Option StreamEntry) : (s.setEntry i e).portD = s.portD := rfl
@[simp] theorem State.setEntry_pool (s : State) (i : StreamIndex) (e : Option StreamEntry) : (s.setEntry i e).pool = s.pool := rfl
@[simp] theorem State.setEntry_plans (s : State) (i : StreamIndex) (e : Option StreamEntry) : (s.setEntry i e).plans = s.plans := rfl
@[simp] theorem State.setEntry_engine (s : State) (i : StreamIndex) (e : Option StreamEntry) : (s.setEntry i e).engine = s.engine := rfl
@[simp] theorem State.setEntry_session (s : State) (i : StreamIndex) (e : Option StreamEntry) : (s.setEntry i e).session = s.session := rfl
@[simp] theorem State.setEntry_notice (s : State) (i : StreamIndex) (e : Option StreamEntry) : (s.setEntry i e).notice = s.notice := rfl

/-! ## State.listEvent -/

@[simp] theorem State.listEvent_pending (s : State) (e : Event) : (s.listEvent e).pending = s.pending := rfl
@[simp] theorem State.listEvent_freeCount (s : State) (e : Event) : (s.listEvent e).freeCount = s.freeCount := rfl
@[simp] theorem State.listEvent_resetHeld (s : State) (e : Event) : (s.listEvent e).resetHeld = s.resetHeld := rfl
@[simp] theorem State.listEvent_station (s : State) (e : Event) : (s.listEvent e).station = s.station := rfl
@[simp] theorem State.listEvent_localTime (s : State) (e : Event) : (s.listEvent e).localTime = s.localTime := rfl
@[simp] theorem State.listEvent_timer (s : State) (e : Event) : (s.listEvent e).timer = s.timer := rfl
@[simp] theorem State.listEvent_beat (s : State) (e : Event) : (s.listEvent e).beat = s.beat := rfl
@[simp] theorem State.listEvent_portU (s : State) (e : Event) : (s.listEvent e).portU = s.portU := rfl
@[simp] theorem State.listEvent_portD (s : State) (e : Event) : (s.listEvent e).portD = s.portD := rfl
@[simp] theorem State.listEvent_pool (s : State) (e : Event) : (s.listEvent e).pool = s.pool := rfl
@[simp] theorem State.listEvent_table (s : State) (e : Event) : (s.listEvent e).table = s.table := rfl
@[simp] theorem State.listEvent_plans (s : State) (e : Event) : (s.listEvent e).plans = s.plans := rfl
@[simp] theorem State.listEvent_engine (s : State) (e : Event) : (s.listEvent e).engine = s.engine := rfl
@[simp] theorem State.listEvent_session (s : State) (e : Event) : (s.listEvent e).session = s.session := rfl

/-! ## State.countBeat -/

@[simp] theorem State.countBeat_pending (s : State) (f : BeatCounters → BeatCounters) : (s.countBeat f).pending = s.pending := rfl
@[simp] theorem State.countBeat_freeCount (s : State) (f : BeatCounters → BeatCounters) : (s.countBeat f).freeCount = s.freeCount := rfl
@[simp] theorem State.countBeat_resetHeld (s : State) (f : BeatCounters → BeatCounters) : (s.countBeat f).resetHeld = s.resetHeld := rfl
@[simp] theorem State.countBeat_station (s : State) (f : BeatCounters → BeatCounters) : (s.countBeat f).station = s.station := rfl
@[simp] theorem State.countBeat_localTime (s : State) (f : BeatCounters → BeatCounters) : (s.countBeat f).localTime = s.localTime := rfl
@[simp] theorem State.countBeat_timer (s : State) (f : BeatCounters → BeatCounters) : (s.countBeat f).timer = s.timer := rfl
@[simp] theorem State.countBeat_portU (s : State) (f : BeatCounters → BeatCounters) : (s.countBeat f).portU = s.portU := rfl
@[simp] theorem State.countBeat_portD (s : State) (f : BeatCounters → BeatCounters) : (s.countBeat f).portD = s.portD := rfl
@[simp] theorem State.countBeat_pool (s : State) (f : BeatCounters → BeatCounters) : (s.countBeat f).pool = s.pool := rfl
@[simp] theorem State.countBeat_table (s : State) (f : BeatCounters → BeatCounters) : (s.countBeat f).table = s.table := rfl
@[simp] theorem State.countBeat_plans (s : State) (f : BeatCounters → BeatCounters) : (s.countBeat f).plans = s.plans := rfl
@[simp] theorem State.countBeat_engine (s : State) (f : BeatCounters → BeatCounters) : (s.countBeat f).engine = s.engine := rfl
@[simp] theorem State.countBeat_session (s : State) (f : BeatCounters → BeatCounters) : (s.countBeat f).session = s.session := rfl
@[simp] theorem State.countBeat_notice (s : State) (f : BeatCounters → BeatCounters) : (s.countBeat f).notice = s.notice := rfl

/-! ## State.tolerate -/

@[simp] theorem State.tolerate_pending (s : State) (e : Int) : (s.tolerate e).pending = s.pending := rfl
@[simp] theorem State.tolerate_freeCount (s : State) (e : Int) : (s.tolerate e).freeCount = s.freeCount := rfl
@[simp] theorem State.tolerate_resetHeld (s : State) (e : Int) : (s.tolerate e).resetHeld = s.resetHeld := rfl
@[simp] theorem State.tolerate_station (s : State) (e : Int) : (s.tolerate e).station = s.station := rfl
@[simp] theorem State.tolerate_localTime (s : State) (e : Int) : (s.tolerate e).localTime = s.localTime := rfl
@[simp] theorem State.tolerate_timer (s : State) (e : Int) : (s.tolerate e).timer = s.timer := rfl
@[simp] theorem State.tolerate_portU (s : State) (e : Int) : (s.tolerate e).portU = s.portU := rfl
@[simp] theorem State.tolerate_portD (s : State) (e : Int) : (s.tolerate e).portD = s.portD := rfl
@[simp] theorem State.tolerate_pool (s : State) (e : Int) : (s.tolerate e).pool = s.pool := rfl
@[simp] theorem State.tolerate_table (s : State) (e : Int) : (s.tolerate e).table = s.table := rfl
@[simp] theorem State.tolerate_plans (s : State) (e : Int) : (s.tolerate e).plans = s.plans := rfl
@[simp] theorem State.tolerate_engine (s : State) (e : Int) : (s.tolerate e).engine = s.engine := rfl
@[simp] theorem State.tolerate_session (s : State) (e : Int) : (s.tolerate e).session = s.session := rfl
@[simp] theorem State.tolerate_notice (s : State) (e : Int) : (s.tolerate e).notice = s.notice := rfl

/-! ## State.markBeat -/

@[simp] theorem State.markBeat_pending (s : State) : s.markBeat.pending = s.pending := rfl
@[simp] theorem State.markBeat_freeCount (s : State) : s.markBeat.freeCount = s.freeCount := rfl
@[simp] theorem State.markBeat_resetHeld (s : State) : s.markBeat.resetHeld = s.resetHeld := rfl
@[simp] theorem State.markBeat_station (s : State) : s.markBeat.station = s.station := rfl
@[simp] theorem State.markBeat_localTime (s : State) : s.markBeat.localTime = s.localTime := rfl
@[simp] theorem State.markBeat_beat (s : State) : s.markBeat.beat = s.beat := rfl
@[simp] theorem State.markBeat_portU (s : State) : s.markBeat.portU = s.portU := rfl
@[simp] theorem State.markBeat_portD (s : State) : s.markBeat.portD = s.portD := rfl
@[simp] theorem State.markBeat_pool (s : State) : s.markBeat.pool = s.pool := rfl
@[simp] theorem State.markBeat_table (s : State) : s.markBeat.table = s.table := rfl
@[simp] theorem State.markBeat_plans (s : State) : s.markBeat.plans = s.plans := rfl
@[simp] theorem State.markBeat_engine (s : State) : s.markBeat.engine = s.engine := rfl
@[simp] theorem State.markBeat_session (s : State) : s.markBeat.session = s.session := rfl
@[simp] theorem State.markBeat_notice (s : State) : s.markBeat.notice = s.notice := rfl

/-! ## State.lock -/

@[simp] theorem State.lock_pending (s : State) : s.lock.pending = s.pending := rfl
@[simp] theorem State.lock_freeCount (s : State) : s.lock.freeCount = s.freeCount := rfl
@[simp] theorem State.lock_resetHeld (s : State) : s.lock.resetHeld = s.resetHeld := rfl
@[simp] theorem State.lock_station (s : State) : s.lock.station = s.station := rfl
@[simp] theorem State.lock_localTime (s : State) : s.lock.localTime = s.localTime := rfl
@[simp] theorem State.lock_portU (s : State) : s.lock.portU = s.portU := rfl
@[simp] theorem State.lock_portD (s : State) : s.lock.portD = s.portD := rfl
@[simp] theorem State.lock_pool (s : State) : s.lock.pool = s.pool := rfl
@[simp] theorem State.lock_table (s : State) : s.lock.table = s.table := rfl
@[simp] theorem State.lock_plans (s : State) : s.lock.plans = s.plans := rfl
@[simp] theorem State.lock_engine (s : State) : s.lock.engine = s.engine := rfl
@[simp] theorem State.lock_session (s : State) : s.lock.session = s.session := rfl
@[simp] theorem State.lock_notice (s : State) : s.lock.notice = s.notice := rfl

/-! ## State.storeReply -/

@[simp] theorem State.storeReply_pending (s : State) (r : Request) (b : List Byte) : (s.storeReply r b).pending = s.pending := rfl
@[simp] theorem State.storeReply_freeCount (s : State) (r : Request) (b : List Byte) : (s.storeReply r b).freeCount = s.freeCount := rfl
@[simp] theorem State.storeReply_resetHeld (s : State) (r : Request) (b : List Byte) : (s.storeReply r b).resetHeld = s.resetHeld := rfl
@[simp] theorem State.storeReply_station (s : State) (r : Request) (b : List Byte) : (s.storeReply r b).station = s.station := rfl
@[simp] theorem State.storeReply_localTime (s : State) (r : Request) (b : List Byte) : (s.storeReply r b).localTime = s.localTime := rfl
@[simp] theorem State.storeReply_timer (s : State) (r : Request) (b : List Byte) : (s.storeReply r b).timer = s.timer := rfl
@[simp] theorem State.storeReply_beat (s : State) (r : Request) (b : List Byte) : (s.storeReply r b).beat = s.beat := rfl
@[simp] theorem State.storeReply_portU (s : State) (r : Request) (b : List Byte) : (s.storeReply r b).portU = s.portU := rfl
@[simp] theorem State.storeReply_portD (s : State) (r : Request) (b : List Byte) : (s.storeReply r b).portD = s.portD := rfl
@[simp] theorem State.storeReply_pool (s : State) (r : Request) (b : List Byte) : (s.storeReply r b).pool = s.pool := rfl
@[simp] theorem State.storeReply_table (s : State) (r : Request) (b : List Byte) : (s.storeReply r b).table = s.table := rfl
@[simp] theorem State.storeReply_plans (s : State) (r : Request) (b : List Byte) : (s.storeReply r b).plans = s.plans := rfl
@[simp] theorem State.storeReply_session (s : State) (r : Request) (b : List Byte) : (s.storeReply r b).session = s.session := rfl
@[simp] theorem State.storeReply_notice (s : State) (r : Request) (b : List Byte) : (s.storeReply r b).notice = s.notice := rfl

/-! ## State.takeHead -/

@[simp] theorem State.takeHead_pending (s : State) (r : Request) (rest : List Request) : (s.takeHead r rest).pending = s.pending := rfl
@[simp] theorem State.takeHead_freeCount (s : State) (r : Request) (rest : List Request) : (s.takeHead r rest).freeCount = s.freeCount := rfl
@[simp] theorem State.takeHead_resetHeld (s : State) (r : Request) (rest : List Request) : (s.takeHead r rest).resetHeld = s.resetHeld := rfl
@[simp] theorem State.takeHead_station (s : State) (r : Request) (rest : List Request) : (s.takeHead r rest).station = s.station := rfl
@[simp] theorem State.takeHead_localTime (s : State) (r : Request) (rest : List Request) : (s.takeHead r rest).localTime = s.localTime := rfl
@[simp] theorem State.takeHead_timer (s : State) (r : Request) (rest : List Request) : (s.takeHead r rest).timer = s.timer := rfl
@[simp] theorem State.takeHead_beat (s : State) (r : Request) (rest : List Request) : (s.takeHead r rest).beat = s.beat := rfl
@[simp] theorem State.takeHead_portU (s : State) (r : Request) (rest : List Request) : (s.takeHead r rest).portU = s.portU := rfl
@[simp] theorem State.takeHead_portD (s : State) (r : Request) (rest : List Request) : (s.takeHead r rest).portD = s.portD := rfl
@[simp] theorem State.takeHead_table (s : State) (r : Request) (rest : List Request) : (s.takeHead r rest).table = s.table := rfl
@[simp] theorem State.takeHead_plans (s : State) (r : Request) (rest : List Request) : (s.takeHead r rest).plans = s.plans := rfl
@[simp] theorem State.takeHead_session (s : State) (r : Request) (rest : List Request) : (s.takeHead r rest).session = s.session := rfl
@[simp] theorem State.takeHead_notice (s : State) (r : Request) (rest : List Request) : (s.takeHead r rest).notice = s.notice := rfl

/-! ## State.tick -/

@[simp] theorem State.tick_pending (s : State) : s.tick.pending = s.pending := rfl
@[simp] theorem State.tick_freeCount (s : State) : s.tick.freeCount = s.freeCount := rfl
@[simp] theorem State.tick_resetHeld (s : State) : s.tick.resetHeld = s.resetHeld := rfl
@[simp] theorem State.tick_station (s : State) : s.tick.station = s.station := rfl
@[simp] theorem State.tick_timer (s : State) : s.tick.timer = s.timer := rfl
@[simp] theorem State.tick_beat (s : State) : s.tick.beat = s.beat := rfl
@[simp] theorem State.tick_portU (s : State) : s.tick.portU = s.portU := rfl
@[simp] theorem State.tick_portD (s : State) : s.tick.portD = s.portD := rfl
@[simp] theorem State.tick_pool (s : State) : s.tick.pool = s.pool := rfl
@[simp] theorem State.tick_table (s : State) : s.tick.table = s.table := rfl
@[simp] theorem State.tick_plans (s : State) : s.tick.plans = s.plans := rfl
@[simp] theorem State.tick_engine (s : State) : s.tick.engine = s.engine := rfl
@[simp] theorem State.tick_session (s : State) : s.tick.session = s.session := rfl
@[simp] theorem State.tick_notice (s : State) : s.tick.notice = s.notice := rfl

/-! ## The fields that the updates change -/

@[simp] theorem State.returnBlocks_pool (s : State) (n : Nat) : (s.returnBlocks n).pool = s.pool + n := rfl
@[simp] theorem State.countManagement_engine (s : State) (f : ManagementCounters → ManagementCounters) :
    (s.countManagement f).engine = { s.engine with counters := f s.engine.counters } := rfl
@[simp] theorem State.setEntry_table (s : State) (i : StreamIndex) (e : Option StreamEntry) :
    (s.setEntry i e).table = s.table.set i e := rfl
@[simp] theorem State.countBeat_beat (s : State) (f : BeatCounters → BeatCounters) :
    (s.countBeat f).beat = { s.beat with counters := f s.beat.counters } := rfl
@[simp] theorem State.markBeat_timer (s : State) : s.markBeat.timer = { s.timer with beatSeen := true } := rfl
@[simp] theorem State.listEvent_notice (s : State) (e : Event) :
    (s.listEvent e).notice = s.notice.judge e s.localTime s.timer.index := rfl
@[simp] theorem State.tick_localTime (s : State) : s.tick.localTime = s.localTime + 1 := rfl
@[simp] theorem State.takeHead_pool (s : State) (r : Request) (rest : List Request) :
    (s.takeHead r rest).pool = s.pool + r.blocks := rfl
@[simp] theorem State.takeHead_queue (s : State) (r : Request) (rest : List Request) :
    (s.takeHead r rest).engine.queue = rest := rfl
@[simp] theorem State.takeHead_state (s : State) (r : Request) (rest : List Request) :
    (s.takeHead r rest).engine.state = .executing := rfl
@[simp] theorem State.takeHead_memory (s : State) (r : Request) (rest : List Request) :
    (s.takeHead r rest).engine.memory = s.engine.memory := rfl

/-! ## Ports and queues -/

@[simp] theorem Port.other_other (p : Port) : p.other.other = p := by cases p <;> rfl
@[simp] theorem Port.other_ne (p : Port) : p.other ≠ p := by cases p <;> decide
@[simp] theorem State.port_u (s : State) : s.port .u = s.portU := rfl
@[simp] theorem State.port_d (s : State) : s.port .d = s.portD := rfl

@[simp] theorem State.modPort_port (s : State) (p : Port) (f : PortState → PortState) :
    (s.modPort p f).port p = f (s.port p) := by cases p <;> rfl
theorem State.modPort_port_ne (s : State) (p q : Port) (f : PortState → PortState) (h : q ≠ p) :
    (s.modPort p f).port q = s.port q := by cases p <;> cases q <;> first | rfl | contradiction
@[simp] theorem State.modPort_port_other (s : State) (p : Port) (f : PortState → PortState) :
    (s.modPort p f).port p.other = s.port p.other := by cases p <;> rfl

/-- A change of one queue of a port. -/
theorem State.modQueue_port (s : State) (p : Port) (q : QueueNo) (f : Queue → Queue) :
    (s.modQueue p q f).port p =
      { s.port p with queues := (s.port p).queues.set q (f (s.port p).queues[q]) } := by
  cases p <;> rfl
@[simp] theorem State.modQueue_queue (s : State) (p : Port) (q : QueueNo) (f : Queue → Queue) :
    (s.modQueue p q f).queue p q = f (s.queue p q) := by
  cases p <;> simp [State.queue, State.modQueue, State.modPort, State.port]
theorem State.modQueue_queue_ne (s : State) (p p' : Port) (q q' : QueueNo) (f : Queue → Queue)
    (h : p' ≠ p ∨ q' ≠ q) : (s.modQueue p q f).queue p' q' = s.queue p' q' := by
  have hv : q' ≠ q → q.val ≠ q'.val := fun h e => h (Fin.ext e.symm)
  cases p <;> cases p' <;>
    simp [State.queue, State.modQueue, State.modPort, State.port, Vector.getElem_set] at h ⊢ <;>
    (intro e; exact absurd e (hv h))

/-! ## The table -/

@[simp] theorem State.setEntry_entry (s : State) (i : StreamIndex) (e : Option StreamEntry) :
    (s.setEntry i e).entry i = e := by simp [State.entry, State.setEntry]
theorem State.setEntry_entry_ne (s : State) (i j : StreamIndex) (e : Option StreamEntry) (h : j ≠ i) :
    (s.setEntry i e).entry j = s.entry j := by
  have : i.val ≠ j.val := fun e => h (Fin.ext e.symm)
  simp [State.entry, State.setEntry, this]

end Sys2Proof.Machine
end

