-- ==== Sys2Proof/Laws/Sending.lean ====
section
/-! SUPPORT. The frame of everything that sends: for each shared operation that moves frames to a transmitter or a queue,
builds a notice or a reply, one lemma that says it leaves alone what `State.OnlySending` names. -/

namespace Sys2Proof.Machine

/-! ## The frame as a relation -/

theorem PortState.OnlySending.refl (P : PortState) : P.OnlySending P :=
  ⟨rfl, rfl, rfl, rfl, rfl, rfl, fun _ => rfl, fun _ => rfl⟩

theorem PortState.OnlySending.trans {P Q R : PortState} (h : P.OnlySending Q) (k : Q.OnlySending R) :
    P.OnlySending R where
  link := k.link.trans h.link
  pin := k.pin.trans h.pin
  receiver := k.receiver.trans h.receiver
  gate := k.gate.trans h.gate
  unlisted := k.unlisted.trans h.unlisted
  counters := k.counters.trans h.counters
  limit := fun q => (k.limit q).trans (h.limit q)
  ageLimit := fun q => (k.ageLimit q).trans (h.ageLimit q)

theorem State.OnlySending.refl (s : State) : s.OnlySending s :=
  ⟨rfl, rfl, rfl, rfl, rfl, rfl, rfl, rfl, rfl, rfl, rfl, rfl, rfl, .refl _, .refl _⟩

theorem State.OnlySending.trans {s t u : State} (h : s.OnlySending t) (k : t.OnlySending u) : s.OnlySending u where
  pending := k.pending.trans h.pending
  resetHeld := k.resetHeld.trans h.resetHeld
  station := k.station.trans h.station
  localTime := k.localTime.trans h.localTime
  timer := k.timer.trans h.timer
  beat := k.beat.trans h.beat
  table := k.table.trans h.table
  plans := k.plans.trans h.plans
  session := k.session.trans h.session
  requests := k.requests.trans h.requests
  memory := k.memory.trans h.memory
  settings := k.settings.trans h.settings
  destination := k.destination.trans h.destination
  portU := h.portU.trans k.portU
  portD := h.portD.trans k.portD

/-- The frame read at either port. -/
theorem State.OnlySending.port {s t : State} (h : s.OnlySending t) (p : Port) :
    (s.port p).OnlySending (t.port p) := by
  cases p
  · exact h.portU
  · exact h.portD

/-- A change of one port that only sends there only sends. -/
theorem State.modPort_onlySending (s : State) (p : Port) (f : PortState → PortState)
    (h : (s.port p).OnlySending (f (s.port p))) : s.OnlySending (s.modPort p f) := by
  cases p
  · exact ⟨rfl, rfl, rfl, rfl, rfl, rfl, rfl, rfl, rfl, rfl, rfl, rfl, rfl, h, .refl _⟩
  · exact ⟨rfl, rfl, rfl, rfl, rfl, rfl, rfl, rfl, rfl, rfl, rfl, rfl, rfl, .refl _, h⟩

/-- A change of a queue that keeps its two settings only sends. -/
theorem State.modQueue_onlySending (s : State) (p : Port) (q : QueueNo) (f : Queue → Queue)
    (hl : ∀ Q, (f Q).limit = Q.limit) (ha : ∀ Q, (f Q).ageLimit = Q.ageLimit) : s.OnlySending (s.modQueue p q f) := by
  refine State.modPort_onlySending s p _ ⟨rfl, rfl, rfl, rfl, rfl, rfl, fun k => ?_, fun k => ?_⟩
  · by_cases e : q.val = k.val <;> simp [e, hl]
  · by_cases e : q.val = k.val <;> simp [e, ha]

/-- A change of the pool only sends. -/
theorem State.pool_onlySending (s : State) (n : Nat) : s.OnlySending { s with pool := n } :=
  ⟨rfl, rfl, rfl, rfl, rfl, rfl, rfl, rfl, rfl, rfl, rfl, rfl, rfl, .refl _, .refl _⟩

theorem State.returnBlocks_onlySending (s : State) (n : Nat) : s.OnlySending (s.returnBlocks n) :=
  s.pool_onlySending _

/-- A granted taking changes the pool alone (R64). -/
theorem State.takeBlocks_onlySending {s t : State} {n : Nat} (h : s.takeBlocks n = some t) : s.OnlySending t := by
  unfold State.takeBlocks at h
  split at h
  · cases h; exact s.pool_onlySending _
  · cases h

theorem State.setTransmitter_onlySending (s : State) (p : Port) (x : Transmitter) :
    s.OnlySending (s.setTransmitter p x) :=
  State.modPort_onlySending s p _ ⟨rfl, rfl, rfl, rfl, rfl, rfl, fun _ => rfl, fun _ => rfl⟩

theorem State.countQueue_onlySending (s : State) (p : Port) (q : QueueNo) (f : QueueCounters → QueueCounters) :
    s.OnlySending (s.countQueue p q f) :=
  s.modQueue_onlySending p q _ (fun _ => rfl) (fun _ => rfl)

/-- A change of the engine that keeps its requests and its memory only sends. -/
theorem State.engine_onlySending (s : State) (e : Engine) (hq : e.queue = s.engine.queue)
    (hm : e.memory = s.engine.memory) : s.OnlySending { s with engine := e } :=
  ⟨rfl, rfl, rfl, rfl, rfl, rfl, rfl, rfl, rfl, hq, hm, rfl, rfl, .refl _, .refl _⟩

theorem State.countManagement_onlySending (s : State) (f : ManagementCounters → ManagementCounters) :
    s.OnlySending (s.countManagement f) :=
  s.engine_onlySending _ rfl rfl

/-- A change of the Notice Unit that keeps its settings and its destination only sends. -/
theorem State.notice_onlySending (s : State) (n : NoticeUnit) (hs : n.settings = s.notice.settings)
    (hd : n.destination = s.notice.destination) : s.OnlySending { s with notice := n } :=
  ⟨rfl, rfl, rfl, rfl, rfl, rfl, rfl, rfl, rfl, rfl, rfl, hs, hd, .refl _, .refl _⟩

/-! ## Selection and offers -/

theorem State.reportDeparture_onlySending (s : State) (o : Origin) : s.OnlySending (s.reportDeparture o) := by
  unfold State.reportDeparture
  split
  · exact s.engine_onlySending _ rfl rfl
  · exact .refl _

theorem State.sendHead_onlySending (s : State) (p : Port) (q : QueueNo) : s.OnlySending (s.sendHead p q) := by
  unfold State.sendHead
  split
  · exact .refl _
  · refine .trans (.trans ?_ (State.setTransmitter_onlySending _ _ _)) (State.reportDeparture_onlySending _ _)
    exact s.modQueue_onlySending p q _ (fun _ => rfl) (fun _ => rfl)

theorem State.trySelect_onlySending (s : State) (p : Port) : s.OnlySending (s.trySelect p) := by
  unfold State.trySelect
  split
  · split
    · exact s.sendHead_onlySending _ _
    · exact .refl _
  · exact .refl _

theorem State.admit_onlySending (s : State) (p : Port) (q : QueueNo) (f : Frame) (o : Origin) :
    s.OnlySending (s.enqueue p q f o) := by
  unfold State.enqueue
  dsimp only
  split
  · refine .trans ?_ (State.trySelect_onlySending _ _)
    exact s.modQueue_onlySending p q _ (fun _ => rfl) (fun _ => rfl)
  · exact s.modQueue_onlySending p q _ (fun _ => rfl) (fun _ => rfl)

theorem State.offer_onlySending (s : State) (p : Port) (q : QueueNo) (f : Frame) (o : Origin) :
    s.OnlySending (s.offer p q f o) := by
  unfold State.offer
  split
  · exact (s.returnBlocks_onlySending _).trans (State.countQueue_onlySending _ _ _ _)
  · exact ((s.returnBlocks_onlySending _).trans (State.countQueue_onlySending _ _ _ _)).trans
      (State.reportDeparture_onlySending _ _)
  · exact s.admit_onlySending _ _ _ _

/-! ## Notices -/

/-- Judging an event keeps the settings and the destination (R150). -/
theorem NoticeUnit.judge_settings (n : NoticeUnit) (e : Event) (now : Ticks) (index : CycleIndex) :
    (n.judge e now index).settings = n.settings ∧ (n.judge e now index).destination = n.destination := by
  unfold NoticeUnit.judge
  split
  · exact ⟨rfl, rfl⟩
  · split
    · exact ⟨rfl, rfl⟩
    · split <;> exact ⟨rfl, rfl⟩

theorem State.listEvent_onlySending (s : State) (e : Event) : s.OnlySending (s.listEvent e) :=
  s.notice_onlySending _ (NoticeUnit.judge_settings _ _ _ _).1 (NoticeUnit.judge_settings _ _ _ _).2

theorem State.offerNotice_onlySending (s : State) (p : Port) (f : Frame) : s.OnlySending (s.offerNotice p f) := by
  unfold State.offerNotice
  split
  · exact (s.offer_onlySending _ _ _ _).trans (State.listEvent_onlySending _ _)
  · exact s.offer_onlySending _ _ _ _

theorem State.firstSend_onlySending (s : State) (dest : Requester) (x : NoticeEntry) :
    s.OnlySending (s.firstSend dest x) := by
  unfold State.firstSend
  split
  · exact s.notice_onlySending _ rfl rfl
  · rename_i t h
    dsimp only
    refine .trans (.trans (State.takeBlocks_onlySending h) ?_) (State.offerNotice_onlySending _ _ _)
    exact t.notice_onlySending _ rfl rfl

theorem State.trySend_onlySending (s : State) : s.OnlySending s.trySend := by
  unfold State.trySend
  split
  · exact .refl _
  · split
    · split
      · exact s.firstSend_onlySending _ _
      · exact .refl _
    · exact .refl _

theorem State.raise_onlySending (s : State) (e : Event) : s.OnlySending (s.raise e) :=
  (s.listEvent_onlySending e).trans (State.trySend_onlySending _)

theorem State.offerFrame_onlySending (s : State) (p : Port) (q : QueueNo) (f : Frame) (o : Origin) :
    s.OnlySending (s.offerFrame p q f o) := by
  unfold State.offerFrame
  split
  · exact (s.offer_onlySending _ _ _ _).trans (State.raise_onlySending _ _)
  · exact s.offer_onlySending _ _ _ _

/-! ## Replies -/

theorem State.dropReply_onlySending (s : State) : s.OnlySending s.dropReply := by
  unfold State.dropReply
  dsimp only
  split
  · exact .trans (s.countManagement_onlySending _) (State.engine_onlySending _ _ rfl rfl)
  · exact s.countManagement_onlySending _

theorem State.sendReply_onlySending (s : State) (r : Request) (payload : List Byte) :
    s.OnlySending (s.sendReply r payload) := by
  unfold State.sendReply
  dsimp only
  split
  · exact s.dropReply_onlySending
  · split
    · exact s.dropReply_onlySending
    · rename_i t h
      exact ((State.takeBlocks_onlySending h).trans (t.countManagement_onlySending _)).trans
        (State.offerFrame_onlySending _ _ _ _ _)

/-! ## The engine's state and counters through what sends -/

/-- A departure report outside RESETTING changes nothing (R126). -/
theorem State.reportDeparture_eq (s : State) (o : Origin) (h : s.engine.state ≠ .resetting) :
    s.reportDeparture o = s := by
  simp [State.reportDeparture, h]

/-- What does not report departures leaves the engine alone: the engine after a change of a port. -/
theorem State.sendHead_engine (s : State) (p : Port) (q : QueueNo) (h : s.engine.state ≠ .resetting) :
    (s.sendHead p q).engine = s.engine := by
  unfold State.sendHead
  split
  · rfl
  · rw [State.reportDeparture_eq _ _ (by simpa using h)]; simp

theorem State.trySelect_engine (s : State) (p : Port) (h : s.engine.state ≠ .resetting) :
    (s.trySelect p).engine = s.engine := by
  unfold State.trySelect
  split
  · split
    · exact s.sendHead_engine _ _ h
    · rfl
  · rfl

theorem State.admit_engine (s : State) (p : Port) (q : QueueNo) (f : Frame) (o : Origin)
    (h : s.engine.state ≠ .resetting) : (s.enqueue p q f o).engine = s.engine := by
  unfold State.enqueue
  dsimp only
  split
  · rw [State.trySelect_engine _ _ (by simpa using h)]; simp
  · simp

theorem State.offer_engine (s : State) (p : Port) (q : QueueNo) (f : Frame) (o : Origin)
    (h : s.engine.state ≠ .resetting) : (s.offer p q f o).engine = s.engine := by
  unfold State.offer
  split
  · simp
  · rw [State.reportDeparture_eq _ _ (by simpa using h)]; simp
  · exact s.admit_engine _ _ _ _ h

theorem State.offerNotice_engine (s : State) (p : Port) (f : Frame) (h : s.engine.state ≠ .resetting) :
    (s.offerNotice p f).engine = s.engine := by
  unfold State.offerNotice
  split
  · simpa using s.offer_engine _ _ _ _ h
  · exact s.offer_engine _ _ _ _ h

theorem State.firstSend_engine (s : State) (dest : Requester) (x : NoticeEntry) (h : s.engine.state ≠ .resetting) :
    (s.firstSend dest x).engine = s.engine := by
  unfold State.firstSend State.takeBlocks
  split
  · rfl
  · rename_i t ht
    split at ht
    · cases ht
      exact State.offerNotice_engine _ _ _ h
    · cases ht

theorem State.trySend_engine (s : State) (h : s.engine.state ≠ .resetting) : s.trySend.engine = s.engine := by
  unfold State.trySend
  split
  · rfl
  · split
    · split
      · exact s.firstSend_engine _ _ h
      · rfl
    · rfl

theorem State.raise_engine (s : State) (e : Event) (h : s.engine.state ≠ .resetting) :
    (s.raise e).engine = s.engine :=
  State.trySend_engine _ (by simpa using h)

theorem State.offerFrame_engine (s : State) (p : Port) (q : QueueNo) (f : Frame) (o : Origin)
    (h : s.engine.state ≠ .resetting) : (s.offerFrame p q f o).engine = s.engine := by
  unfold State.offerFrame
  split
  · rw [State.raise_engine _ _ (by rw [s.offer_engine _ _ _ _ h]; exact h), s.offer_engine _ _ _ _ h]
  · exact s.offer_engine _ _ _ _ h

end Sys2Proof.Machine
end

