-- ==== Sys2Proof/Laws/Takes.lean ====
section
/-! SUPPORT. The take of a request (R120, R121): what the shared operations of the Management Engine do, once for all
requests. -/

namespace Sys2Proof.Machine

/-! ## Events -/

/-- While no cold reset is held, an event is its effect, settled. -/
theorem runEvent_running (s : State) (effect : State → State) (h : s.resetHeld = false) :
    runEvent s effect = .next (effect s).settle := by
  simp [runEvent, h]

/-- While a cold reset is held, no event happens (log entry 6). -/
theorem runEvent_held (s : State) (effect : State → State) (h : s.resetHeld = true) : runEvent s effect = .next s := by
  simp [runEvent, h]

/-- An event that leaves no unit reset due ends where its effect ends. -/
theorem State.settle_eq (s : State) (h : s.engine.state ≠ .resetDue) : s.settle = s := by simp [State.settle, h]

/-- An event that leaves a unit reset due performs it at its end (R132). -/
theorem State.settle_due (s : State) (h : s.engine.state = .resetDue) : s.settle = s.unitReset := by
  simp [State.settle, h]

/-! ## Lease renewal (R138) -/

/-- A renewal changes the session alone. -/
theorem State.renewLease_eq (s : State) (q : Requester) :
    s.renewLease q = { s with session := (s.renewLease q).session } := by
  unfold State.renewLease
  split
  · split <;> rfl
  · rfl

@[simp] theorem State.renewLease_engine (s : State) (q : Requester) : (s.renewLease q).engine = s.engine := by
  rw [State.renewLease_eq]
@[simp] theorem State.renewLease_pool (s : State) (q : Requester) : (s.renewLease q).pool = s.pool := by
  rw [State.renewLease_eq]
@[simp] theorem State.renewLease_notice (s : State) (q : Requester) : (s.renewLease q).notice = s.notice := by
  rw [State.renewLease_eq]
@[simp] theorem State.renewLease_portU (s : State) (q : Requester) : (s.renewLease q).portU = s.portU := by
  rw [State.renewLease_eq]
@[simp] theorem State.renewLease_portD (s : State) (q : Requester) : (s.renewLease q).portD = s.portD := by
  rw [State.renewLease_eq]
@[simp] theorem State.renewLease_table (s : State) (q : Requester) : (s.renewLease q).table = s.table := by
  rw [State.renewLease_eq]
@[simp] theorem State.renewLease_plans (s : State) (q : Requester) : (s.renewLease q).plans = s.plans := by
  rw [State.renewLease_eq]
@[simp] theorem State.renewLease_beat (s : State) (q : Requester) : (s.renewLease q).beat = s.beat := by
  rw [State.renewLease_eq]
@[simp] theorem State.renewLease_timer (s : State) (q : Requester) : (s.renewLease q).timer = s.timer := by
  rw [State.renewLease_eq]
@[simp] theorem State.renewLease_localTime (s : State) (q : Requester) : (s.renewLease q).localTime = s.localTime := by
  rw [State.renewLease_eq]
@[simp] theorem State.renewLease_station (s : State) (q : Requester) : (s.renewLease q).station = s.station := by
  rw [State.renewLease_eq]
@[simp] theorem State.renewLease_resetHeld (s : State) (q : Requester) : (s.renewLease q).resetHeld = s.resetHeld := by
  rw [State.renewLease_eq]
@[simp] theorem State.renewLease_pending (s : State) (q : Requester) : (s.renewLease q).pending = s.pending := by
  rw [State.renewLease_eq]

/-- A renewal keeps the holder. -/
theorem State.renewLease_holder (s : State) (q : Requester) :
    (s.renewLease q).session.map Session.holder = s.session.map Session.holder := by
  unfold State.renewLease
  split
  · rename_i x h
    split <;> simp [h]
  · rfl

@[simp] theorem State.atStep6_state (s : State) (r : Request) (rest : List Request) :
    (s.atStep6 r rest).engine.state = .executing := by
  simp [State.atStep6]

/-! ## The answer (R125) -/

/-- A dropped reply outside RESETTING is a count. -/
theorem State.dropReply_eq (s : State) (h : s.engine.state ≠ .resetting) :
    s.dropReply = s.countManagement fun c => { c with replyDropped := countUp c.replyDropped } := by
  simp [State.dropReply, h]

/-- The engine after a reply has been sent outside RESETTING: one count, of a built or of a dropped reply. -/
theorem State.sendReply_engine (s : State) (r : Request) (payload : List Byte) (h : s.engine.state ≠ .resetting) :
    (s.sendReply r payload).engine =
      { s.engine with counters := s.engine.counters.replied (s.canReply r payload) } := by
  unfold State.sendReply State.canReply State.takeBlocks
  dsimp only
  by_cases hd : (s.port r.requester.port).link = .down
  · simp [hd, State.dropReply_eq s h, ManagementCounters.replied]
  · have hu : (s.port r.requester.port).link = .up := by
      revert hd; cases (s.port r.requester.port).link <;> simp
    by_cases hp : (s.replyFrame r payload).blocks ≤ s.pool
    · rw [if_neg hd]
      simp only [hu, hp, if_true]
      rw [State.offerFrame_engine _ _ _ _ _ (by simpa using h)]
      simp [ManagementCounters.replied]
    · simp [hu, hp, State.dropReply_eq s h, ManagementCounters.replied]

theorem State.endTake_executing (s : State) (h : s.engine.state = .executing) :
    s.endTake = { s with engine := { s.engine with state := .idle } } := by
  simp [State.endTake, h]

/-- A reply whose frame is not built, outside RESETTING, is a count. -/
theorem State.sendReply_dropped (s : State) (r : Request) (payload : List Byte) (h : s.engine.state ≠ .resetting)
    (hc : s.canReply r payload = false) :
    s.sendReply r payload = s.countManagement fun c => { c with replyDropped := countUp c.replyDropped } := by
  unfold State.sendReply State.takeBlocks
  dsimp only
  by_cases hd : (s.port r.requester.port).link = .down
  · simp [hd, State.dropReply_eq s h]
  · have hu : (s.port r.requester.port).link = .up := by
      revert hd; cases (s.port r.requester.port).link <;> simp
    have hp : ¬ (s.replyFrame r payload).blocks ≤ s.pool := by
      simpa [State.canReply, hu] using hc
    simp [hu, hp, State.dropReply_eq s h]

/-- An admission at a queue whose port is not IDLE only enqueues. -/
theorem State.offerFrame_busy (s : State) (p : Port) (q : QueueNo) (f : Frame) (o : Origin)
    (hl : (s.port p).link = .up) (ht : (s.port p).transmitter ≠ .idle)
    (hb : (s.queue p q).blocks + f.blocks ≤ (s.queue p q).limit) :
    s.offerFrame p q f o = s.modQueue p q fun Q => Q.enqueued f s.timer.index o := by
  have hj : s.judgeOffer p q f = .admitted := by
    unfold State.judgeOffer
    rw [if_neg (by simp [hl]), if_neg (by omega)]
  have hs : ∀ t : State, t.port p = { s.port p with queues := (t.port p).queues } → t.trySelect p = t := by
    intro t h
    unfold State.trySelect State.canSend
    rw [if_neg]
    rw [h]; simp [ht]
  unfold State.offerFrame State.offer State.enqueue
  rw [hj]
  simp only [reduceCtorEq, if_false]
  rw [hs]
  · exact ite_self _
  · cases p <;> rfl

/-- A reply built in EXECUTING takes its blocks, is counted, and is offered to Q3 of its port (R125). -/
theorem State.sendReply_built (u : State) (r : Request) (payload : List Byte) (h : u.engine.state = .executing)
    (hc : u.canReply r payload = true) :
    u.sendReply r payload =
      (({ u with pool := u.pool - (u.replyFrame r payload).blocks } : State).countManagement fun c =>
        c.replied true).offerFrame r.requester.port 3 (u.replyFrame r payload) (.reply false) := by
  have hc' : (u.port r.requester.port).link = .up ∧ (u.replyFrame r payload).blocks ≤ u.pool := by
    simpa [State.canReply] using hc
  unfold State.sendReply State.takeBlocks
  simp [hc'.1, hc'.2, h]
  rfl

/-- A reply sent in EXECUTING, to the end of the take (R125). -/
theorem State.sendReply_replied (u : State) (r : Request) (payload : List Byte) (h : u.engine.state = .executing) :
    u.Replied r payload ((u.sendReply r payload).endTake) := by
  have hr : u.engine.state ≠ .resetting := by rw [h]; decide
  have he := State.sendReply_engine u r payload hr
  have hx : (u.sendReply r payload).engine.state = .executing := by rw [he]; exact h
  rw [State.endTake_executing _ hx]
  refine ⟨(State.sendReply_onlySending _ _ _).trans (State.engine_onlySending _ _ rfl rfl), rfl, ?_, ?_, ?_, ?_⟩
  · show (u.sendReply r payload).engine.counters = _
    rw [he]
  · intro hc
    rw [State.sendReply_dropped u r payload hr hc]
    rfl
  · rintro hc w rfl
    rw [State.sendReply_built u r payload h hc]
  · intro hc ht hb
    have hp : ∀ (c : ManagementCounters → ManagementCounters) (n : Nat) (p : Port),
        (({ u with pool := n } : State).countManagement c).port p = u.port p := by
      intro c n p; cases p <;> rfl
    have hl : (u.port r.requester.port).link = .up := by
      simp only [State.canReply, Bool.and_eq_true, beq_iff_eq] at hc
      exact hc.1
    rw [State.sendReply_built u r payload h hc, State.offerFrame_busy]
    · cases r.requester.port <;> simp [State.modQueue, State.modPort, State.replied, State.countManagement,
        ManagementCounters.replied]
    · rw [hp]; exact hl
    · rw [hp]; exact ht
    · unfold State.queue at hb ⊢
      rw [hp]; exact hb

/-- An answer given in EXECUTING, to the end of the take (R125). -/
theorem State.answer_answered (u : State) (r : Request) (a : Answer) (h : u.engine.state = .executing) :
    u.Answered r a.status a.results ((u.answer r a).endTake) :=
  State.sendReply_replied (u.storeReply r (replyPayload r a)) r (replyPayload r a) h

/-! ## The take -/

/-- A request that passes steps 1 to 5 is passed on to step 6. -/
theorem State.Taking.screened {s : State} {o : Op} {r : Request} {rest : List Request} (h : s.Taking o r rest) :
    (s.takeHead r rest).screen (Op.ofCode r.op) r = .passed := by
  have hf : s.engine.memory.find? (fun m => m.answers r) = none := by
    rw [List.find?_eq_none]; intro m hm; simp [h.fresh m hm]
  have hh : (s.takeHead r rest).isHolder r.requester = s.isHolder r.requester := rfl
  have hb : (r.isBroadcast && some o != some .identify) = false := by
    cases hb : r.isBroadcast
    · rfl
    · simp [h.unicast hb]
  unfold State.screen
  rw [h.code]
  simp only [hb, Bool.false_eq_true, if_false, State.takeHead_memory, hf, h.length, Bool.not_true, hh]
  cases hn : o.needsSession r.operands
  · simp
  · simp [h.holder hn]

/-- The take of a request that passes: step 6, the answer, and the return to IDLE, all in the one event (R120, R124). -/
theorem State.Taking.event {s u : State} {o : Op} {r : Request} {rest : List Request} {a : Answer}
    {serve : Request → State → Served} (h : s.Taking o r rest) (hs : serve r (s.atStep6 r rest) = (u, some a))
    (hu : u.engine.state = .executing) :
    ∃ t, runEvent s (fun s => s.takeRequest (some o) serve) = .next t ∧ u.Answered r a.status a.results t := by
  have ht : s.takeRequest (some o) serve = (u.answer r a).endTake := by
    have hs' : serve r ((s.takeHead r rest).renewLease r.requester) = (u, some a) := hs
    have hc := h.screened
    rw [h.code] at hc
    unfold State.takeRequest
    rw [h.idle, h.head]
    simp only [h.code, if_true]
    unfold State.handle
    rw [hc]
    simp only [hs']
  refine ⟨(u.answer r a).endTake, ?_, u.answer_answered r a hu⟩
  rw [runEvent_running _ _ h.running]
  rw [ht, State.settle_eq _ (by rw [(u.answer_answered r a hu).idle]; decide)]

end Sys2Proof.Machine
end

