-- ==== Sys2Proof/Laws/Ops.lean ====
section
/-! SUPPORT. For each shared operation, what it can do, said once: free orders, cycle starts, the pool, offers,
selections, accepted frames, the notice list, timed events, the reply memory, takes and the step. -/

namespace Sys2Proof.Machine

/-! ## Free orders (log entry 1) -/

/-- Drawing changes the draw count alone. -/
theorem State.draw_snd (s : State) : s.draw.2 = { s with freeCount := s.freeCount + 1 } := rfl

/-- What holds after either order holds after the drawn one. -/
theorem eitherOrder_preserves {P : State → Prop} {f g : State → State} {s : State}
    (hfg : P (g (f s.draw.2))) (hgf : P (f (g s.draw.2))) : P (eitherOrder f g s) := by
  unfold eitherOrder
  split <;> assumption

/-- A law that drawing and each item keep is kept by the items in any order. -/
theorem inAnyOrder_preserves {α : Type} {P : State → Prop} {run : α → State → State}
    (hdraw : ∀ s, P s → P s.draw.2) (hrun : ∀ w s, P s → P (run w s)) (l : List α) (s : State) (h : P s) :
    P (inAnyOrder run l s) := by
  have hfold : ∀ (l : List α) (s : State), P s → P (l.foldl (fun s w => run w s) s) := by
    intro l
    induction l with
    | nil => exact fun s h => h
    | cons w ws ih => exact fun s h => ih _ (hrun w s h)
  match l with
  | [] => exact h
  | [w] => exact hrun w s h
  | w :: v :: ws => exact hfold _ _ (hdraw s h)

/-- Inserting an item adds it and nothing else. -/
theorem insertAt_perm {α : Type} (n : Nat) (x : α) (l : List α) : (insertAt n x l).Perm (x :: l) := by
  induction l generalizing n with
  | nil => cases n <;> exact .refl _
  | cons y ys ih =>
    cases n with
    | zero => exact .refl _
    | succ n => exact ((ih n).cons y).trans (.swap x y ys)

/-- Every order that a number names holds the same items. -/
theorem shuffle_perm {α : Type} (n : Nat) (l : List α) : (shuffle n l).Perm l := by
  induction l generalizing n with
  | nil => exact .refl _
  | cons x xs ih => exact (insertAt_perm _ _ _).trans ((ih _).cons x)

/-- The items at and after a position, as `insertAt` counts positions. -/
theorem insertAt_length {α : Type} (x : α) (l r : List α) : insertAt l.length x (l ++ r) = l ++ x :: r := by
  induction l with
  | nil => cases r <;> rfl
  | cons y ys ih => simp [insertAt, ih]

/-- Every order of a list is some number's. -/
theorem shuffle_surjective {α : Type} {l m : List α} (h : m.Perm l) : ∃ n, shuffle n l = m := by
  induction l generalizing m with
  | nil => exact ⟨0, (List.Perm.eq_nil h).symm⟩
  | cons x xs ih =>
    obtain ⟨a, b, rfl⟩ := List.append_of_mem (h.symm.subset (List.mem_cons_self))
    obtain ⟨n, hn⟩ := ih ((List.perm_middle.symm.trans h).cons_inv)
    have hl : a.length < xs.length + 1 := by
      have := (List.perm_middle.symm.trans h).cons_inv.length_eq
      simp at this; omega
    refine ⟨a.length + n * (xs.length + 1), ?_⟩
    have h1 : (a.length + n * (xs.length + 1)) % (xs.length + 1) = a.length := by
      rw [Nat.add_mul_mod_self_right, Nat.mod_eq_of_lt hl]
    have h2 : (a.length + n * (xs.length + 1)) / (xs.length + 1) = n := by
      rw [Nat.add_mul_div_right _ _ (Nat.succ_pos _), Nat.div_eq_of_lt hl, Nat.zero_add]
    simp only [shuffle, h1, h2, hn]
    exact insertAt_length x a b

/-- Two things done in the drawn order are done in one of the two orders. -/
theorem eitherOrder_spec (f g : State → State) (s : State) : s.EitherOrder f g (eitherOrder f g s) := by
  unfold eitherOrder
  split
  · exact .inl rfl
  · exact .inr rfl

/-- Different things done in a drawn order are each done once. -/
theorem inAnyOrder_spec {l : List Work} (hl : l.Nodup) (s : State) :
    s.EachDone (· ∈ l) (inAnyOrder runWork l s) := by
  match l with
  | [] => exact ⟨_, [], .inl rfl, .nil, fun _ => .rfl, rfl⟩
  | [w] => exact ⟨_, [w], .inl rfl, hl, fun _ => .rfl, rfl⟩
  | w :: v :: ws =>
    exact ⟨_, _, .inr rfl, (shuffle_perm _ _).nodup_iff.mpr hl, fun _ => (shuffle_perm _ _).mem_iff, rfl⟩

/-! ## Cycle starts -/

/-- No cycle start leaves the same thing to be done twice. -/
theorem cycleWork_nodup (s : State) (realign : Bool) : (cycleWork s realign ++ [Work.raise .beatLocked]).Nodup := by
  have hif : ∀ (b : Bool) (w : Work), (if b then [w] else []).Sublist [w] := by
    intro b w
    cases b <;> simp
  have hage : ∀ p, (ageWork s p).Sublist ([0, 1, 2, 3].map (Work.age p)) := fun p => List.filter_sublist.map _
  have hover : (if realign then overrunWork s .u ++ overrunWork s .d else []).Sublist
      ([.raise (.gateOverrun .u)] ++ [.raise (.gateOverrun .d)]) := by
    cases realign
    · simp
    · exact (hif _ _).append (hif _ _)
  refine List.Nodup.sublist
    (((((((hif _ _).append (hif _ _)).append hover).append (hage .u)).append (hage .d)).append (hif _ _)).append
      (hif _ _) |>.append (List.Sublist.refl _)) ?_
  decide

/-- A queue is aged exactly if it has an age limit. -/
theorem mem_ageWork (s : State) (p : Port) (w : Work) : w ∈ ageWork s p ↔ ∃ q, w = .age p q ∧ 1 ≤ (s.queue p q).ageLimit := by
  unfold ageWork
  constructor
  · intro h
    obtain ⟨q, hq, rfl⟩ := List.mem_map.mp h
    have := (List.mem_filter.mp hq).2
    exact ⟨q, rfl, by simp at this; omega⟩
  · rintro ⟨q, rfl, hq⟩
    refine List.mem_map.mpr ⟨q, List.mem_filter.mpr ⟨by clear hq; revert q; decide, ?_⟩, rfl⟩
    simp; omega

/-- A statement about some port is one about U or about D. -/
theorem exists_port {P : Port → Prop} : (∃ p, P p) ↔ P .u ∨ P .d :=
  ⟨fun ⟨p, h⟩ => by cases p <;> simp [h], fun h => h.elim (⟨_, ·⟩) (⟨_, ·⟩)⟩

/-- What a scheduled cycle start leaves to be done. -/
theorem mem_cycleWork_scheduled (s : State) (w : Work) :
    w ∈ cycleWork s false ↔ s.StartBrings w ∨ w = .raise .beatLost ∧ s.lostByMiss false = true := by
  simp only [cycleWork, List.mem_append, mem_ageWork, selectWork, State.StartBrings, State.canSend, exists_port,
    List.mem_ite_nil_right, List.mem_singleton, Bool.false_eq_true, if_false, List.not_mem_nil, Bool.and_eq_true,
    beq_iff_eq]
  grind

/-- What a realign leaves to be done. -/
theorem mem_cycleWork_realign (s : State) (w : Work) : w ∈ cycleWork s true ↔ s.RealignBrings w := by
  simp only [cycleWork, List.mem_append, mem_ageWork, selectWork, overrunWork, State.RealignBrings, State.StartBrings,
    State.canSend, State.lostByMiss, PortState.isSending, exists_port, List.mem_ite_nil_right, List.mem_singleton,
    Bool.false_eq_true, if_true, Bool.and_eq_true, Bool.not_true, Bool.and_false, Bool.false_and, false_and, or_false,
    beq_iff_eq, bne_iff_ne, ne_eq]
  grind
/-! ## The pool (R64) -/

/-- A taking is granted whole or refused whole. -/
theorem State.takeBlocks_spec (s : State) (n : Nat) :
    (n ≤ s.pool ∧ s.takeBlocks n = some { s with pool := s.pool - n }) ∨ (s.pool < n ∧ s.takeBlocks n = none) := by
  unfold State.takeBlocks
  by_cases h : n ≤ s.pool
  · exact .inl ⟨h, if_pos h⟩
  · exact .inr ⟨by omega, if_neg h⟩

/-! ## Offers (R69) -/

/-- An offer is judged by the link of the port first and the limit of the queue second. -/
theorem State.judgeOffer_spec (s : State) (p : Port) (q : QueueNo) (f : Frame) :
    ((s.port p).link = .down ∧ s.judgeOffer p q f = .egressDown)
      ∨ ((s.port p).link ≠ .down ∧ (s.queue p q).limit < (s.queue p q).blocks + f.blocks
          ∧ s.judgeOffer p q f = .full)
      ∨ ((s.port p).link ≠ .down ∧ (s.queue p q).blocks + f.blocks ≤ (s.queue p q).limit
          ∧ s.judgeOffer p q f = .admitted) := by
  unfold State.judgeOffer
  by_cases h : (s.port p).link = .down
  · exact .inl ⟨h, if_pos h⟩
  · by_cases k : (s.queue p q).limit < (s.queue p q).blocks + f.blocks
    · exact .inr (.inl ⟨h, k, by rw [if_neg h, if_pos k]⟩)
    · exact .inr (.inr ⟨h, by omega, by rw [if_neg h, if_neg k]⟩)

/-! ## Selection (R113, R114) -/

/-- A selection hands over the head of a queue that is open and fits, at an IDLE transmitter of an UP port; otherwise
it changes nothing. -/
theorem State.trySelect_spec (s : State) (p : Port) :
    s.trySelect p = s
      ∨ ∃ q f rest, s.canSend p = true ∧ s.headFits p q = true ∧ (s.queue p q).frames = f :: rest
          ∧ s.trySelect p = s.sendHead p q := by
  unfold State.trySelect
  by_cases hc : s.canSend p = true
  · rw [if_pos hc]
    cases hs : s.selected p with
    | none => exact .inl rfl
    | some q =>
      have hq : s.headFits p q = true := List.find?_some hs
      cases hf : (s.queue p q).frames with
      | nil => simp [State.headFits, hf] at hq
      | cons f rest => exact .inr ⟨q, f, rest, hc, hq, hf, rfl⟩
  · exact .inl (if_neg hc)

/-! ## Accepted frames (R10) -/

/-- The end of an accepted frame routes it, as it arrives at local time, from the receiver that is IDLE again. -/
theorem State.Accepting.event {s : State} {p : Port} {bytes : List Byte} {f : Frame} (h : s.Accepting p bytes f) :
    exec (.endOfFrame p bytes) s = .next ((s.received p).route p f s.localTime).settle := by
  obtain ⟨old, hr, he, hj⟩ := h.receiving
  simp only [exec, execEndOfFrame]
  rw [runEvent_running s _ h.plain.running]
  simp only [State.endFrame, hr, he, if_true, State.endReception, hj]
  congr 3
  cases p <;> rfl

/-! ## The notice list (R150, R153, R156) -/

/-- Only the first entry that the test picks is changed. -/
theorem changeFirst_append {test : NoticeEntry → Bool} {f : NoticeEntry → NoticeEntry} {before after : List NoticeEntry}
    {x : NoticeEntry} (hb : ∀ y ∈ before, test y = false) (hx : test x = true) :
    changeFirst test f (before ++ x :: after) = before ++ f x :: after := by
  induction before with
  | nil => simp [changeFirst, hx]
  | cons y ys ih =>
    simp [changeFirst, hb y (List.mem_cons_self), ih fun z hz => hb z (List.mem_cons_of_mem _ hz)]

/-- A field has its number of bytes. -/
theorem beBytes_length (n v : Nat) : (beBytes n v).length = n := by
  induction n generalizing v with
  | zero => rfl
  | succ n ih => simp [beBytes, ih]

/-- A NOTICE frame has 20 payload bytes and holds one block (R154, R19). -/
theorem noticeFrame_blocks (s : State) (station : Half) (x : NoticeEntry) (number : Half) :
    (s.noticeFrame station x number).blocks = noticeBlocks := by
  have hs : x.event.subject.length = 2 := by cases x.event <;> simp [Event.subject, beBytes_length]
  have hl : (noticePayload x number s.notice.lostFlag).length = 20 := by simp [noticePayload, beBytes_length, hs]
  simp [State.noticeFrame, builtFrame, Frame.blocks, Frame.size, hl]
  decide

/-! ## Timed events (log entry 5) -/

/-- An event of a timer happens with local time at its deadline or later, if no other deadline is earlier. -/
theorem State.whenReached_spec (s : State) (due : Option Ticks) (effect : State → State) :
    (∃ t, due = some t ∧ (∀ d ∈ s.deadlines, t ≤ d)
        ∧ s.whenReached due effect = effect { s with localTime := max s.localTime t })
      ∨ s.whenReached due effect = s := by
  unfold State.whenReached
  cases due with
  | none => exact .inr rfl
  | some t =>
    dsimp only
    by_cases h : s.deadlines.all (t ≤ ·) = true
    · exact .inl ⟨t, rfl, by simpa using h, if_pos h⟩
    · exact .inr (if_neg h)

/-! ## The reply memory (R127) -/

/-- The stored entry is the newest, and the only one of its requester. -/
theorem storeEntry_spec (l : List MemoryEntry) (m : MemoryEntry) :
    ∃ kept, storeEntry l m = kept ++ [m] ∧ kept.Sublist l ∧ ∀ x ∈ kept, x.requester ≠ m.requester := by
  refine ⟨_, rfl, ?_, ?_⟩
  · split
    · exact List.filter_sublist
    · exact (List.drop_sublist _ _).trans List.filter_sublist
  · intro x hx
    have : x ∈ l.filter fun x => x.requester != m.requester := by
      split at hx
      · exact hx
      · exact List.mem_of_mem_drop hx
    simpa using (List.mem_filter.mp this).2

/-! ## Takes (R120) -/

/-- The command of a request's take is the take of that request. -/
theorem exec_takeInstr (o : Option Op) (s : State) :
    exec (takeInstr o) s = runEvent s fun s => s.takeRequest o (serveOf o) := by
  rcases o with _ | o
  · rfl
  · cases o <;> rfl

/-! ## The step -/

/-- A step takes the command at the front of the queue; on an empty queue the device acts by itself. -/
theorem step_spec (s : State) :
    (∃ i rest, s.pending = i :: rest ∧ step s = exec i { s with pending := rest }) ∨ (s.pending = [] ∧ step s = idle s) := by
  unfold step
  cases h : s.pending with
  | nil => exact .inr ⟨rfl, rfl⟩
  | cons i rest => exact .inl ⟨i, rest, rfl, rfl⟩

/-- An idle step is a command's event, a tick, or nothing while a cold reset is held (log entry 4). -/
theorem idle_spec (s : State) :
    idle s = .next s ∨ idle s = .next s.tick ∨ idle s = .next s.draw.2.tick
      ∨ ∃ i, idle s = exec i s ∨ idle s = exec i s.draw.2 := by
  unfold idle
  split
  · exact .inl rfl
  · split
    · rename_i x _
      cases x with
      | none => exact .inr (.inl rfl)
      | some i => exact .inr (.inr (.inr ⟨i, .inl rfl⟩))
    · generalize s.options.getD _ _ = x
      cases x with
      | none => exact .inr (.inr (.inl rfl))
      | some i => exact .inr (.inr (.inr ⟨i, .inr rfl⟩))

end Sys2Proof.Machine
end

