-- ==== Sys2Proof/WellFormed.lean ====
section
/-! DEFINITION. Which commands are well formed: the byte counts that the reception events can carry (R6 to R10, R19).
Between two reception events of one port lie at most 256 bytes, because every 256th byte is followed by a block
boundary. -/

namespace Sys2Proof

/-- A command is well formed when the bytes it carries can stand between two reception events: the 12 header bytes
at header completion; 245 bytes (the first boundary) or 256 bytes (a later one) at a block boundary; at least the
surplus byte and at most 256 bytes at a surplus byte; at most 255 bytes at the end of the frame. -/
def Instr.wf : Instr → Bool
  | .headerCompletion _ bytes => bytes.length == 12
  | .blockBoundary _ bytes => bytes.length == 245 || bytes.length == 256
  | .surplusByte _ bytes => 1 ≤ bytes.length && bytes.length ≤ 256
  | .endOfFrame _ bytes => bytes.length ≤ 255
  | .coldReset _ => true
  | .resetNAsserted => true
  | .linkUp _ => true
  | .linkDown _ => true
  | .frameStart _ => true
  | .transmissionCompletion _ => true
  | .scheduledCycleStart => true
  | .windowChange _ => true
  | .leaseExpiry => true
  | .retryTimerExpiry => true
  | .purgeVisit => true
  | .identify => true
  | .unitReset => true
  | .sessionOpen => true
  | .sessionKeep => true
  | .sessionClose => true
  | .streamWrite => true
  | .streamClear => true
  | .streamState => true
  | .streamRead => true
  | .streamFind => true
  | .streamPurge => true
  | .unlistedSet => true
  | .streamReset => true
  | .queueSet => true
  | .queueRead => true
  | .beatSet => true
  | .timeRead => true
  | .planHeader => true
  | .planWindows => true
  | .planRead => true
  | .planRevert => true
  | .planCommit => true
  | .planCancel => true
  | .noticeSet => true
  | .noticeRead => true
  | .counterRead => true
  | .unknownRequest => true

end Sys2Proof
end

