-- ==== Sys2Proof/Tests/Slice0.lean ====
section
/-! SUPPORT. Tests. Expected values come from the spec's text, tables and worked sequences, or are counted by hand from
them; each section names its source. Theorems named `test_witness_<statement>_<clause>` show a state and operands that
meet the hypotheses of that statement's clause. -/

namespace Sys2Proof.Tests

-- One theorem at a time: each kernel evaluation in a thread of its own costs the memory of its stack.
set_option Elab.async false

open Sys2Proof Sys2Proof.Machine

/-! ## Helpers -/

/-- The state after a command (the state itself where it stops, which no command does). -/
def run (i : Instr) (s : State) : State :=
  match exec i s with
  | .next t => t
  | _ => s

/-- The device after reset with both ports UP. -/
def up : State :=
  { State.reset with
    portU := { PortState.coldReset with link := .up, linkPinHigh := false }
    portD := { PortState.coldReset with link := .up, linkPinHigh := false } }

/-- The manager of the tests: station 0120h on port U. -/
def manager : Requester := ⟨0x0120, .u⟩

/-- The manager holds a session of 100 ms that runs out at local time 50,000,000. -/
def held : State :=
  { up with
    session := some ⟨manager, 100, 50000000⟩
    notice := { NoticeUnit.default with destination := some manager } }

/-- A request of the manager, number 17, in a CONTROL frame with sequence number 7. -/
def request (o : Op) (ops : List Byte) : Request := ⟨manager, false, 7, 17, o.code, ops⟩

/-- A request of the manager waits alone in the request queue. -/
def ask (s : State) (o : Op) (ops : List Byte) : State :=
  { s with pool := s.pool - (request o ops).blocks, engine := { s.engine with queue := [request o ops] } }

/-- The stored payload of the newest reply. -/
def newest (s : State) : List Byte := (s.engine.memory.getLast?.map MemoryEntry.payload).getD []

/-- Status and results of the answer to a request. -/
def answerTo (s : State) (o : Op) (ops : List Byte) : List Byte := (newest (run (takeInstr (some o)) (ask s o ops))).drop 2

/-- The device after a request has been taken. -/
def done (s : State) (o : Op) (ops : List Byte) : State := run (takeInstr (some o)) (ask s o ops)

theorem ofCode_code (o : Op) : Op.ofCode o.code = some o := by cases o <;> decide

/-- A request with operands of an agreeing length is taken by an IDLE engine from the holder of the session. -/
theorem taking (s : State) (o : Op) (ops : List Byte)
    (hs : s.resetHeld = false ∧ s.engine.state = .idle ∧ s.engine.memory = [] ∧ s.isHolder manager = true)
    (h : o.lengthAgrees ops = true) : (ask s o ops).Taking o (request o ops) [] where
  running := hs.1
  idle := hs.2.1
  head := rfl
  code := ofCode_code o
  unicast := by intro hb; cases hb
  fresh := by intro m hm; have : m ∈ s.engine.memory := hm; rw [hs.2.2.1] at this; cases this
  length := h
  holder := fun _ => hs.2.2.2

/-- Some operands of the request meet a test, and the request is taken in the state `s`. -/
def Asks (s : State) (o : Op) (test : List Byte → Prop) : Prop :=
  ∃ ops, (ask s o ops).Taking o (request o ops) [] ∧ test ops

theorem asks {s : State} {o : Op} {test : List Byte → Prop}
    (hs : s.resetHeld = false ∧ s.engine.state = .idle ∧ s.engine.memory = [] ∧ s.isHolder manager = true)
    (ops : List Byte) (h : o.lengthAgrees ops = true) (ht : test ops) : Asks s o test :=
  ⟨ops, taking s o ops hs h, ht⟩

theorem held_ready :
    held.resetHeld = false ∧ held.engine.state = .idle ∧ held.engine.memory = [] ∧ held.isHolder manager = true := by
  decide

/-- The frame with the check of R11. -/
def checkedFrame (f : Frame) : Frame := { f with check := crc32 (f.headerBytes ++ f.payload) }

/-- A frame of a kind for a station from station 0105h with tag 10. -/
def frameTo (dest : Half) (kind : Kind) (payload : List Byte) : Frame :=
  checkedFrame ⟨dest, 0x0105, kind, 3, 0x5A, 10, 200, payload, 0⟩

/-- A port whose receiver has the header of a frame. -/
def arriving (s : State) (p : Port) (f : Frame) : State :=
  { s.setReceiver p (.receiving (f.bytes.take 12)) with pool := s.pool - 1 }

/-- The bytes that the end of frame brings. -/
def lastBytes (f : Frame) : List Byte := f.bytes.drop 12

/-- The frame ends and is accepted. -/
theorem accepting (s : State) (p : Port) (f : Frame)
    (hs : s.resetHeld = false ∧ s.engine.state ≠ .resetting ∧ s.engine.state ≠ .resetDue)
    (hf : reachesEnd (f.bytes.take 12) (lastBytes f) = true ∧ judgeEnd f.bytes = .accepted f) :
    (arriving s p f).Accepting p (lastBytes f) f where
  plain := by
    refine ⟨?_, ?_, ?_⟩ <;> cases p
    · exact hs.1
    · exact hs.1
    · exact hs.2.1
    · exact hs.2.1
    · exact hs.2.2
    · exact hs.2.2
  receiving := by
    refine ⟨f.bytes.take 12, by cases p <;> rfl, hf.1, ?_⟩
    unfold lastBytes
    rw [List.take_append_drop]
    exact hf.2

/-! ## The frame check and frame sizes (R11, section 1.5, R19) -/

/-- The check value of this CRC-32 over the nine ASCII digits "123456789". PRESUMED: it is the published one of the
CRC with this polynomial, preset and complement and no reflection; the spec works no example. -/
theorem test_frame_check :
    crc32 [0x31, 0x32, 0x33, 0x34, 0x35, 0x36, 0x37, 0x38, 0x39] = 0xFC891918#32 := by decide +kernel

/-- The table of R19 at its boundaries: blocks held. -/
theorem test_blocks :
    [16, 256, 257, 512, 513, 768, 769, 1024, 1025, 1040].map blocksFor = [1, 1, 2, 2, 3, 3, 4, 4, 5, 5] := by decide +kernel

/-- The table of R19 at its boundaries: line occupancy. -/
theorem test_occupancy :
    [16, 256, 257, 512, 513, 768, 769, 1024, 1025, 1040].map occupancyFor =
      [192, 2112, 2120, 4160, 4168, 6208, 6216, 8256, 8264, 8384] := by decide +kernel

/-- The largest payload of k blocks is k × 256 - 16 bytes (section 1.5). -/
theorem test_largest_payload : [240, 241, 496, 497, 752, 753, 1008, 1009].map (fun n => blocksFor (12 + n + 4)) =
    [1, 2, 2, 3, 3, 4, 4, 5] := by decide +kernel

/-! ## Well-formed commands -/

theorem test_wf_header : (Instr.headerCompletion .u (List.replicate 11 0)).wf = false
    ∧ (Instr.headerCompletion .u (List.replicate 12 0)).wf = true := by decide +kernel
theorem test_wf_boundary : (Instr.blockBoundary .u (List.replicate 244 0)).wf = false
    ∧ (Instr.blockBoundary .u (List.replicate 245 0)).wf = true
    ∧ (Instr.blockBoundary .u (List.replicate 255 0)).wf = false
    ∧ (Instr.blockBoundary .u (List.replicate 256 0)).wf = true := by decide +kernel
theorem test_wf_surplus : (Instr.surplusByte .d []).wf = false ∧ (Instr.surplusByte .d [0]).wf = true
    ∧ (Instr.surplusByte .d (List.replicate 257 0)).wf = false := by decide +kernel
theorem test_wf_end : (Instr.endOfFrame .d (List.replicate 256 0)).wf = false
    ∧ (Instr.endOfFrame .d (List.replicate 255 0)).wf = true := by decide +kernel
theorem test_wf_others : Instr.identify.wf = true ∧ (Instr.coldReset 5).wf = true := by decide +kernel

/-- The table gives no row any bits, so no word spells a command. -/
theorem test_no_word_spells : decodeTableWord 32 0x12345678 = none := by decide +kernel

/-! ## Operation codes and lengths (section 11.2) -/

theorem test_op_codes : Op.all.map Op.code =
    [0x01, 0x02, 0x03, 0x04, 0x05, 0x10, 0x11, 0x12, 0x13, 0x14, 0x15, 0x16, 0x17, 0x20, 0x21, 0x28, 0x29, 0x30, 0x31,
      0x32, 0x33, 0x34, 0x35, 0x38, 0x39, 0x40] := by decide +kernel
theorem test_unknown_codes : [0x00, 0x06, 0x18, 0x22, 0x2A, 0x36, 0x3A, 0x41, 0xFF].map Op.ofCode =
    [none, none, none, none, none, none, none, none, none] := by decide +kernel

/-! ## Requests: operands of chapter 11 in, status and results of R173 out -/

/-- IDENTIFY (section 11.2): the 26 bytes of the table, with the straps at 63, holder 0120h on U, local time 0. -/
theorem test_identify : answerTo held .identify [] =
    [0x00, 0x5A, 0x31, 0x22, 0x04, 0x01, 0xFC, 0x3F, 0x01, 0x00, 0x02, 0x00, 32, 4, 4, 16, 0x01, 0x20, 0x00,
      0, 0, 0, 0, 0, 0, 0, 0] := by decide +kernel
/-- The IDENTIFY reply is 45 frame bytes and one block (section 11.2). -/
theorem test_identify_size :
    ((done held .identify []).portU.transmitter matches .sending 3 _ _) = true
      ∧ ((answerTo held .identify []).length + 2 + 16 = 45) := by decide +kernel
/-- UNIT_RESET is answered OK (R132); with U.Q3 open the reply is selected at once, so the unit reset is performed in
the event of the take and ends the session. -/
theorem test_unit_reset : (done held .unitReset []).session = none
    ∧ (done held .unitReset []).timer.index = 1 ∧ (done held .unitReset []).pool = 511 := by decide +kernel
/-- While the transmitter of port U is SENDING, the reply waits in U.Q3 and the engine in RESETTING (R132). -/
theorem test_unit_reset_waits :
    let s := held.setTransmitter .u (.sending 0 (frameTo 1 .data []) 100)
    (done s .unitReset []).engine.state = .resetting ∧ answerTo s .unitReset [] = [0x00]
      ∧ (done s .unitReset []).session.isSome = true := by decide +kernel
/-- SESSION_OPEN of 60,000 ms at local time 0 (R137): OPENED, expiry 6,000,000,000 = 165A0BC00h. -/
theorem test_session_open : answerTo up .sessionOpen [0xEA, 0x60] =
    [0x00, 0x00, 0xEA, 0x60, 0, 0, 0, 0x01, 0x65, 0xA0, 0xBC, 0x00] := by decide +kernel
/-- A lease of 9 ms or of 60,001 ms is BAD_VALUE (R137). -/
theorem test_session_open_range :
    answerTo up .sessionOpen [0x00, 0x09] = [0x14] ∧ answerTo up .sessionOpen [0xEA, 0x61] = [0x14]
      ∧ (answerTo up .sessionOpen [0x00, 0x0A]).take 2 = [0x00, 0x00] := by decide +kernel
/-- SESSION_KEEP at local time 50,000,000, the instant of the expiry (section 8.8): the lease of 10 ms runs to
51,000,000 = 030A32C0h. -/
theorem test_session_keep :
    answerTo { held with localTime := 50000000, session := some ⟨manager, 10, 50000000⟩ } .sessionKeep [] =
      [0x00, 0x00, 0x0A, 0, 0, 0, 0, 0x03, 0x0A, 0x32, 0xC0] := by decide +kernel
/-- After the expiry the same request meets no session: NO_SESSION (section 8.8). -/
theorem test_session_keep_late :
    answerTo (run .leaseExpiry { held with
      localTime := 50000000
      timer := ⟨50, 50000000, 51000000, 1000000, false⟩ }) .sessionKeep [] = [0x10] := by decide +kernel
/-- SESSION_CLOSE without and with a pending commit (R140, R143). -/
theorem test_session_close :
    answerTo held .sessionClose [] = [0x00, 0x00] ∧ (done held .sessionClose []).session = none
      ∧ answerTo { held with plans := { PlanBanks.default with commitPending := true } } .sessionClose [] =
          [0x00, 0x01] := by decide +kernel

/-- Entry 9 of section 2.9 before the write. -/
def entry9 : StreamEntry where
  state := .enabled
  record := ⟨.enabled, ⟨.u, 0x0105, 10⟩, 1, some 8, some ⟨100000, 2000, .count⟩, some ⟨64, 2000, .discard⟩, some 5⟩
  sequence := some ⟨some 200, [200, 199, 197, 196, 194]⟩
  cadence := some ⟨some 4810000⟩
  meter := some ⟨1800, 4810000⟩
  score := some 3
  counters := ⟨95, 0, 0, 0, 12, 0, 0, 0, 3⟩

/-- The device of section 2.9. -/
def held9 : State := held.setEntry 9 (some entry9)

/-- The STREAM_WRITE of section 2.9: index 9, keep-state, ENABLED, (U, 0105h, 10), queue 2, W = 4, R = 64, B = 1,500,
DEMOTE to 0, L = 3. -/
def write9 : List Byte := [9, 1, 0x01, 0x00, 0x01, 0x05, 0x00, 10, 2, 0x0D, 4, 64, 0x05, 0xDC, 0x01, 0x00, 3]

/-- The record of that write. -/
def record9 : StreamRecord := ⟨.enabled, ⟨.u, 0x0105, 10⟩, 2, some 4, none, some ⟨64, 1500, .demote 0⟩, some 3⟩

/-- Section 2.9: the operand bytes spell the record, and the record is written back as the same bytes. -/
theorem test_record : recordOf (write9.drop 2) = some record9 ∧ record9.bytes = write9.drop 2 := by decide +kernel
/-- Section 2.9: the table after the write. -/
theorem test_keep_state : carriedEntry entry9 record9 6000000 =
    ⟨.enabled, record9, some ⟨some 200, [200, 199, 197]⟩, none, some ⟨1500, 4810000⟩, some 2,
      ⟨95, 0, 0, 0, 12, 0, 0, 0, 3⟩⟩ := by decide +kernel
/-- Section 2.9: the write takes effect, and the reply is OK for index 9, keep-state applied, and sequence, meter and trip
carried. -/
theorem test_keep_state_reply :
    answerTo held9 .streamWrite write9 = [0x00, 9, 0x01, 0x0D]
      ∧ (done held9 .streamWrite write9).entry 9 = some (carriedEntry entry9 record9 0) := by decide +kernel
/-- Section 2.9, the other tag: keep-state is not applied, and a key of another entry is DUPLICATE_KEY. -/
theorem test_other_tag :
    keptEntry true (some entry9) { record9 with key := ⟨.u, 0x0105, 11⟩ } = none
      ∧ keptEntry true (some entry9) record9 = some entry9 ∧ held9.keyElsewhere 8 record9.key = true := by
  decide +kernel
/-- R21: with I = 1,001 the largest T is 500. -/
theorem test_tolerance_bound :
    recordOf [0x01, 0, 0x01, 0x05, 0, 10, 0, 0x02, 0, 0, 0x03, 0xE9, 0, 0, 0x01, 0xF4, 0] ≠ none
      ∧ recordOf [0x01, 0, 0x01, 0x05, 0, 10, 0, 0x02, 0, 0, 0x03, 0xE9, 0, 0, 0x01, 0xF5, 0] = none := by decide +kernel
/-- A presence mark of the upper four is BAD_VALUE (R172). -/
theorem test_upper_marks :
    answerTo held .streamWrite [0, 0, 0x01, 0, 0x01, 0x05, 0, 10, 0, 0x10] = [0x14]
      ∧ (recordOf [0x01, 0, 0x01, 0x05, 0, 10, 0, 0x00]).isSome = true := by decide +kernel
/-- STREAM_CLEAR answers the state before, then FREE (section 7.9). -/
theorem test_stream_clear :
    answerTo held9 .streamClear [9] = [0x00, 0x01] ∧ answerTo held .streamClear [9] = [0x00, 0x00]
      ∧ (done held9 .streamClear [9]).entry 9 = none := by decide +kernel
/-- STREAM_STATE to BLOCKED, with another value, and on a FREE entry (R32). -/
theorem test_stream_state :
    answerTo held9 .streamState [9, 2] = [0x00, 0x01] ∧ answerTo held9 .streamState [9, 3] = [0x14]
      ∧ answerTo held .streamState [9, 1] = [0x16]
      ∧ ((done held9 .streamState [9, 2]).entry 9).map StreamEntry.state = some .blocked := by decide +kernel
/-- STREAM_READ of a FREE entry is the state alone (R33). Of section 2.9's entry it is the state, the record of 24 bytes,
H with its presence and 5 members, the arrival, the tokens, the score and 36 bytes of counters. -/
theorem test_stream_read :
    answerTo held .streamRead [9] = [0x00, 0x00]
      ∧ (answerTo held9 .streamRead [9]).length = 1 + 1 + 24 + (3 + 1 + 10) + 9 + 10 + 1 + 36
      ∧ ((answerTo held9 .streamRead [9]).drop 26).take 14 =
          [0x01, 0x00, 200, 5, 0, 200, 0, 199, 0, 197, 0, 196, 0, 194] := by decide +kernel
/-- STREAM_FIND of the key, of another port's key, and of a tag of 4,096 (R34, R22). -/
theorem test_stream_find :
    answerTo held9 .streamFind [0, 0x01, 0x05, 0, 10] = [0x00, 9, 0x01]
      ∧ answerTo held9 .streamFind [1, 0x01, 0x05, 0, 10] = [0x16, 0x00, 0x00]
      ∧ answerTo held9 .streamFind [0, 0x01, 0x05, 0x10, 0] = [0x14] := by decide +kernel
/-- STREAM_PURGE refuses source 0000h at once and otherwise builds no reply yet (R35). -/
theorem test_stream_purge :
    answerTo held9 .streamPurge [0, 0] = [0x14] ∧ answerTo held9 .streamPurge [0x01, 0x05] = []
      ∧ (done held9 .streamPurge [0x01, 0x05]).engine.state =
          .purging (request .streamPurge [0x01, 0x05]) 0x0105 0 0 0 := by decide +kernel
/-- The visit of entry 255 completes the walk with the reply OK and the count (R37). -/
theorem test_purge_visit :
    let r := request .streamPurge [0x01, 0x05]
    let s := { held with engine := { Engine.default with state := .purging r 0x0105 255 1 0 } }
    (newest (run .purgeVisit s)).drop 2 = [0x00, 0x00, 0x01] ∧ (run .purgeVisit s).engine.state = .idle := by
  decide +kernel
/-- A visit of an entry with the purged source makes it FREE and counts it (R35). -/
theorem test_purge_hit :
    let r := request .streamPurge [0x01, 0x05]
    let s := { held9 with engine := { Engine.default with state := .purging r 0x0105 9 0 0 } }
    (run .purgeVisit s).entry 9 = none ∧ (run .purgeVisit s).engine.state = .purging r 0x0105 10 1 0 := by decide +kernel
/-- UNLISTED_SET answers the previous and the new policy; DISCARD ignores the queue byte (R38, R172). -/
theorem test_unlisted_set :
    answerTo held .unlistedSet [1, 1, 7] = [0x00, 0x00, 0x00, 0x01, 0x00]
      ∧ answerTo held .unlistedSet [1, 0, 3] = [0x14]
      ∧ (done held .unlistedSet [1, 0, 2]).portD.unlisted = .forward 2 := by decide +kernel
/-- STREAM_RESET of section 3.10's entry is below; of a FREE entry it is NOT_FOUND (R60). -/
theorem test_stream_reset :
    answerTo held .streamReset [47, 0] = [0x16]
      ∧ ((done held9 .streamReset [9, 1]).entry 9).map (fun e => (e.sequence, e.meter, e.score, e.counters)) =
          some (some ⟨none, []⟩, some ⟨2000, 0⟩, some 0, StreamCounters.zero) := by decide +kernel
/-- QUEUE_SET at its bounds (R77): limit 1 to 512, age limit 0 to 1,000; the defaults of Q3 stood before. -/
theorem test_queue_set :
    answerTo held .queueSet [0, 3, 0x02, 0x00, 0x03, 0xE8] = [0x00, 0x00, 64, 0x00, 0x00]
      ∧ answerTo held .queueSet [0, 3, 0x02, 0x01, 0x00, 0x00] = [0x14]
      ∧ answerTo held .queueSet [0, 4, 0x00, 0x01, 0x00, 0x00] = [0x14] := by decide +kernel
/-- QUEUE_READ of an empty Q0 (R78): limit 128, no head, 512 free blocks. -/
theorem test_queue_read : answerTo held .queueRead [1, 0] =
    [0x00, 0x00, 128, 0x00, 0x00, 0x00, 0x00, 0x00, 0x00, 0x00, 0, 0, 0, 0, 0x02, 0x00] := by decide +kernel
/-- BEAT_SET (section 5.5): source U, Tb = 5,000 passes with C = 1,000,000; Tb = 100,001 does not. -/
theorem test_beat_set :
    answerTo held .beatSet [0x00, 0, 0, 0x13, 0x88] = [0x00, 0xFF, 0, 0, 0x03, 0xE8, 0x00]
      ∧ (done held .beatSet [0x00, 0, 0, 0x13, 0x88]).beat.state = .seeking
      ∧ answerTo held .beatSet [0x00, 0, 0x01, 0x86, 0xA1] = [0x14] := by decide +kernel
/-- TIME_READ (R94) in the middle of cycle 10 of section 5.5, with a last error of -2,000 = FFFFF830h. -/
theorem test_time_read :
    answerTo { held with
      localTime := 10250000
      timer := ⟨10, 10000000, 11000000, 1000000, false⟩
      beat := ⟨.locked, some .d, 5000, 1, 2, some (-2000), BeatCounters.zero⟩ } .timeRead [] =
      [0x00, 0, 0, 0, 0, 0x00, 0x9C, 0x67, 0x10, 0, 0, 0, 10, 0x00, 0x03, 0xD0, 0x90, 0x00, 0x0F, 0x42, 0x40, 0x02, 0x01,
        0, 0, 0x13, 0x88, 0x01, 0xFF, 0xFF, 0xF8, 0x30, 1, 2] := by decide +kernel
/-- PLAN_HEADER replaces the staged header (R100): 1,000,000 = 000F4240h and 1 window stood before. -/
theorem test_plan_header :
    answerTo held .planHeader [1, 0x00, 0x07, 0xA1, 0x20, 2] = [0x00, 0x00, 0x0F, 0x42, 0x40, 1]
      ∧ (done held .planHeader [1, 0x00, 0x07, 0xA1, 0x20, 2]).plans.dB.cycleLength = 500000
      ∧ answerTo held .planHeader [1, 0x00, 0x07, 0xA1, 0x20, 33] = [0x14] := by decide +kernel
/-- PLAN_WINDOWS writes slots 30 and 31; a list that runs past slot 31 is BAD_VALUE (R101). -/
theorem test_plan_windows :
    answerTo held .planWindows [0, 30, 2, 0, 0, 0, 100, 0x01, 0, 0, 0x20, 0xC0, 0x0E] = [0x00, 30, 2]
      ∧ (done held .planWindows [0, 30, 2, 0, 0, 0, 100, 0x01, 0, 0, 0x20, 0xC0, 0x0E]).plans.uB.slot 31 =
          some ⟨8384, 14⟩
      ∧ answerTo held .planWindows [0, 31, 2, 0, 0, 0, 100, 0x01, 0, 0, 0x20, 0xC0, 0x0E] = [0x14] := by decide +kernel
/-- PLAN_READ of the default plan (R103, section 11.2): bank A, C, 1 window, 160 bytes of slots, no commit, no swap. -/
theorem test_plan_read :
    (answerTo held .planRead [0, 0]).length = 1 + 1 + 4 + 1 + 160 + 1 + 5
      ∧ (answerTo held .planRead [0, 0]).take 17 =
          [0x00, 0x00, 0x00, 0x0F, 0x42, 0x40, 1, 0x00, 0x0F, 0x42, 0x40, 0x0F, 0, 0, 0, 0, 0]
      ∧ (answerTo held .planRead [1, 1]).take 2 = [0x00, 0x01] := by decide +kernel
/-- PLAN_REVERT copies the active plans over the staged ones (R102). -/
theorem test_plan_revert :
    let s := { held with plans := PlanBanks.default.setStaged .d { Plan.default with windowCount := 9 } }
    answerTo s .planRevert [] = [0x00] ∧ (done s .planRevert []).plans = PlanBanks.default := by decide +kernel
/-- PLAN_COMMIT of the default plans is ACCEPTED, bank B to become active; with D's first slot unset it is RANGE, port D,
slot 0 (R104). -/
theorem test_plan_commit :
    answerTo held .planCommit [] = [0x01, 0x00, 0x0F, 0x42, 0x40, 0x01]
      ∧ answerTo { held with plans := PlanBanks.default.setStaged .d { Plan.default with slots := Vector.replicate 32 none } }
          .planCommit [] = [0x19, 0x01, 0x01, 0x00] := by decide +kernel
/-- PLAN_CANCEL with and without a pending commit (R107). -/
theorem test_plan_cancel :
    answerTo held .planCancel [] = [0x18, 0x00, 0x00, 0, 0, 0, 0]
      ∧ answerTo { held with plans := { PlanBanks.default with commitPending := true } } .planCancel [] = [0x00] := by
  decide +kernel
/-- NOTICE_SET to manager C of section 9.9 answers the defaults of section 9.2; the device's own address is BAD_VALUE. -/
theorem test_notice_set :
    answerTo held .noticeSet [1, 0x00, 0xFF, 0x04, 0x00, 0x00, 0x00, 100, 3] =
        [0x00, 0x01, 0x00, 0xFF, 0x00, 0x00, 0xFF, 0x00, 100, 3]
      ∧ (done held .noticeSet [1, 0x00, 0xFF, 0x04, 0x00, 0x00, 0x00, 100, 3]).notice.settings.standing =
          some ⟨0x0400, .u⟩
      ∧ answerTo held .noticeSet [1, 0x00, 0xFF, 0xFC, 0x3F, 0x00, 0x00, 100, 3] = [0x14] := by decide +kernel
/-- NOTICE_READ with the default settings and the manager as destination (R161). -/
theorem test_notice_read : answerTo held .noticeRead [] =
    [0x00, 0x01, 0x00, 0xFF, 0x00, 0x00, 0xFF, 0x00, 100, 3, 0x01, 0x20, 0x00, 0x00, 0x00, 0x00, 0x00,
      0, 0, 0, 0, 0, 0, 0, 0, 0] := by decide +kernel
/-- COUNTER_READ of the MANAGEMENT set with clear (R166, R168): the take is in the members, the read's own reply is
counted after the clear. -/
theorem test_counter_read :
    answerTo held .counterRead [0x06, 0, 0, 1] =
        [0x00, 0x06, 0, 0, 0, 0, 0, 0, 0, 0, 0, 0, 0x01] ++ [0, 0, 0, 1] ++ List.replicate 20 0
      ∧ (done held .counterRead [0x06, 0, 0, 1]).engine.counters = ⟨0, 0, 0, 0, 1, 0⟩ := by decide +kernel
/-- The set of a FREE entry is NOT_FOUND; group 08h is BAD_VALUE (R165). -/
theorem test_counter_read_refused :
    answerTo held .counterRead [0x02, 0, 9, 0] = [0x16] ∧ answerTo held .counterRead [0x08, 0, 0, 0] = [0x14] := by
  decide +kernel
/-- An operation code that is none of the 26 is UNKNOWN_REQUEST (R121 step 3). -/
theorem test_unknown_request :
    let s := { held with engine := { Engine.default with queue := [⟨manager, false, 7, 17, 0x06, []⟩] } }
    newest (run .unknownRequest s) = [17, 0x06, 0x12] := by decide +kernel
/-- A repeat is answered from the reply memory and changes nothing (section 7.9). -/
theorem test_repeat :
    let s := done (held.setTransmitter .u (.sending 0 (frameTo 1 .data []) 100)) .streamClear [9]
    (done s .streamClear [9]).engine.counters.repeats = 1
      ∧ (done s .streamClear [9]).engine.memory = s.engine.memory := by decide +kernel
/-- The reply memory of section 7.9: the store for 0301h moves its entry to the newest place, and the store for 0304h
evicts the oldest, the manager's. -/
theorem test_reply_memory :
    let m (station : Half) (p : Port) (n : Byte) : MemoryEntry := ⟨⟨station, p⟩, n, 0x29, []⟩
    [m 0x0302 .d 1, m 0x0303 .u 1, m 0x0301 .d 5, m 0x0304 .u 1].foldl storeEntry [m 0x0301 .d 4, m 0x0120 .u 17] =
      [m 0x0302 .d 1, m 0x0303 .u 1, m 0x0301 .d 5, m 0x0304 .u 1] := by decide +kernel

/-! ## Resets and links -/

/-- COLD_RESET with strap value 5: station FC05h (section 7.9), cycle 0 at local time 0 (R175). -/
theorem test_cold_reset :
    (run (.coldReset 5) held9).station = 0xFC05 ∧ (run (.coldReset 5) held9).session = none
      ∧ (run (.coldReset 5) held9).entry 9 = none ∧ (run (.coldReset 63) held).station = 0xFC3F := by decide +kernel
/-- RESET_N_ASSERTED drives both LINK pins high and holds the device (R175). -/
theorem test_reset_asserted :
    (run .resetNAsserted up).portU.linkPinHigh = true ∧ (run .resetNAsserted up).portD.link = .down
      ∧ (run (.linkUp .u) (run .resetNAsserted up)).portU.link = .down := by decide +kernel
/-- A link-up makes the pin low; a second one is no event (R2). -/
theorem test_link_up :
    (run (.linkUp .u) State.reset).portU.linkPinHigh = false ∧ (run (.linkUp .u) State.reset).portD.link = .down
      ∧ run (.linkUp .d) up = up := by decide +kernel
/-- Section 7.9: the link-down flushes the reply in U.Q3 and counts it and the link loss. -/
theorem test_link_down :
    let s := done (held.setTransmitter .u (.sending 0 (frameTo 1 .data []) 100)) .streamClear [5]
    ((s.queue .u 3).frames.length = 1 ∧ (run (.linkDown .u) s).portU.counters.linkLosses = 1)
      ∧ (run (.linkDown .u) s).portU.counters.transmitAborted = 1
      ∧ (run (.linkDown .u) s).queue .u 3 = ⟨64, 0, [], ⟨1, 0, 0, 0, 1, 0, 1⟩⟩ := by decide +kernel

/-! ## Section 1.7: two receptions against a nearly empty pool -/

/-- The DATA frame of 616 frame bytes. -/
def longData : Frame := frameTo 0x0200 .data (List.replicate 600 0x11)

/-- The device of section 1.7 when both headers are complete: 16 free blocks. -/
def receiving17 : State :=
  { (up.setReceiver .u (.receiving (longData.bytes.take 12))).setReceiver .d
      (.receiving ((frameTo 0x0201 .control (List.replicate 1000 0)).headerBytes)) with pool := 16 }

/-- The header is complete with 17 free blocks and passes; with 15 it does not (R7). -/
theorem test_header_reserve :
    let s := { up.setReceiver .u (.receiving []) with pool := 17 }
    (run (.headerCompletion .u longData.headerBytes) s).portU.receiver = .receiving longData.headerBytes
      ∧ (run (.headerCompletion .u longData.headerBytes) { s with pool := 15 }).portU.receiver = .discarding
      ∧ (run (.headerCompletion .u longData.headerBytes) { s with pool := 15 }).pool = 16 := by decide +kernel
/-- A header of kind 6 is malformed (R9). -/
theorem test_header_malformed :
    let s := up.setReceiver .u (.receiving [])
    (run (.headerCompletion .u [0xFC, 0, 0x01, 0x05, 0x60, 0, 0, 10, 0, 0, 0, 0]) s).portU.counters.malformed = 1
      ∧ (run (.headerCompletion .u [0xFC, 0, 0x01, 0x05, 0x50, 0, 0, 10, 0, 0, 0, 0]) s).portU.counters.malformed = 0 := by
  decide +kernel
/-- The 257th byte of the DATA frame with 16 free blocks: DISCARDING, 17 free, *no buffer*. -/
theorem test_boundary_data :
    let t := run (.blockBoundary .u ((longData.bytes.drop 12).take 245)) receiving17
    t.portU.receiver = .discarding ∧ t.pool = 17 ∧ t.portU.counters.noBuffer = 1 := by decide +kernel
/-- The 257th byte of the CONTROL frame with 17 free blocks: 16 free. -/
theorem test_boundary_control :
    let t := run (.blockBoundary .d (List.replicate 245 0)) { receiving17 with pool := 17 }
    t.pool = 16 ∧ t.portD.counters.noBuffer = 0 := by decide +kernel
/-- A frame start takes one block, or is abandoned when none is free (R6). -/
theorem test_frame_start :
    (run (.frameStart .d) up).pool = 511 ∧ (run (.frameStart .d) up).portD.receiver = .receiving []
      ∧ (run (.frameStart .d) { up with pool := 0 }).portD.receiver = .discarding
      ∧ (run (.frameStart .d) { up with pool := 0 }).portD.counters.noBuffer = 1 := by decide +kernel
/-- The first byte beyond the declared length abandons the frame as malformed with its block (R9). -/
theorem test_surplus :
    let f := frameTo 0x0200 .reply []
    let t := run (.surplusByte .u (lastBytes f ++ [0])) (arriving up .u f)
    t.portU.receiver = .discarding ∧ t.pool = 512 ∧ t.portU.counters.malformed = 1 := by decide +kernel
/-- A changed byte fails the check (R10, R11). -/
theorem test_check_error :
    let f := frameTo 0x0200 .reply [1]
    (run (.endOfFrame .u [2, 0, 0, 0, 0]) (arriving up .u f)).portU.counters.checkError = 1
      ∧ (run (.endOfFrame .u [1]) (arriving up .u f)).portU.counters.malformed = 1 := by decide +kernel
/-- An accepted REPLY for another station goes unchanged to Q3 of the other port (R14), flags and reserved byte
included. -/
theorem test_transit :
    let f := frameTo 0x0200 .reply [1, 2, 3]
    let t := run (.endOfFrame .u (lastBytes f)) (arriving up .u f)
    t.portD.transmitter = .sending 3 f ((12 + 3 + 4 + 8) * 8) ∧ t.portU.counters.accepted = 1 ∧ t.pool = 511 := by
  decide +kernel
/-- A DATA frame to the device's own address is misaddressed (R16). -/
theorem test_misaddressed :
    let f := frameTo 0xFC3F .data []
    (run (.endOfFrame .u (lastBytes f)) (arriving up .u f)).portU.counters.misaddressed = 1 := by decide +kernel

/-! ## Section 3.8: the sequence window -/

/-- Entry 12 of section 3.8: W = 4, L = 3, just written. -/
def entry12 : StreamEntry :=
  freshEntry ⟨.enabled, ⟨.u, 0x0105, 10⟩, 0, some 4, none, none, some 3⟩ 0

/-- The entry after frames with these sequence numbers. -/
def after (e : StreamEntry) (numbers : List Half) : StreamEntry :=
  numbers.foldl (fun e s => (judgeFrame e s 16 0).entry) e

/-- The five rows of passed frames. -/
theorem test_window_rows :
    (after entry12 [10]).sequence = some ⟨some 10, [10]⟩ ∧ (after entry12 [10, 12]).sequence = some ⟨some 12, [12, 10]⟩
      ∧ (after entry12 [10, 12, 11]).sequence = some ⟨some 12, [12, 11, 10]⟩
      ∧ (after entry12 [10, 12, 11, 11, 9]).sequence = some ⟨some 12, [12, 11, 10, 9]⟩
      ∧ (after entry12 [10, 12, 11, 11, 9, 15]).sequence = some ⟨some 15, [15, 12]⟩ := by decide +kernel
/-- After the seven arrivals: passed 5, duplicate 1, late 1, gap 3, score 1. -/
theorem test_window_counters :
    (after entry12 [10, 12, 11, 11, 9, 15, 6]).counters = ⟨5, 0, 0, 0, 1, 1, 0, 0, 3⟩
      ∧ (after entry12 [10, 12, 11, 11, 9, 15, 6]).score = some 1 := by decide +kernel
/-- R46: for H = 65534 a frame with s = 1 is ahead by 3; for H = 2 and W = 8, s = 65533 lies in the window. -/
theorem test_wrap : distance 1 65534 = 3 ∧ distance 65533 2 = 65531 ∧ inWindow 8 65531 = true ∧ inWindow 8 65528 = false := by
  decide +kernel

/-! ## Section 3.9: the meter -/

/-- Entry 30 of section 3.9, written at 5,000. -/
def entry30 : StreamEntry :=
  freshEntry ⟨.enabled, ⟨.u, 0x0105, 10⟩, 0, none, none, some ⟨32, 1100, .discard⟩, none⟩ 5000

/-- Frames A, B and C. -/
theorem test_meter_rows :
    let a := judgeFrame entry30 1 1040 6000
    let b := judgeFrame a.entry 2 1040 20000
    let c := judgeFrame b.entry 3 1040 40000
    (a.entry.meter = some ⟨60, 6000⟩ ∧ a.fate = .passed) ∧ (b.entry.meter = some ⟨508, 20000⟩
      ∧ b.fate = .discarded .meter) ∧ c.entry.meter = some ⟨60, 40000⟩ ∧ c.entry.counters = ⟨2, 0, 0, 0, 0, 0, 0, 1, 0⟩ := by
  decide +kernel

/-! ## Section 3.10: a trip and its reset -/

/-- Entry 47 of section 3.10. -/
def entry47 : StreamEntry :=
  freshEntry ⟨.enabled, ⟨.u, 0x0105, 10⟩, 0, none, some ⟨100000, 10000, .count⟩, none, some 3⟩ 0

/-- The entry after arrivals at these times. -/
def jitter (times : List Ticks) : StreamEntry := times.foldl (fun e t => (judgeFrame e 0 16 t).entry) entry47

/-- Score, state and last arrival after the sixth and the seventh frame. -/
theorem test_trip :
    let e := jitter [1000000, 1060000, 1150000, 1200000, 1240000]
    let g := jitter [1000000, 1060000, 1150000, 1200000, 1240000, 1270000, 1370000]
    (e.score = some 2 ∧ e.state = .enabled ∧ (judgeFrame e 0 16 1270000).tripped = true
        ∧ (judgeFrame e 0 16 1270000).fate = .passed)
      ∧ g.score = some 3 ∧ g.state = .tripped ∧ g.cadence = some ⟨some 1270000⟩
      ∧ g.counters = ⟨6, 0, 0, 1, 0, 0, 0, 0, 0⟩ := by decide +kernel
/-- The reset at 1,400,000. -/
theorem test_trip_reset :
    let e := (jitter [1000000, 1060000, 1150000, 1200000, 1240000, 1270000, 1370000]).renew 1400000
    e.state = .enabled ∧ e.score = some 0 ∧ e.cadence = some ⟨none⟩ ∧ e.counters = ⟨6, 0, 0, 1, 0, 0, 0, 0, 0⟩ := by
  decide +kernel

/-! ## Sections 4.10 and 6.9: ageing and selection -/

/-- A queued frame of this size in the given enqueue cycle. -/
def queuedFrame (payload : Nat) (index : CycleIndex) : QueuedFrame :=
  ⟨⟨1, 0x0105, .data, 0, 0, 0, 0, List.replicate payload 0, 0⟩, index, .forwarded⟩

/-- D.Q2 of section 4.10 at the start of cycle 42: F1 and F2 leave, F4 stays. -/
theorem test_ageing :
    let q : Queue := ⟨8, 2, [queuedFrame 300 40, queuedFrame 600 40, queuedFrame 0 41], QueueCounters.zero⟩
    let s := { (up.modQueue .d 2 fun _ => q) with timer := ⟨42, 42000000, 43000000, 1000000, false⟩, pool := 506 }
    ((s.ageQueue .d 2).queue .d 2).frames = [queuedFrame 0 41] ∧ ((s.ageQueue .d 2).queue .d 2).counters.aged = 2
      ∧ (s.ageQueue .d 2).pool = 511 := by decide +kernel

/-- The window of section 6.9 opens Q1, Q2 and Q3. -/
def window69 : Plan := { Plan.default with slots := (Vector.replicate 32 none).set 0 (some ⟨12000, 0b1110⟩) }

/-- Port D in that window at a local time, with the heads of D.Q3, D.Q2 and D.Q1. -/
def state69 (now : Ticks) (q3 q2 q1 : List QueuedFrame) : State :=
  let s := { up with localTime := now, plans := { PlanBanks.default with dA := window69 } }
  (((s.modPort .d fun P => { P with gate := ⟨0, 5012000, 0⟩ }).modQueue .d 3 fun Q => { Q with frames := q3 }).modQueue .d
    2 fun Q => { Q with frames := q2 }).modQueue .d 1 fun Q => { Q with frames := q1 }

/-- The rows of section 6.9: F1 at the window's begin, R at 5,008,384, G1 at 5,009,376, nothing at 5,011,168. -/
theorem test_selection :
    let f := queuedFrame 1024 0
    let g := queuedFrame 200 0
    let r := queuedFrame 100 0
    ((state69 5000000 [] [f, f] [g]).trySelect .d).portD.transmitter = .sending 2 f.frame 5008384
      ∧ ((state69 5008384 [r] [f] [g]).trySelect .d).portD.transmitter = .sending 3 r.frame 5009376
      ∧ ((state69 5009376 [] [f] [g]).trySelect .d).portD.transmitter = .sending 1 g.frame 5011168
      ∧ ((state69 5011168 [] [f] [g]).trySelect .d).portD.transmitter = .idle := by decide +kernel
/-- The completion of F1 at 5,008,384 frees its 5 blocks and hands over R (section 6.9). -/
theorem test_completion :
    let s := (state69 5003000 [queuedFrame 100 0] [] []).setTransmitter .d (.sending 2 (queuedFrame 1024 0).frame 5008384)
    let t := run (.transmissionCompletion .d) { s with
      pool := 506, timer := ⟨5, 5000000, 6000000, 1000000, false⟩ }
    t.localTime = 5008384 ∧ t.pool = 511 ∧ (t.queue .d 2).counters.transmitted = 1
      ∧ t.portD.transmitter = .sending 3 (queuedFrame 100 0).frame 5009376 := by decide +kernel
/-- A window change goes to the next window and its end (R110). -/
theorem test_window_change :
    let plan : Plan := ⟨20000, 2, ((Vector.replicate 32 none).set 0 (some ⟨8384, 8⟩)).set 1 (some ⟨11616, 7⟩)⟩
    let s := { up with plans := { PlanBanks.default with uA := plan } }
    let s := s.modPort .u fun P => { P with gate := ⟨0, 8384, 0⟩ }
    (run (.windowChange .u) s).portU.gate = ⟨1, 20000, 0⟩ ∧ (run (.windowChange .u) s).localTime = 8384
      ∧ run (.windowChange .u) (run (.windowChange .u) s) = run (.windowChange .u) s := by decide +kernel

/-! ## Section 5.5: cycles and beats -/

/-- Section 5.5 after the BEAT_SET, with local time moved on to `now`. Both ports are DOWN here, so that a cycle start
leaves at most one thing to do and no order is drawn. -/
def seeking (now : Ticks) : State :=
  { State.reset with
    localTime := now
    timer := ⟨10, 10000000, 11000000, 1000000, false⟩
    beat := { BeatFollowing.default with state := .seeking, source := some .u, tolerance := 5000 } }

/-- The beat at 10,400,000 realigns and locks. -/
theorem test_beat_realigns :
    let t := (seeking 10400000).reportBeat 10400000
    t.timer = ⟨11, 10400000, 11400000, 1000000, true⟩ ∧ t.beat.state = .locked
      ∧ t.beat.counters = ⟨1, 1, 0, 0, 0, 0, 0⟩ := by decide +kernel
/-- Cycle 13: the beat 1,500 after its start re-anchors it; the second beat is extra. -/
theorem test_beat_re_anchors :
    let s := { seeking 12399500 with
      timer := ⟨13, 12398000, 13398000, 1000000, false⟩
      beat := { BeatFollowing.default with state := .locked, source := some .u, tolerance := 5000 } }
    let t := s.reportBeat 12399500
    (t.timer = ⟨13, 12399500, 13399500, 1000000, true⟩ ∧ t.beat.lastError = some 1500)
      ∧ (t.reportBeat 12400100).beat.counters.extra = 1 := by decide +kernel
/-- A first beat early by 2,000 starts the next cycle (section 5.5's third row, in a cycle whose beat was not seen). -/
theorem test_beat_early :
    let s := { seeking 11398000 with
      timer := ⟨11, 10400000, 11400000, 1000000, false⟩
      beat := { BeatFollowing.default with state := .locked, source := some .u, tolerance := 5000 } }
    let t := s.reportBeat 11398000
    t.timer = ⟨12, 11398000, 12398000, 1000000, true⟩ ∧ t.beat.lastError = some (-2000) ∧ t.beat.missCount = 0 := by
  decide +kernel
/-- The start of cycle 18 counts the fourth miss: LOST. -/
theorem test_fourth_miss :
    let s := { seeking 17399500 with
      timer := ⟨17, 16399500, 17399500, 1000000, false⟩
      beat := { BeatFollowing.default with state := .locked, source := some .u, tolerance := 5000, missCount := 3 } }
    let t := run .scheduledCycleStart s
    (t.timer.index = 18 ∧ t.timer.scheduledEnd = 18399500) ∧ t.beat.state = .lost ∧ t.beat.missCount = 4
      ∧ t.notice.list.map NoticeEntry.event = [.beatLost] := by decide +kernel

/-! ## Section 9.9: retries, a change of destination and a merge -/

/-- The settings of section 9.9: the defaults with manager C as standing destination. -/
def settings99 : NoticeSettings := { NoticeSettings.default with standing := some ⟨0x0400, .u⟩ }

/-- E1 in flight to A with this many attempts. -/
def e1 (attempts : Nat) : NoticeEntry := ⟨.unlistedSeen .u, 50000000, 50, 1, .inFlight attempts false, some 12⟩

/-- E2, the twin with count 2. -/
def e2 : NoticeEntry := ⟨.unlistedSeen .u, 51000000, 51, 2, .waiting, none⟩

/-- Section 9.9 at a local time, with this list, number and timer. -/
def state99 (now : Ticks) (l : List NoticeEntry) (next : Half) (timer : Option Ticks) : State :=
  { up with
    localTime := now
    timer := ⟨BitVec.ofNat 32 (now / 1000000), now, now + 30000000, 1000000, false⟩
    session := some ⟨manager, 100, 75000000⟩
    notice := ⟨settings99, some manager, l, false, next, timer, NoticeCounters.zero⟩ }

/-- The first miss: UNLISTED_SEEN is listed and sent with number 12, the timer runs to 60,000,000. -/
theorem test_first_send :
    let t := (state99 50000000 [] 12 none).raise (.unlistedSeen .u)
    t.notice.list = [e1 1] ∧ t.notice.nextNumber = 13 ∧ t.notice.retryTimer = some 60000000
      ∧ t.notice.counters.sent = 1 := by decide +kernel
/-- The two further misses make and count the twin. -/
theorem test_twin :
    let s := state99 51000000 [e1 1] 13 (some 60000000)
    ((s.raise (.unlistedSeen .u)).raise (.unlistedSeen .u)).notice.list = [e1 1, e2] := by decide +kernel
/-- The expiry at 60,000,000 sends E1 again. -/
theorem test_retry :
    let t := run .retryTimerExpiry (state99 60000000 [e1 1, e2] 13 (some 60000000))
    t.notice.list = [e1 2, e2] ∧ t.notice.retryTimer = some 70000000 ∧ t.notice.counters.sent = 1 := by decide +kernel
/-- The expiry with 4 attempts abandons E1, sets the lost flag and sends E2 (the last paragraph of section 9.9). -/
theorem test_abandon :
    let s := { state99 90000000 [e1 4, e2] 13 (some 90000000) with session := some ⟨manager, 100, 95000000⟩ }
    let t := run .retryTimerExpiry s
    t.notice.list = [{ e2 with status := .inFlight 1 true, number := some 13 }] ∧ t.notice.lostFlag = true
      ∧ t.notice.counters.abandoned = 1 := by decide +kernel
/-- The lease expiry at 75,000,000: C is the destination, E1 and E2 merge, SESSION_EXPIRED is sent first. -/
theorem test_lease_expiry :
    let t := run .leaseExpiry (state99 75000000 [e1 3, e2] 13 (some 80000000))
    t.notice.list =
        [⟨.unlistedSeen .u, 50000000, 50, 3, .waiting, some 12⟩,
          ⟨.sessionExpired 0x0120, 75000000, 75, 1, .inFlight 1 false, some 13⟩]
      ∧ t.notice.destination = some ⟨0x0400, .u⟩ ∧ t.notice.retryTimer = some 85000000 ∧ t.session = none := by
  decide +kernel
/-- The ACK of 13 from C removes E3 and sends E1 under its own number; A's late ACK of 12 is stray. -/
theorem test_ack :
    let merged : NoticeEntry := ⟨.unlistedSeen .u, 50000000, 50, 3, .waiting, some 12⟩
    let e3 : NoticeEntry := ⟨.sessionExpired 0x0120, 75000000, 75, 1, .inFlight 1 false, some 13⟩
    let s := { state99 75400000 [merged, e3] 14 (some 85000000) with session := none }
    let s := { s with notice := { s.notice with destination := some ⟨0x0400, .u⟩ } }
    (s.takeAck 0x0400 [0, 13]).notice.list = [{ merged with status := .inFlight 1 false }]
      ∧ (s.takeAck 0x0400 [0, 13]).notice.retryTimer = some 85400000
      ∧ (s.takeAck 0x0120 [0, 12]).notice.counters.stray = 1 := by decide +kernel
/-- Section 9.10: an event that finds the list full is lost; the flag is set and E1's mark is cleared. -/
theorem test_full_list :
    let tripped (k : Fin 256) (st : NoticeStatus) : NoticeEntry := ⟨.streamTripped k, 0, 0, 1, st, none⟩
    let l := tripped 4 (.inFlight 1 true) :: (List.finRange 15).map fun k => tripped ⟨k.val + 10, by omega⟩ .waiting
    let n := ({ NoticeUnit.default with list := l } : NoticeUnit).judge (.queueOverflow .d 0) 0 0
    n.lostFlag = true ∧ n.list.length = 16 ∧ n.counters.noticesLost = 1
      ∧ n.list.head?.map NoticeEntry.lostMark = some false := by decide +kernel


/-! ## Witnesses: the invariants and the rules of the whole machine

Each theorem from here on shows a state and operands that meet the hypotheses of the statement it is named after. -/

theorem plain_of {s : State} (h : s.resetHeld = false ∧ s.engine.state ≠ .resetting ∧ s.engine.state ≠ .resetDue) :
    s.Plain := ⟨h.1, h.2.1, h.2.2⟩

theorem first_of {s : State} {t : Ticks} (h : s.deadlines.all (t ≤ ·) = true) : s.First t := by
  intro d hd
  have := List.all_eq_true.mp h d hd
  simpa using this

/-- A command waits in front of the queue. -/
def waits (i : Instr) (s : State) : State := { s with pending := [i] }

theorem waits_steps (i : Instr) (s : State) : step (waits i s) = exec i { s with pending := [] } := rfl

/-- The only entry of section 2.9's device is entry 9. -/
theorem held9_entry {i : StreamIndex} {e : StreamEntry} (h : held9.entry i = some e) : i = 9 ∧ e = entry9 := by
  have hz : held9.table = (Vector.replicate 256 (none : Option StreamEntry)).set (9 : StreamIndex) (some entry9) := rfl
  unfold State.entry at h
  rw [hz] at h
  simp [Fin.getElem_fin, Vector.getElem_set] at h
  exact ⟨Fin.ext h.1.symm, h.2.symm⟩

theorem held9_keys : held9.KeysUnique := by
  intro i j e f hi hj _
  rw [(held9_entry hi).1, (held9_entry hj).1]

theorem test_witness_EveryStepConservesBlocks :
    (waits (.frameStart .d) (ask held .identify [])).BlocksConserved
      ∧ ∃ t, step (waits (.frameStart .d) (ask held .identify [])) = .next t := by
  refine ⟨by decide +kernel, _, rfl⟩
theorem test_witness_EveryStepKeepsKeysUnique :
    (waits (.frameStart .d) held9).KeysUnique ∧ ∃ t, step (waits (.frameStart .d) held9) = .next t :=
  ⟨held9_keys, _, rfl⟩
theorem test_witness_EveryStepKeepsEntriesSound :
    (waits (.frameStart .d) held9).EntriesSound ∧ ∃ t, step (waits (.frameStart .d) held9) = .next t := by
  refine ⟨?_, _, rfl⟩
  intro i e he
  have he' : held9.entry i = some e := he
  rw [(held9_entry he').2]
  simp [entry9, StreamEntry.Sound, StreamRecord.InRange, SequenceState.Sound]
theorem test_witness_EveryStepKeepsPlansSound :
    (waits (.frameStart .d) held).PlansSound ∧ ∃ t, step (waits (.frameStart .d) held) = .next t := by
  refine ⟨⟨fun p => by cases p <;> decide +kernel, ?_, by decide +kernel, by decide +kernel,
    fun p => by cases p <;> decide +kernel⟩, _, rfl⟩
  intro h
  exact absurd h (by decide +kernel)
theorem test_witness_EveryStepKeepsLinksSound :
    (waits (.linkUp .u) State.reset).LinksSound ∧ ∃ t, step (waits (.linkUp .u) State.reset) = .next t :=
  ⟨fun p => by cases p <;> decide +kernel, _, rfl⟩
theorem test_witness_EveryStepKeepsEngineSound :
    (waits (.frameStart .d) (ask held .identify [])).EngineSound
      ∧ ∃ t, step (waits (.frameStart .d) (ask held .identify [])) = .next t :=
  ⟨by decide +kernel, _, rfl⟩
theorem test_witness_EveryStepKeepsNoticesSound :
    (waits (.frameStart .d) (state99 51000000 [e1 1, e2] 13 (some 60000000))).NoticesSound
      ∧ ∃ t, step (waits (.frameStart .d) (state99 51000000 [e1 1, e2] 13 (some 60000000))) = .next t :=
  ⟨by decide +kernel, _, rfl⟩
theorem test_witness_EveryStepKeepsBeatSound :
    (waits (.frameStart .d) (seeking 10250000)).BeatSound
      ∧ ∃ t, step (waits (.frameStart .d) (seeking 10250000)) = .next t :=
  ⟨by decide +kernel, _, rfl⟩

theorem test_witness_TimeRunsOnAndTheStationStays :
    (∀ straps, Instr.identify ≠ .coldReset straps) ∧ Instr.identify ≠ .resetNAsserted
      ∧ (∀ p, Instr.identify ≠ .transmissionCompletion p) ∧ Instr.identify ≠ .scheduledCycleStart
      ∧ (∀ p, Instr.identify ≠ .windowChange p) ∧ Instr.identify ≠ .leaseExpiry
      ∧ Instr.identify ≠ .retryTimerExpiry ∧ ∃ t, exec .identify (ask held .identify []) = .next t := by
  refine ⟨by simp, by simp, by simp, by simp, by simp, by simp, by simp, ?_⟩
  obtain ⟨t, h, _⟩ := (taking held .identify [] held_ready rfl).event (serve := serveIdentify) rfl
    (State.atStep6_state _ _ _)
  exact ⟨t, h⟩
/-- A timer event is a case of the first two clauses alone. -/
theorem test_witness_TimeRunsOnAndTheStationStays_timer :
    (∀ straps, Instr.scheduledCycleStart ≠ .coldReset straps) ∧ Instr.scheduledCycleStart ≠ .resetNAsserted
      ∧ (run .scheduledCycleStart State.reset).localTime = 1000000
      ∧ ∃ t, exec .scheduledCycleStart State.reset = .next t :=
  ⟨by simp, by simp, by decide +kernel, _, rfl⟩

/-- A commit is pending while the manager holds the session. -/
def pendingHeld : State := { held with plans := { PlanBanks.default with commitPending := true } }

theorem pendingHeld_ready : pendingHeld.resetHeld = false ∧ pendingHeld.engine.state = .idle
    ∧ pendingHeld.engine.memory = [] ∧ pendingHeld.isHolder manager = true := by decide

theorem test_witness_PendingCommitHoldsTheBanks :
    pendingHeld.plans.commitPending = true
      ∧ ∃ t, step (waits (.frameStart .d) pendingHeld) = .next t ∧ t.plans.commitPending = true :=
  ⟨rfl, _, rfl, rfl⟩
theorem test_witness_PendingCommitHoldsTheBanks_requests :
    Asks pendingHeld .planHeader (fun _ => pendingHeld.plans.commitPending = true)
      ∧ Asks pendingHeld .planWindows (fun _ => pendingHeld.plans.commitPending = true)
      ∧ Asks pendingHeld .planRevert (fun _ => pendingHeld.plans.commitPending = true)
      ∧ Asks pendingHeld .planCommit (fun _ => pendingHeld.plans.commitPending = true) :=
  ⟨asks pendingHeld_ready [0, 0, 0, 0x03, 0xE8, 1] rfl rfl, asks pendingHeld_ready [0, 0, 1, 0, 0, 0, 100, 1] rfl rfl,
    asks pendingHeld_ready [] rfl rfl, asks pendingHeld_ready [] rfl rfl⟩

theorem test_witness_TheHolderRules :
    ∃ t y, held.session = some ⟨manager, 100, 50000000⟩ ∧ step (waits (.frameStart .d) held) = .next t
      ∧ t.session = some y := ⟨_, _, rfl, rfl, rfl⟩
theorem test_witness_TheHolderRules_refused :
    (ask up .streamClear [9]).Plain ∧ (ask up .streamClear [9]).engine.queue = [request .streamClear [9]]
      ∧ (ask up .streamClear [9]).isHolder manager = false ∧ Op.ofCode 0x11 ≠ some .sessionOpen
      ∧ answerTo up .streamClear [9] = [0x10] :=
  ⟨plain_of (by decide +kernel), rfl, by decide +kernel, by decide +kernel, by decide +kernel⟩

theorem test_witness_ResetsStartTheDevice :
    (run .resetNAsserted up).resetHeld = true ∧ (∀ straps, Instr.linkUp .u ≠ .coldReset straps)
      ∧ Instr.linkUp .u ≠ .resetNAsserted := ⟨rfl, by simp, by simp⟩

/-! ## Witnesses: links and reception -/

theorem test_witness_LinkUpRaisesThePort :
    State.reset.Plain ∧ (State.reset.port .d).link = .down ∧ (∀ q, (State.reset.queue .d q).frames = [])
      ∧ State.reset.notice.destination.map Requester.port ≠ some .d :=
  ⟨plain_of (by decide +kernel), by decide +kernel, by decide +kernel, by decide +kernel⟩
theorem test_witness_LinkUpRaisesThePort_up : up.Plain ∧ (up.port .u).link = .up :=
  ⟨plain_of (by decide +kernel), rfl⟩
theorem test_witness_LinkDownEmptiesThePort : held.Plain ∧ (held.port .u).link = .up
    ∧ State.reset.Plain ∧ (State.reset.port .u).link = .down :=
  ⟨plain_of (by decide +kernel), rfl, plain_of (by decide +kernel), rfl⟩
theorem test_witness_FrameStartTakesOneBlock :
    ({ up with pool := 1 } : State).Plain ∧ ({ up with pool := 0 } : State).Plain ∧ (up.port .u).link = .up
      ∧ (up.port .u).receiver = .idle :=
  ⟨plain_of (by decide +kernel), plain_of (by decide +kernel), rfl, rfl⟩
theorem test_witness_FrameStartTakesOneBlock_none :
    State.reset.Plain ∧ (State.reset.port .d).link = .down
      ∧ (up.setReceiver .d .discarding).Plain ∧ ((up.setReceiver .d .discarding).port .d).receiver ≠ .idle :=
  ⟨plain_of (by decide +kernel), rfl, plain_of (by decide +kernel), by decide +kernel⟩

/-- A header with kind and flags byte `k`, these tag, length and source bytes. -/
def header (k t1 t0 l1 l0 s1 s0 : Byte) : List Byte := [2, 0, s1, s0, k, 0, t1, t0, 0, 1, l1, l0]

/-- One header for each case, each at its bound: the kinds 5 and 6, the tags 4,095 and 4,096, the lengths 1,024 and 1,025,
the sources 0001h, 0000h, FFFEh and FFFFh; and a DATA header with 16 and with 15 free blocks. -/
theorem test_witness_HeaderCompletionJudgesTheHeader :
    ((up.setReceiver .u (.receiving [])).Plain ∧ ((up.setReceiver .u (.receiving [])).port .u).receiver = .receiving [])
      ∧ [header 0x5F 0x0F 0xFF 0x04 0x00 0 1, header 0x60 0 0 0 0 0 1, header 0x00 0x10 0x00 0 0 0 1,
          header 0x00 0 0 0x04 0x01 0 1, header 0x00 0 0 0 0 0 0, header 0x00 0 0 0 0 0xFF 0xFE,
          header 0x00 0 0 0 0 0xFF 0xFF].map headerMalformed = [false, true, true, true, true, false, true]
      ∧ [15, 16].map (fun n => (run (.headerCompletion .u (header 0 0 0 0 0 0 1))
          { up.setReceiver .u (.receiving []) with pool := n }).portU.receiver) =
          [.discarding, .receiving (header 0 0 0 0 0 0 1)] :=
  ⟨⟨plain_of (by decide +kernel), rfl⟩, by decide +kernel⟩

/-- The first boundary byte, and the fifth block's of a frame of 1,040 bytes; the DATA frame at 17 and 16 free blocks. -/
theorem test_witness_LongFramesTakeBlocks :
    let old := header 0 0 0 0x04 0x00 0 1
    let long := old ++ List.replicate 1012 (0 : Byte)
    (12 ≤ old.length ∧ 256 * (1 - 1) < old.length ∧ old.length ≤ 256 * 1 ∧ old.length + 245 = 256 * 1 + 1
        ∧ old.length + 245 ≤ 12 + fieldAt old 10 2 + 4)
      ∧ (12 ≤ long.length ∧ 256 * (4 - 1) < long.length ∧ long.length ≤ 256 * 4 ∧ long.length + 1 = 256 * 4 + 1
        ∧ long.length + 1 ≤ 12 + fieldAt long 10 2 + 4)
      ∧ [17, 16].map (fun n => (run (.blockBoundary .u (List.replicate 245 0))
          { up.setReceiver .u (.receiving old) with pool := n }).pool) = [16, 17] := by decide +kernel
/-- The surplus byte of a frame that declares 256 bytes is its 257th, and takes no block. -/
theorem test_witness_LongFramesTakeBlocks_surplus :
    let old := header 0x30 0 0 0 240 0 1
    (up.setReceiver .u (.receiving old)).Plain
      ∧ (12 ≤ old.length ∧ 256 * (1 - 1) < old.length ∧ old.length ≤ 256 * 1
        ∧ old.length + 245 = 12 + fieldAt old 10 2 + 4 + 1 ∧ 12 + fieldAt old 10 2 + 4 ≤ 256 * 1)
      ∧ (run (.surplusByte .u (List.replicate 245 0)) (up.setReceiver .u (.receiving old))).portU.counters.malformed = 1 :=
  ⟨plain_of (by decide +kernel), by decide +kernel⟩

/-- A header that declares 5 payload bytes, with its own check. -/
def short : List Byte := header 0x30 0 0 0 5 0 1 ++ beBytes 4 (crc32 (header 0x30 0 0 0 5 0 1)).toNat

/-- DISCARDING; 15 bytes; 16 bytes whose check passes under a declared length of 21; and 16 bytes whose check fails. -/
theorem test_witness_EndOfFrameDiscards :
    (up.setReceiver .u .discarding).Plain ∧ (up.setReceiver .u (.receiving (short.take 12))).Plain
      ∧ (reachesEnd (short.take 12) [0, 0, 0] = true ∧ (short.take 12 ++ [0, 0, 0]).length = 15)
      ∧ (reachesEnd (short.take 12) (short.drop 12) = true ∧ short.length = 16
        ∧ (crc32 (short.take (16 - 4))).toNat = fieldAt short (16 - 4) 4 ∧ 16 ≠ 12 + fieldAt short 10 2 + 4)
      ∧ (reachesEnd (short.take 12) [0, 0, 0, 0] = true ∧ (crc32 (short.take 12)).toNat ≠ 0) :=
  ⟨plain_of (by decide +kernel), plain_of (by decide +kernel), by decide +kernel⟩

/-! ## Witnesses: routing and the Stream Table -/

/-- Port D is SENDING, and its queue Q3 holds at most one block. -/
def busyD : State :=
  (up.setTransmitter .d (.sending 0 (frameTo 1 .data []) 100)).modQueue .d 3 fun Q => { Q with limit := 1 }

/-- Port D's Q3 holds one block and its limit is 1. -/
def fullD : State := busyD.modQueue .d 3 fun Q => { Q with frames := [queuedFrame 0 0] }

/-- Port D is DOWN. -/
def downD : State := { up with portD := PortState.coldReset }

theorem test_witness_FramesAreRoutedByDestination_own :
    (∀ k ∈ [Kind.data, .reply, .notice], (arriving up .u (frameTo 0xFC3F k [])).Accepting .u
        (lastBytes (frameTo 0xFC3F k [])) (frameTo 0xFC3F k [])) ∧ (frameTo 0xFC3F .data []).dest = up.station := by
  refine ⟨?_, rfl⟩
  intro k hk
  refine accepting up .u _ (by decide +kernel) ?_
  revert k
  decide +kernel
/-- A BEAT without a beat port, a REPLY, NOTICE and ACK to FFFFh, and a CONTROL frame for another station. -/
theorem test_witness_FramesAreRoutedByDestination_kinds :
    ∀ f ∈ [frameTo 0xFC3F .beat [], frameTo 0xFFFF .reply [], frameTo 0xFFFF .notice [], frameTo 0xFFFF .ack [],
        frameTo 0xFFFE .control []],
      (arriving up .u f).Accepting .u (lastBytes f) f
        ∧ (f.kind = .beat ∧ up.beat.source ≠ some .u
          ∨ (f.kind = .reply ∨ f.kind = .notice ∨ f.kind = .ack) ∧ f.dest ≠ up.station
          ∨ f.kind = .control ∧ f.dest ≠ up.station ∧ f.dest ≠ 0xFFFF) := by
  intro f hf
  refine ⟨accepting up .u f (by decide +kernel) ?_, ?_⟩ <;> revert f <;> decide +kernel
/-- The three cases of the other port, the limit met exactly and exceeded by one block. -/
theorem test_witness_FramesAreRoutedByDestination_egress :
    let f := frameTo 0xFFFF .reply []
    (arriving downD .u f).Accepting .u (lastBytes f) f ∧ (arriving fullD .u f).Accepting .u (lastBytes f) f
      ∧ (arriving busyD .u f).Accepting .u (lastBytes f) f
      ∧ ((arriving downD .u f).port .d).link = .down
      ∧ (((arriving fullD .u f).port .d).link = .up
        ∧ (fullD.queue .d 3).limit < (fullD.queue .d 3).blocks + f.blocks
        ∧ fullD.notice.destination.map Requester.port ≠ some .d)
      ∧ ((busyD.port .d).link = .up ∧ (busyD.queue .d 3).blocks + f.blocks ≤ (busyD.queue .d 3).limit
        ∧ (busyD.port .d).transmitter ≠ .idle) := by
  refine ⟨accepting downD .u _ (by decide +kernel) (by decide +kernel),
    accepting fullD .u _ (by decide +kernel) (by decide +kernel),
    accepting busyD .u _ (by decide +kernel) (by decide +kernel), ?_⟩
  decide +kernel

/-- The request queue is full. -/
def fullQueue : State :=
  { downD with engine := { Engine.default with queue := List.replicate 4 (request .identify []) } }

/-- The engine awaits the departure of a reply and the pool holds one block, which the frame takes. -/
def lastBlock : State := { up with pool := 1, engine := { Engine.default with state := .resetting } }

/-- The engine walks the table for a purge, and the pool is empty once the frame has its block. -/
def purging : State :=
  { up with
    pool := 1
    engine := { Engine.default with state := .purging (request .streamPurge [1, 5]) 0x0105 0 0 0 } }

theorem test_witness_BroadcastControlIsCopied :
    let f := frameTo 0xFFFF .control [17, 1]
    ((arriving fullQueue .u f).Accepting .u (lastBytes f) f ∧ (arriving purging .u f).Accepting .u (lastBytes f) f)
      ∧ (f.kind = .control ∧ f.dest = 0xFFFF ∧ 2 ≤ f.payload.length)
      ∧ (fullQueue.engine.queue.length = 4 ∧ (fullQueue.port .d).link = .down
        ∧ f.blocks ≤ (arriving fullQueue .u f).pool)
      ∧ purging.engine.queue.length < 4 ∧ purging.engine.state ≠ .idle ∧ (arriving purging .u f).pool < f.blocks := by
  refine ⟨⟨accepting fullQueue .u _ (by decide +kernel) (by decide +kernel),
    accepting purging .u _ (by decide +kernel) (by decide +kernel)⟩, ?_⟩
  decide +kernel
/-- A payload of 1 byte; one of 2 bytes that finds 4 requests; and one of 2 bytes that finds none while a purge runs. -/
theorem test_witness_RequestsAreAdmitted :
    ((arriving up .u (frameTo 0xFC3F .control [17])).Accepting .u (lastBytes (frameTo 0xFC3F .control [17]))
        (frameTo 0xFC3F .control [17])
      ∧ (arriving fullQueue .u (frameTo 0xFC3F .control [17, 1])).Accepting .u
        (lastBytes (frameTo 0xFC3F .control [17, 1])) (frameTo 0xFC3F .control [17, 1])
      ∧ (arriving purging .u (frameTo 0xFC3F .control [17, 1])).Accepting .u
        (lastBytes (frameTo 0xFC3F .control [17, 1])) (frameTo 0xFC3F .control [17, 1]))
      ∧ (frameTo 0xFC3F .control [17, 1]).payload = 17 :: 1 :: [] ∧ up.station ≠ 0xFFFF
      ∧ 4 ≤ fullQueue.engine.queue.length ∧ purging.engine.queue.length < 4 ∧ purging.engine.state ≠ .idle := by
  refine ⟨⟨accepting up .u _ (by decide +kernel) (by decide +kernel),
    accepting fullQueue .u _ (by decide +kernel) (by decide +kernel),
    accepting purging .u _ (by decide +kernel) (by decide +kernel)⟩, ?_⟩
  decide +kernel
/-- The longest payload, and the bounds of the blocks. -/
theorem test_witness_FrameBytesSpellTheFrame :
    (List.replicate 1024 (0 : Byte)).length ≤ 1024
      ∧ [240, 241, 496, 497, 752, 753, 1008, 1009].map (fun n => (queuedFrame n 0).frame.blocks) =
          [1, 2, 2, 3, 3, 4, 4, 5] := by decide +kernel

/-- A DATA frame of section 2.9's stream. -/
def data9 : Frame := frameTo 0x0200 .data []

/-- Section 2.9's device with port D SENDING, and the same with entry 9 BLOCKED. -/
def busy9 : State :=
  { (held9.setTransmitter .d (.sending 0 (frameTo 1 .data []) 5000100)).modQueue .d 1 fun Q => { Q with limit := 1 } with
    localTime := 5000000
    timer := ⟨5, 5000000, 6000000, 1000000, false⟩ }

/-- The next frame of the stream, with sequence number 201. -/
def next9 : Frame := checkedFrame { data9 with seq := 201 }

/-- The blocked entry. -/
def blocked9 : StreamEntry := { entry9 with state := .blocked }

/-- Sequence number 200 is H itself, a duplicate; 201 is passed to D.Q1; and under a meter that demotes to Q1
a frame of more bytes than tokens is demoted. -/
theorem test_witness_HitsAreJudgedWhole :
    ((arriving busy9 .u data9).Accepting .u (lastBytes data9) data9
        ∧ (arriving busy9 .u next9).Accepting .u (lastBytes next9) next9 ∧ (arriving busy9 .u data9).KeysUnique)
      ∧ (data9.kind = .data ∧ data9.dest ≠ held9.station ∧ (arriving busy9 .u data9).entry 9 = some entry9
        ∧ entry9.record.key = ⟨.u, data9.src, data9.tag⟩)
      ∧ ((judgeFrame entry9 data9.seq data9.size 5000000).fate = .discarded .duplicate
        ∧ (judgeFrame entry9 data9.seq data9.size 5000000).tripped = false)
      ∧ ((judgeFrame entry9 next9.seq next9.size 5000000).fate = .passed
        ∧ (judgeFrame entry9 next9.seq next9.size 5000000).tripped = false
        ∧ (busy9.port .d).link = .up ∧ (busy9.port .d).transmitter ≠ .idle
        ∧ (busy9.queue .d 1).blocks + next9.blocks ≤ (busy9.queue .d 1).limit)
      ∧ (judgeFrame { entry9 with record := { entry9.record with meter := some ⟨64, 2000, .demote 1⟩ } } 201 1900
          4810000).fate = .demoted 1 := by
  refine ⟨⟨accepting busy9 .u data9 (by decide +kernel) (by decide +kernel),
    accepting busy9 .u next9 (by decide +kernel) (by decide +kernel), ?_⟩, by decide +kernel⟩
  exact held9_keys
theorem test_witness_MissesFollowThePolicy :
    (arriving up .u data9).Accepting .u (lastBytes data9) data9
      ∧ (data9.kind = .data ∧ data9.dest ≠ up.station)
      ∧ (∀ i e, (arriving up .u data9).entry i = some e → e.record.key ≠ ⟨.u, data9.src, data9.tag⟩)
      ∧ up.notice.settings.master = true ∧ up.notice.settings.kinds.getLsbD 7 = true ∧ up.notice.list.length < 14 := by
  refine ⟨accepting up .u data9 (by decide +kernel) (by decide +kernel), by decide +kernel, ?_, by decide +kernel⟩
  intro i e h
  have : (none : Option StreamEntry) = some e := by
    rw [← h]
    exact (Vector.getElem_replicate i.isLt).symm
  cases this

/-! ## Witnesses: the checks -/

/-- An entry with W = 4 whose H is 12 with the set 12, 11, 10, 9, and one with W = 32 whose H is 0 with the set 0. -/
def windowed (w : Nat) (h : Half) (l : List Half) : StreamEntry :=
  { freshEntry ⟨.enabled, ⟨.u, 0x0105, 10⟩, 0, some w, none, none, none⟩ 0 with sequence := some ⟨some h, l⟩ }

/-- Each case of R43 at the bounds of its range: d = 0, 1, 32767, 32768, 65536 - W and 65536 - W + 1, for W = 32 and for
W = 1, and H absent. -/
theorem test_witness_SequenceStepSorts :
    ((windowed 32 0 [0, 65505]).record.sequence = some 32 ∧ (windowed 1 0 [0]).record.sequence = some 1)
      ∧ [0, 1, 32767, 32768, 65504, 65505, 65535].map (fun s => (sequenceStep s ⟨windowed 32 0 [0, 65505], Findings.start⟩).found)
        = [⟨some (.discarded .duplicate), .none, false⟩, ⟨none, .ahead 1, false⟩, ⟨none, .ahead 32767, false⟩,
          ⟨some (.discarded .late), .none, true⟩, ⟨some (.discarded .late), .none, true⟩,
          ⟨some (.discarded .duplicate), .none, false⟩, ⟨none, .outOfOrder, false⟩]
      ∧ [0, 1, 32768, 65535].map (fun s => (sequenceStep s ⟨windowed 1 0 [0], Findings.start⟩).found)
        = [⟨some (.discarded .duplicate), .none, false⟩, ⟨none, .ahead 1, false⟩, ⟨some (.discarded .late), .none, true⟩,
          ⟨some (.discarded .late), .none, true⟩]
      ∧ (sequenceStep 7 ⟨entry12, Findings.start⟩).found = ⟨none, .first, false⟩
      ∧ (sequenceStep 0 ⟨windowed 1 0 [0], Findings.start⟩).found.fate = some (.discarded .duplicate) := by decide +kernel
/-- The cadence of section 3.10 at I - T = 90,000 and one tick less, absent arrival, and both actions; the meter of
section 3.9 at as many bytes as tokens and one more, with both actions. -/
theorem test_witness_CadenceAndMeterStepsJudge :
    let part : CadencePart := ⟨100000, 10000, .count⟩
    let e := { entry47 with cadence := some ⟨some 1000000⟩ }
    let d := { e with record := { e.record with cadence := some { part with early := .discard } } }
    (e.record.cadence = some part ∧ e.cadence = some ⟨some 1000000⟩)
      ∧ (cadenceStep 1090000 ⟨e, Findings.start⟩).found = Findings.start
      ∧ (cadenceStep 5 ⟨entry47, Findings.start⟩).found = Findings.start
      ∧ (cadenceStep 1089999 ⟨e, Findings.start⟩).found = ⟨none, .none, true⟩
      ∧ (cadenceStep 1089999 ⟨d, Findings.start⟩).found = ⟨some (.discarded .early), .none, true⟩
      ∧ (entry30.record.meter = some ⟨32, 1100, .discard⟩ ∧ entry30.meter = some ⟨1100, 5000⟩ ∧ 5000 ≤ 5000)
      ∧ (1100 = min 1100 (1100 + 32 * ((List.range 5001).filter fun t => t % 1024 = 0 ∧ 5000 < t).length))
      ∧ [1100, 1101].map (fun n => (meterStep n 5000 ⟨entry30, Findings.start⟩).found.fate) =
          [none, some (.discarded .meter)]
      ∧ (meterStep 1101 5000 ⟨{ entry30 with record :=
          { entry30.record with meter := some ⟨32, 1100, .demote 2⟩ } }, Findings.start⟩).found.fate = some (.demoted 2) := by
  decide +kernel
/-- First, out of order, ahead, discarded and without a check; the set of W = 4 is full. -/
theorem test_witness_ForwardedFramesTeach :
    let e := windowed 4 12 [12, 11, 10]
    (e.record.sequence = some 4 ∧ e.sequence = some ⟨some 12, [12, 11, 10]⟩ ∧ SequenceState.Sound 4 ⟨some 12, [12, 11, 10]⟩)
      ∧ (Findings.outcome ⟨none, .outOfOrder, false⟩).isForwarded = true
      ∧ (sequenceStep 9 ⟨e, Findings.start⟩).found.case = .outOfOrder
      ∧ ((outcomeStep 9 ⟨e, ⟨none, .outOfOrder, false⟩⟩).sequence.map fun s => s.accepted.length) = some 4
      ∧ (sequenceStep 15 ⟨e, Findings.start⟩).found.case = .ahead 3
      ∧ (Findings.outcome ⟨some (.discarded .late), .none, true⟩).isForwarded = false
      ∧ (Findings.outcome ⟨some (.demoted 0), .first, true⟩).isForwarded = true ∧ entry30.sequence = none := by
  refine ⟨⟨rfl, rfl, ?_⟩, by decide +kernel⟩
  simp [SequenceState.Sound]
/-- Scores 0, 1 and L - 1 of L = 3; violation, clean and duplicate; and a BLOCKED and a TRIPPED entry. -/
theorem test_witness_OutcomeStepScores :
    let e (score : Nat) : StreamEntry := { entry47 with score := some score }
    ((e 2).record.trip = some 3 ∧ (e 2).state = .enabled ∧ 2 < 3)
      ∧ [0, 1, 2].map (fun n => (outcomeStep 0 ⟨e n, ⟨none, .none, true⟩⟩).score) = [some 1, some 2, some 3]
      ∧ [0, 1, 2].map (fun n => (outcomeStep 0 ⟨e n, ⟨none, .ahead 5, false⟩⟩).score) = [some 0, some 0, some 1]
      ∧ (Findings.outcome ⟨none, .ahead 5, false⟩).isForwarded = true
      ∧ (Findings.outcome ⟨some (.discarded .duplicate), .none, false⟩).isForwarded = false
      ∧ blocked9.state = .blocked ∧ ({ entry9 with state := .tripped } : StreamEntry).state = .tripped := by
  decide +kernel

/-! ## Witnesses: queues, windows, cycles and beats -/

/-- Section 6.9 at 5,009,376: Q3 empty, Q2's head does not fit, Q1's does; one tick before the window's end nothing fits;
and a DOWN and a SENDING port. -/
theorem test_witness_SelectionTakesTheFirstFittingHead :
    let f := queuedFrame 1024 0
    let g := queuedFrame 200 0
    let s := state69 5009376 [] [f] [g]
    s.Plain
      ∧ ((s.port .d).link = .up ∧ (s.port .d).transmitter = .idle ∧ (s.queue .d 1).frames = g :: []
        ∧ (s.plans.activePlan .d).opens (s.port .d).gate.window 1 = true
        ∧ g.frame.occupancy ≤ (s.port .d).gate.windowEnd - s.localTime)
      ∧ (∀ k : QueueNo, 1 < k → (s.plans.activePlan .d).opens (s.port .d).gate.window k = false
        ∨ ∀ h ∈ (s.queue .d k).frames.head?, (s.port .d).gate.windowEnd - s.localTime < h.frame.occupancy) := by
  refine ⟨plain_of (by decide +kernel), by decide +kernel, ?_⟩
  intro k hk
  have : k = 2 ∨ k = 3 := by revert k; decide
  obtain rfl | rfl := this
  · exact .inr (by intro h hh; have : queuedFrame 1024 0 = h := Option.some.inj hh; subst this; decide +kernel)
  · exact .inr (by intro h hh; cases hh)
/-- At 5,012,000 - 192 a frame of 16 bytes fits exactly, and a tick later it does not. -/
theorem test_witness_SelectionTakesTheFirstFittingHead_none :
    [5011808, 5011809].map (fun t => (state69 t [] [] [queuedFrame 0 0]).selected .d) = [some 1, none]
      ∧ (State.reset.port .u).link = .down ∧ (busyD.port .d).transmitter ≠ .idle := by decide +kernel
/-- Ages 2 and 1 under the limit 2 (section 4.10), an index that wraps, and an age limit of 0. -/
theorem test_witness_AgeingRemovesOldHeads :
    let q : Queue := ⟨8, 2, [queuedFrame 300 0xFFFFFFFF] ++ [queuedFrame 0 0], QueueCounters.zero⟩
    let s := { (up.modQueue .d 2 fun _ => q) with timer := ⟨1, 42000000, 43000000, 1000000, false⟩ }
    s.Plain ∧ (1 ≤ (s.queue .d 2).ageLimit ∧ (s.queue .d 2).frames = [queuedFrame 300 0xFFFFFFFF] ++ [queuedFrame 0 0])
      ∧ (2 ≤ (s.timer.index.toNat + 4294967296 - 0xFFFFFFFF) % 4294967296)
      ∧ ((s.timer.index.toNat + 4294967296 - 0) % 4294967296 < 2) ∧ (s.queue .d 1).ageLimit = 0 :=
  ⟨plain_of (by decide +kernel), by decide +kernel⟩
theorem test_witness_CompletionFreesTheTransmitter :
    let s := (up.setTransmitter .d (.sending 2 data9 192))
    (s.Plain ∧ s.First 192) ∧ (s.port .d).transmitter = .sending 2 data9 192 ∧ (∀ k, (s.queue .d k).frames = [])
      ∧ (s.port .u).transmitter = .idle :=
  ⟨⟨plain_of (by decide +kernel), first_of (by decide +kernel)⟩, by decide +kernel⟩

/-- A plan of two windows on port U, the first of which ends at 8,384. -/
def twoWindows : State :=
  let plan : Plan := ⟨20000, 2, ((Vector.replicate 32 none).set 0 (some ⟨8384, 8⟩)).set 1 (some ⟨11616, 7⟩)⟩
  { up with plans := { PlanBanks.default with uA := plan } }.modPort .u fun P => { P with gate := ⟨0, 8384, 0⟩ }

theorem test_witness_WindowsChangeInTurn :
    (twoWindows.Plain ∧ twoWindows.First 8384)
      ∧ (twoWindows.port .u).gate.window + 1 < (twoWindows.plans.activePlan .u).windowCount
      ∧ (twoWindows.port .u).gate.windowEnd = 8384
      ∧ (up.plans.activePlan .d).windowCount ≤ (up.port .d).gate.window + 1 :=
  ⟨⟨plain_of (by decide +kernel), first_of (by decide +kernel)⟩, by decide +kernel⟩

/-- Beat following LOCKED to port U with 3 misses and 2 faults, in a cycle that runs from 16,399,500 to 17,399,500. -/
def locked (now : Ticks) (seen : Bool) : State :=
  { up with
    localTime := now
    timer := ⟨17, 16399500, 17399500, 1000000, seen⟩
    beat := ⟨.locked, some .u, 5000, 2, 3, none, BeatCounters.zero⟩ }

theorem test_witness_ScheduledEndStartsACycle :
    (∀ seen, (locked 17000000 seen).Plain ∧ (locked 17000000 seen).First 17399500)
      ∧ (locked 17000000 false).beat.state = .locked ∧ (locked 17000000 false).timer.beatSeen = false
      ∧ (locked 17000000 true).timer.beatSeen = true ∧ (locked 17000000 false).timer.scheduledEnd = 17399500 :=
  ⟨fun seen => by cases seen <;> exact ⟨plain_of (by decide +kernel), first_of (by decide +kernel)⟩, rfl, rfl, rfl, rfl⟩

/-- A BEAT frame. -/
def beat : Frame := frameTo 0xFFFF .beat []

theorem beat_accepted (s : State) (h : s.resetHeld = false ∧ s.engine.state ≠ .resetting ∧ s.engine.state ≠ .resetDue) :
    (arriving s .u beat).Accepting .u (lastBytes beat) beat := accepting s .u beat h (by decide +kernel)

/-- A beat after the first; first beats at a = 0 and a = Tb, which re-anchor, and at a = Tb + 1 and a = C - Tb - 1, which
are faults. -/
theorem test_witness_BeatsInLockedAreJudged :
    (∀ seen : Bool, ∀ a ∈ [0, 5000, 5001, 994999],
      (arriving (locked (16399500 + a) seen) .u beat).Accepting .u (lastBytes beat) beat
        ∧ (locked (16399500 + a) seen).timer.start + a = (locked (16399500 + a) seen).localTime
        ∧ a + (locked (16399500 + a) seen).beat.tolerance < (locked (16399500 + a) seen).timer.length)
      ∧ beat.kind = .beat ∧ (locked 0 true).beat.source = some .u ∧ (locked 0 true).beat.state = .locked
      ∧ 4 * (locked 0 true).beat.tolerance ≤ (locked 0 true).timer.length
      ∧ [0, 5000, 5001, 994999].map (fun a =>
          ((locked (16399500 + a) false).firstBeat (16399500 + a)).beat.counters.faults) = [0, 0, 1, 1] := by
  refine ⟨?_, by decide +kernel⟩
  intro seen a ha
  refine ⟨beat_accepted _ ⟨rfl, by simp [locked, up, State.reset, State.coldReset, Engine.default],
    by simp [locked, up, State.reset, State.coldReset, Engine.default]⟩, rfl, ?_⟩
  have h : ∀ a ∈ [0, 5000, 5001, 994999], a + 5000 < 1000000 := by decide
  exact h a ha
/-- First beats early by Tb and by 0. -/
theorem test_witness_EarlyBeatsStartTheNextCycle :
    ∀ e ∈ [0, 5000], (arriving (locked (17399500 - e) false) .u beat).Accepting .u (lastBytes beat) beat
      ∧ (locked (17399500 - e) false).localTime + e
          = (locked (17399500 - e) false).timer.start + (locked (17399500 - e) false).timer.length
      ∧ e ≤ (locked (17399500 - e) false).beat.tolerance ∧ (locked (17399500 - e) false).timer.beatSeen = false
      ∧ 0 < (locked (17399500 - e) false).timer.length := by
  intro e he
  refine ⟨beat_accepted _ ⟨rfl, by simp [locked, up, State.reset, State.coldReset, Engine.default],
    by simp [locked, up, State.reset, State.coldReset, Engine.default]⟩, ?_⟩
  revert e
  decide +kernel
/-- SEEKING, at the instant of the cycle's start and a tick after it. -/
theorem test_witness_BeatsInSeekingAndLostLock :
    ((arriving (seeking 10000000) .u beat).Accepting .u (lastBytes beat) beat
        ∧ (arriving (seeking 10000001) .u beat).Accepting .u (lastBytes beat) beat)
      ∧ beat.kind = .beat ∧ (seeking 10000000).beat.source = some .u ∧ (seeking 10000000).beat.state = .seeking
      ∧ (seeking 10000000).timer.start = (seeking 10000000).localTime
      ∧ (seeking 10000001).timer.start ≠ (seeking 10000001).localTime :=
  ⟨⟨beat_accepted _ (by decide +kernel), beat_accepted _ (by decide +kernel)⟩, by decide +kernel⟩

/-! ## Witnesses: leases and notices -/

theorem test_witness_LeaseExpiryEndsTheSession :
    let s := state99 75000000 [e1 3, e2] 13 (some 80000000)
    (s.Plain ∧ s.First 75000000) ∧ s.session = some ⟨manager, 100, 75000000⟩ ∧ s.notice.settings.master = true
      ∧ s.notice.settings.kinds.getLsbD 4 = true ∧ s.notice.list.length < 16 ∧ up.session = none :=
  ⟨⟨plain_of (by decide +kernel), first_of (by decide +kernel)⟩, by decide +kernel⟩
/-- A disabled kind; a twin behind the entry in flight; room for a sixteenth entry; and a list of 16. -/
theorem test_witness_EventsAreListed :
    let n (kinds : BitVec 8) (l : List NoticeEntry) : NoticeUnit :=
      { NoticeUnit.default with settings := { NoticeSettings.default with kinds := kinds }, list := l }
    let l (k : Nat) : List NoticeEntry := (List.range k).map fun i => ⟨.streamTripped (Fin.ofNat 256 i), 0, 0, 1, .waiting, none⟩
    (((n 0x7F []).settings.master && (n 0x7F []).settings.kinds.getLsbD (Event.priority (.unlistedSeen .u) - 1)) = false)
      ∧ ([e1 1, e2] = [e1 1] ++ e2 :: [] ∧ e2.status = .waiting ∧ e2.event = .unlistedSeen .u
        ∧ ∀ y ∈ [e1 1], ¬ (y.status = .waiting ∧ y.event = .unlistedSeen .u))
      ∧ ((l 15).length < 16 ∧ ∀ y ∈ l 15, ¬ (y.status = .waiting ∧ y.event = .beatLost))
      ∧ (16 ≤ (l 16).length ∧ ∀ y ∈ l 16, ¬ (y.status = .waiting ∧ y.event = .beatLost))
      ∧ ((n 0xFF (l 16)).judge .beatLost 0 0).list.length = 16
      ∧ ((n 0xFF (l 15)).judge .beatLost 0 0).list.length = 16 := by decide +kernel

/-- Section 9.9's device with port U SENDING and one WAITING entry. -/
def sending99 (pool : Nat) : State :=
  { (state99 51000000 [e2] 13 none).setTransmitter .u (.sending 0 (frameTo 1 .data []) 51000100) with pool := pool }

theorem test_witness_SendsTakeTheLeadingEntry :
    (∀ pool, (sending99 pool).Plain)
      ∧ ((∀ y ∈ (sending99 1).notice.list, y.status = .waiting) ∧ (sending99 1).notice.retryTimer = none
        ∧ (sending99 1).notice.settings.master = true ∧ (sending99 1).notice.destination = some manager
        ∧ ((sending99 1).port manager.port).link = .up ∧ sendOrder (sending99 1).notice.list = e2 :: []
        ∧ (sending99 1).notice.list = [] ++ e2 :: [] ∧ e2.number = none)
      ∧ (sending99 0).pool = 0 ∧ 1 ≤ (sending99 1).pool ∧ ((sending99 1).port .u).transmitter ≠ .idle
      ∧ ((sending99 1).queue .u 3).blocks + 1 ≤ ((sending99 1).queue .u 3).limit :=
  ⟨fun _ => plain_of ⟨rfl, by simp [sending99, state99, up, State.reset, State.coldReset, Engine.default,
      State.setTransmitter, State.modPort], by simp [sending99, state99, up, State.reset, State.coldReset, Engine.default,
      State.setTransmitter, State.modPort]⟩, by decide +kernel⟩

/-- Section 9.9's device with station 0105h as destination. -/
def acked : State :=
  let s := state99 51000000 [e1 1, e2] 13 (some 60000000)
  { s with
    session := some ⟨⟨0x0105, .u⟩, 100, 75000000⟩
    notice := { s.notice with destination := some ⟨0x0105, .u⟩ } }

/-- An ACK of number 12 with a further byte, which is not read (R174); and the three strays: one payload byte, another
number, and another station, in section 9.9's device. -/
theorem test_witness_AcksConfirm :
    (∀ f ∈ [frameTo 0xFC3F .ack [0, 12, 9], frameTo 0xFC3F .ack [12], frameTo 0xFC3F .ack [0, 13]],
      (arriving acked .u f).Accepting .u (lastBytes f) f ∧ f.kind = .ack ∧ f.dest = acked.station ∧ f.src = 0x0105)
      ∧ (acked.notice.list = [] ++ e1 1 :: [e2] ∧ (e1 1).status = .inFlight 1 false ∧ (∀ y ∈ [e2], y.status = .waiting)
        ∧ acked.notice.destination = some ⟨0x0105, .u⟩ ∧ (e1 1).number = some 12
        ∧ (frameTo 0xFC3F .ack [0, 12, 9]).payload = beBytes 2 (12 : Half).toNat ++ [9])
      ∧ (frameTo 0xFC3F .ack [12]).payload.length < 2
      ∧ (e1 1).number ≠ some (BitVec.ofNat 16 (fieldAt (frameTo 0xFC3F .ack [0, 13]).payload 0 2))
      ∧ (state99 51000000 [e1 1, e2] 13 none).notice.destination.map Requester.station ≠ some 0x0105 := by
  refine ⟨?_, by decide +kernel⟩
  intro f hf
  refine ⟨accepting acked .u f (by decide +kernel) ?_, ?_⟩ <;> revert f <;> decide +kernel

/-- Section 9.9's device with this entry in flight, whose timer runs out at 60,000,000. -/
def expiring (attempts pool : Nat) : State :=
  { state99 59000000 [e1 attempts, e2] 13 (some 60000000) with pool := pool }

/-- Attempts 3 and 4 under the limit 3: the last retry, and abandonment. -/
theorem test_witness_RetryTimerExpires :
    ((expiring 4 512).Plain ∧ (expiring 4 512).First 60000000 ∧ (expiring 3 0).Plain ∧ (expiring 3 0).First 60000000)
      ∧ ((expiring 4 512).notice.retryTimer = some 60000000 ∧ (expiring 4 512).notice.list = [] ++ e1 4 :: [e2]
        ∧ (∀ y ∈ [] ++ [e2], y.status = .waiting) ∧ (e1 4).status = .inFlight 4 false
        ∧ (expiring 4 512).notice.settings.retryLimit < 4)
      ∧ (3 ≤ (expiring 3 0).notice.settings.retryLimit ∧ (expiring 3 0).notice.destination = some manager
        ∧ ((expiring 3 0).port manager.port).link = .up ∧ (expiring 3 0).pool = 0) :=
  ⟨⟨plain_of (by decide +kernel), first_of (by decide +kernel), plain_of (by decide +kernel), first_of (by decide +kernel)⟩,
    by decide +kernel⟩
/-- The destination's port DOWN; the port UP and SENDING with a block in the pool; no entry in flight; no timer. -/
theorem test_witness_RetryTimerExpires_ports :
    let down := { expiring 3 512 with portU := PortState.coldReset }
    let busy := (expiring 3 1).setTransmitter .u (.sending 0 (frameTo 1 .data []) 60000100)
    let quiet := state99 59000000 [e2] 13 (some 60000000)
    (down.Plain ∧ down.First 60000000 ∧ busy.Plain ∧ busy.First 60000000 ∧ quiet.Plain ∧ quiet.First 60000000)
      ∧ (down.port manager.port).link = .down
      ∧ ((busy.port .u).link = .up ∧ 1 ≤ busy.pool ∧ (e1 3).number = some 12 ∧ (busy.port .u).transmitter ≠ .idle
        ∧ (busy.queue .u 3).blocks + 1 ≤ (busy.queue .u 3).limit)
      ∧ (∀ y ∈ quiet.notice.list, y.status = .waiting) ∧ up.notice.retryTimer = none := by
  refine ⟨⟨plain_of ?_, first_of ?_, plain_of ?_, first_of ?_, plain_of ?_, first_of ?_⟩, ?_⟩ <;> decide +kernel
/-- Section 9.9 at 75,000,000, a twin that came earlier, and one that came at the same time in another cycle. -/
theorem test_witness_DestinationChangesMerge :
    (state99 75000000 [e1 3, e2] 13 none).notice.list = [] ++ e1 3 :: [] ++ e2 :: []
      ∧ (e1 3).status = .inFlight 3 false ∧ e2.status = .waiting ∧ e2.event = (e1 3).event
      ∧ (e1 3).firstTime < e2.firstTime
      ∧ ({ e2 with firstTime := 49000000 } : NoticeEntry).firstTime < (e1 3).firstTime
      ∧ ({ e2 with firstTime := 50000000 } : NoticeEntry).firstTime = (e1 3).firstTime ∧ e2.firstIndex ≠ (e1 3).firstIndex := by
  decide +kernel

/-! ## Witnesses: requests -/

/-- A broadcast request of STREAM_CLEAR, and one of IDENTIFY, which is answered. -/
theorem test_witness_RefusalsAndRepeats :
    let r : Request := { request .streamClear [9] with isBroadcast := true }
    let s := { held with engine := { Engine.default with queue := [r] } }
    (s.resetHeld = false ∧ s.engine.state = .idle ∧ s.engine.queue = r :: []) ∧ r.isBroadcast = true
      ∧ Op.ofCode r.op ≠ some .identify ∧ (newest (run .streamClear s)).drop 2 = [0x1A] := by decide +kernel
/-- A repeat behind another requester's entry, and the same number under another operation, which is no repeat. -/
theorem test_witness_RefusalsAndRepeats_repeat :
    let other : MemoryEntry := ⟨⟨0x0301, .d⟩, 4, 0x29, [4, 0x29, 0]⟩
    let mine : MemoryEntry := ⟨manager, 17, 0x11, [17, 0x11, 0, 1]⟩
    let s := { ask held .streamClear [5] with
      engine := { Engine.default with queue := [request .streamClear [5]], memory := [other, mine] } }
    (s.resetHeld = false ∧ s.engine.state = .idle ∧ s.engine.queue = request .streamClear [5] :: []
        ∧ s.engine.memory = [other] ++ mine :: [])
      ∧ (∀ x ∈ [other], ¬ (x.requester = manager ∧ x.number = 17 ∧ x.op = 0x11))
      ∧ (mine.requester = manager ∧ mine.number = 17 ∧ mine.op = 0x11)
      ∧ ∀ x ∈ [other, mine], ¬ (x.requester = manager ∧ x.number = 17 ∧ x.op = 0x13) := by decide +kernel
/-- An unknown code; a length one too long; no session; and another's session. -/
theorem test_witness_RefusalsAndRepeats_refused :
    Op.ofCode 0x06 = none ∧ Op.identify.lengthAgrees [0] = false
      ∧ (Op.streamClear.lengthAgrees [5] = true ∧ Op.streamClear.needsSession [5] = true ∧ up.session = none
        ∧ answerTo up .streamClear [5] = [0x10])
      ∧ (Op.counterRead.needsSession [1, 0, 0, 1] = true ∧ Op.counterRead.needsSession [1, 0, 0, 0] = false)
      ∧ answerTo { held with session := some ⟨⟨0x0301, .d⟩, 100, 50000000⟩ } .streamClear [5] = [0x11, 0x03, 0x01, 0x01] := by
  decide +kernel
theorem test_witness_ReadsReportTheDevice :
    Asks held .identify (fun _ => True) ∧ Asks held .timeRead (fun _ => True) ∧ Asks held .noticeRead (fun _ => True)
      ∧ Asks held .queueRead (fun ops => byteAt ops 0 = portByte .d ∧ (byteAt ops 1).toNat = (3 : QueueNo).val)
      ∧ Asks held .queueRead (fun ops => 1 < (byteAt ops 0).toNat)
      ∧ Asks held .queueRead (fun ops => 3 < (byteAt ops 1).toNat)
      ∧ Asks held .planRead (fun ops => byteAt ops 0 = portByte .d ∧ byteAt ops 1 = 0x00 ∧ Bank.a = held.plans.active)
      ∧ Asks held .planRead (fun ops => byteAt ops 0 = portByte .u ∧ byteAt ops 1 = 0x01 ∧ Bank.b = held.plans.active.other)
      ∧ Asks held .planRead (fun ops => 1 < (byteAt ops 0).toNat)
      ∧ Asks held .planRead (fun ops => 1 < (byteAt ops 1).toNat) :=
  ⟨asks held_ready [] rfl trivial, asks held_ready [] rfl trivial, asks held_ready [] rfl trivial,
    asks held_ready [1, 3] rfl (by decide), asks held_ready [2, 3] rfl (by decide), asks held_ready [1, 4] rfl (by decide),
    asks held_ready [1, 0] rfl (by decide), asks held_ready [0, 1] rfl (by decide), asks held_ready [2, 1] rfl (by decide),
    asks held_ready [1, 2] rfl (by decide)⟩

theorem held9_ready :
    held9.resetHeld = false ∧ held9.engine.state = .idle ∧ held9.engine.memory = [] ∧ held9.isHolder manager = true := by
  decide

theorem held_free (i : StreamIndex) : held.entry i = none := Vector.getElem_replicate i.isLt
theorem held9_nine : held9.entry 9 = some entry9 := by decide +kernel

theorem record9_in_range : record9.InRange := by simp [record9, StreamRecord.InRange]

/-- STREAM_READ of a FREE entry and of section 2.9's; STREAM_FIND at the bounds of the source and of the tag. -/
theorem test_witness_StreamReadsReport :
    (record9.InRange ∧ (ask held9 .streamFind [0, 0x01, 0x05, 0, 10]).KeysUnique)
      ∧ Asks held .streamRead (fun ops => held.entry (byteAt ops 0).toFin = none)
      ∧ Asks held9 .streamRead (fun ops => held9.entry (byteAt ops 0).toFin = some entry9)
      ∧ Asks held9 .streamFind (fun ops => 1 < (byteAt ops 0).toNat) ∧ Asks held9 .streamFind (fun ops => fieldAt ops 1 2 = 0)
      ∧ Asks held9 .streamFind (fun ops => fieldAt ops 1 2 = 0xFFFF) ∧ Asks held9 .streamFind (fun ops => 4095 < fieldAt ops 3 2)
      ∧ Asks held9 .streamFind (fun ops => byteAt ops 0 = portByte .u ∧ fieldAt ops 1 2 = entry9.record.key.source.toNat
        ∧ fieldAt ops 3 2 = entry9.record.key.tag.toNat ∧ held9.entry 9 = some entry9)
      ∧ Asks held .streamFind (fun ops => byteAt ops 0 = portByte .d ∧ fieldAt ops 1 2 = 0xFFFE ∧ fieldAt ops 3 2 = 4095
        ∧ ∀ i e, held.entry i = some e → e.record.key ≠ ⟨.d, 0xFFFE, 4095⟩) :=
  ⟨⟨record9_in_range, held9_keys⟩, asks held_ready [9] rfl (held_free 9), asks held9_ready [9] rfl held9_nine,
    asks held9_ready [2, 1, 5, 0, 10] rfl (by decide), asks held9_ready [0, 0, 0, 0, 10] rfl (by decide),
    asks held9_ready [0, 0xFF, 0xFF, 0, 10] rfl (by decide), asks held9_ready [0, 1, 5, 0x10, 0] rfl (by decide),
    asks held9_ready [0, 1, 5, 0, 10] rfl ⟨by decide, by decide, by decide, held9_nine⟩,
    asks held_ready [1, 0xFF, 0xFE, 0x0F, 0xFF] rfl
      ⟨by decide, by decide, by decide, fun i e h => by rw [held_free] at h; cases h⟩⟩

/-- SESSION_OPEN takes no session, so it is taken from a requester that holds none. -/
theorem taking_open (s : State) (ops : List Byte)
    (hs : s.resetHeld = false ∧ s.engine.state = .idle ∧ s.engine.memory = []) (h : ops.length = 2) :
    (ask s .sessionOpen ops).Taking .sessionOpen (request .sessionOpen ops) [] where
  running := hs.1
  idle := hs.2.1
  head := rfl
  code := ofCode_code .sessionOpen
  unicast := by intro hb; cases hb
  fresh := by intro m hm; have : m ∈ s.engine.memory := hm; rw [hs.2.2] at this; cases this
  length := by simp [Op.lengthAgrees]; exact h
  holder := by intro hn; cases hn

/-- Leases of 9, 10, 60,000 and 60,001 ms; another's session, the own one and none. -/
theorem test_witness_SessionRequestsAreAnswered :
    (fieldAt [0, 9] 0 2 = 9 ∧ fieldAt [0, 10] 0 2 = 10 ∧ fieldAt [0xEA, 0x60] 0 2 = 60000 ∧ fieldAt [0xEA, 0x61] 0 2 = 60001)
      ∧ (∀ ops ∈ [[0, 9], [0, 10], [0xEA, 0x60], [0xEA, 0x61]],
        (ask up .sessionOpen ops).Taking .sessionOpen (request .sessionOpen ops) []
          ∧ (ask held .sessionOpen ops).Taking .sessionOpen (request .sessionOpen ops) []
          ∧ (ask { up with session := some ⟨⟨0x0301, .d⟩, 100, 5⟩ } .sessionOpen ops).Taking .sessionOpen
            (request .sessionOpen ops) [])
      ∧ up.session = none ∧ held.session.map Session.holder = some manager
      ∧ Asks held .sessionKeep (fun _ => held.session = some ⟨manager, 100, 50000000⟩)
      ∧ Asks held .sessionClose (fun _ => True) := by
  refine ⟨by decide +kernel, ?_, rfl, rfl, asks held_ready [] rfl rfl, asks held_ready [] rfl trivial⟩
  intro ops h
  have hl : ops.length = 2 := by revert ops; decide
  exact ⟨taking_open _ ops (by decide) hl, taking_open _ ops (by decide) hl, taking_open _ ops ⟨rfl, rfl, rfl⟩ hl⟩

/-- The reply is built and waits behind a frame; with the port DOWN it is not built. -/
theorem test_witness_UnitResetAwaitsItsReply :
    let busy := held.setTransmitter .u (.sending 0 (frameTo 1 .data []) 100)
    let down := { held with portU := PortState.coldReset }
    ((ask busy .unitReset []).Taking .unitReset (request .unitReset []) []
        ∧ (ask down .unitReset []).Taking .unitReset (request .unitReset []) [])
      ∧ ((ask busy .unitReset []).atStep6 (request .unitReset []) []).canReply (request .unitReset []) [17, 2, 0] = true
      ∧ ((ask busy .unitReset []).port .u).transmitter ≠ .idle
      ∧ ((ask busy .unitReset []).queue .u 3).blocks + 1 ≤ ((ask busy .unitReset []).queue .u 3).limit
      ∧ ((ask down .unitReset []).atStep6 (request .unitReset []) []).canReply (request .unitReset []) [17, 2, 0] = false := by
  refine ⟨⟨taking _ _ _ (by decide +kernel) rfl, taking _ _ _ (by decide +kernel) rfl⟩, ?_⟩
  decide +kernel

/-- RESETTING with the awaited reply at the head of U.Q3 while port U sends a frame until 192. -/
def resetting : State :=
  { (up.setTransmitter .u (.sending 0 data9 192)).modQueue .u 3 fun Q =>
      { Q with frames := [⟨data9, 0, .reply true⟩] } with engine := { Engine.default with state := .resetting } }

theorem test_witness_UnitResetAwaitsItsReply_departure :
    resetting.First 192 ∧ (resetting.resetHeld = false ∧ resetting.engine.state = .resetting ∧ (resetting.port .u).link = .up)
      ∧ (resetting.port .u).transmitter = .sending 0 data9 192
      ∧ (resetting.queue .u 3).frames = ⟨data9, 0, .reply true⟩ :: []
      ∧ (∃ g ∈ (resetting.queue .u 3).frames, g.origin = .reply true)
      ∧ (resetting.plans.activePlan .u).opens (resetting.port .u).gate.window 3 = true
      ∧ data9.occupancy ≤ (resetting.port .u).gate.windowEnd - 192
      ∧ (run (.linkDown .u) resetting).timer.index = 1 ∧ (run (.transmissionCompletion .u) resetting).timer.index = 1 :=
  ⟨first_of (by decide +kernel), by decide +kernel⟩

/-- A record out of range; a key elsewhere; a write without the flag, to a FREE entry and under another key; and
keep-state. -/
theorem test_witness_StreamWritesReplaceTheEntry :
    Asks held9 .streamWrite (fun ops => recordOf (ops.drop 2) = none)
      ∧ Asks held9 .streamWrite (fun ops => (byteAt ops 0).toFin = 8 ∧ recordOf (ops.drop 2) = some record9
        ∧ held9.entry 9 = some entry9 ∧ entry9.record.key = record9.key)
      ∧ Asks held9 .streamWrite (fun ops => (byteAt ops 0).toFin = 9 ∧ recordOf (ops.drop 2) = some record9 ∧ byteAt ops 1 = 0)
      ∧ Asks held .streamWrite (fun ops => (byteAt ops 0).toFin = 9 ∧ recordOf (ops.drop 2) = some record9
        ∧ held.entry 9 = none)
      ∧ Asks held9 .streamWrite (fun ops => (byteAt ops 0).toFin = 9 ∧ byteAt ops 1 ≠ 0
        ∧ (recordOf (ops.drop 2)).map StreamRecord.key = some ⟨.u, 0x0105, 11⟩ ∧ held9.entry 9 = some entry9)
      ∧ Asks held9 .streamWrite (fun ops => (byteAt ops 0).toFin = 9 ∧ byteAt ops 1 ≠ 0
        ∧ recordOf (ops.drop 2) = some record9 ∧ held9.entry 9 = some entry9 ∧ entry9.record.key = record9.key)
      ∧ ∀ j e, j ≠ 9 → held9.entry j = some e → e.record.key ≠ record9.key := by
  refine ⟨asks held9_ready [9, 1, 0x03, 0, 1, 5, 0, 10, 0, 0] rfl (by decide +kernel),
    asks held9_ready (8 :: write9.drop 1) rfl ⟨by decide, test_record.1, held9_nine, rfl⟩,
    asks held9_ready (9 :: 0 :: write9.drop 2) rfl ⟨by decide, test_record.1, rfl⟩,
    asks held_ready write9 rfl ⟨by decide, test_record.1, held_free 9⟩,
    asks held9_ready (write9.take 7 ++ [11] ++ write9.drop 8) rfl ⟨by decide, by decide, by decide +kernel, held9_nine⟩,
    asks held9_ready write9 rfl ⟨by decide, by decide, test_record.1, held9_nine, rfl⟩, ?_⟩
  intro j e hj he
  exact absurd (held9_entry he).1 hj
/-- A FREE entry, an entry that is not, and the bounds of the state byte. -/
theorem test_witness_StreamStatesChange :
    Asks held9 .streamClear (fun ops => (byteAt ops 0).toFin = 9)
      ∧ Asks held9 .streamState (fun ops => byteAt ops 1 = 0x00) ∧ Asks held9 .streamState (fun ops => byteAt ops 1 = 0x03)
      ∧ Asks held .streamState (fun ops => byteAt ops 1 = 0x01 ∧ held.entry (byteAt ops 0).toFin = none)
      ∧ Asks held9 .streamState (fun ops => byteAt ops 1 = 0x01 ∧ held9.entry (byteAt ops 0).toFin = some entry9)
      ∧ Asks held9 .streamState (fun ops => byteAt ops 1 = 0x02 ∧ held9.entry (byteAt ops 0).toFin = some entry9)
      ∧ Asks held .streamReset (fun ops => held.entry (byteAt ops 0).toFin = none)
      ∧ Asks held9 .streamReset (fun ops => held9.entry (byteAt ops 0).toFin = some entry9) :=
  ⟨asks held9_ready [9] rfl (by decide), asks held9_ready [9, 0] rfl (by decide), asks held9_ready [9, 3] rfl (by decide),
    asks held_ready [9, 1] rfl ⟨by decide, held_free 9⟩, asks held9_ready [9, 1] rfl ⟨by decide, held9_nine⟩,
    asks held9_ready [9, 2] rfl ⟨by decide, held9_nine⟩, asks held_ready [9, 0] rfl (held_free 9),
    asks held9_ready [9, 1] rfl held9_nine⟩
/-- Sources 0000h, 0001h, FFFEh and FFFFh; the visit of entry 254, which is followed by 255, and of 255, the last. -/
theorem test_witness_PurgesWalkTheTable :
    Asks held9 .streamPurge (fun ops => fieldAt ops 0 2 = 0) ∧ Asks held9 .streamPurge (fun ops => fieldAt ops 0 2 = 0xFFFF)
      ∧ Asks held9 .streamPurge (fun ops => fieldAt ops 0 2 = 1) ∧ Asks held9 .streamPurge (fun ops => fieldAt ops 0 2 = 0xFFFE)
      ∧ (∀ i : StreamIndex, ({ held9 with engine := { Engine.default with
          state := .purging (request .streamPurge [1, 5]) 0x0105 i 0 0 } } : State).Plain)
      ∧ (254 : StreamIndex).val + 1 = (255 : StreamIndex).val ∧ up.Plain
      ∧ ∀ r source i n taken, up.engine.state ≠ .purging r source i n taken :=
  ⟨asks held9_ready [0, 0] rfl (by decide), asks held9_ready [0xFF, 0xFF] rfl (by decide),
    asks held9_ready [0, 1] rfl (by decide), asks held9_ready [0xFF, 0xFE] rfl (by decide),
    fun i => ⟨rfl, by simp, by simp⟩, by decide, plain_of (by decide +kernel),
    by intros; simp [up, State.reset, State.coldReset, Engine.default]⟩
theorem test_witness_SettingsAreReplaced_unlisted :
    Asks held .unlistedSet (fun ops => byteAt ops 0 = portByte .d ∧ byteAt ops 1 = 0x01)
      ∧ Asks held .unlistedSet (fun ops => byteAt ops 0 = portByte .u ∧ byteAt ops 1 = 0x00
        ∧ (byteAt ops 2).toNat = (2 : DataQueueNo).val)
      ∧ Asks held .unlistedSet (fun ops => 1 < (byteAt ops 0).toNat)
      ∧ Asks held .unlistedSet (fun ops => 1 < (byteAt ops 1).toNat)
      ∧ Asks held .unlistedSet (fun ops => byteAt ops 1 = 0x00 ∧ 2 < (byteAt ops 2).toNat) :=
  ⟨asks held_ready [1, 1, 3] rfl (by decide), asks held_ready [0, 0, 2] rfl (by decide), asks held_ready [2, 0, 0] rfl (by decide),
    asks held_ready [0, 2, 0] rfl (by decide), asks held_ready [0, 0, 3] rfl (by decide)⟩
theorem test_witness_SettingsAreReplaced_queue :
    Asks held .queueSet (fun ops => byteAt ops 0 = portByte .d ∧ (byteAt ops 1).toNat = (3 : QueueNo).val
        ∧ fieldAt ops 2 2 = 512 ∧ fieldAt ops 4 2 = 1000)
      ∧ Asks held .queueSet (fun ops => byteAt ops 0 = portByte .u ∧ fieldAt ops 2 2 = 1 ∧ fieldAt ops 4 2 = 0)
      ∧ Asks held .queueSet (fun ops => 1 < (byteAt ops 0).toNat) ∧ Asks held .queueSet (fun ops => 3 < (byteAt ops 1).toNat)
      ∧ Asks held .queueSet (fun ops => fieldAt ops 2 2 = 0) ∧ Asks held .queueSet (fun ops => fieldAt ops 2 2 = 513)
      ∧ Asks held .queueSet (fun ops => fieldAt ops 4 2 = 1001) :=
  ⟨asks held_ready [1, 3, 2, 0, 0x03, 0xE8] rfl (by decide), asks held_ready [0, 0, 0, 1, 0, 0] rfl (by decide),
    asks held_ready [2, 0, 0, 1, 0, 0] rfl (by decide), asks held_ready [0, 4, 0, 1, 0, 0] rfl (by decide),
    asks held_ready [0, 0, 0, 0, 0, 0] rfl (by decide), asks held_ready [0, 0, 2, 1, 0, 0] rfl (by decide),
    asks held_ready [0, 0, 0, 1, 0x03, 0xE9] rfl (by decide)⟩
/-- Tb at 100, 99, 100,000 and 100,001, at C/4 = 250 and 251 in a cycle of 1,000, and at a quarter of a staged length of
1,000; sources U, none, 2 and 254. -/
theorem test_witness_SettingsAreReplaced_beat :
    (Asks held .beatSet (fun ops => byteAt ops 0 = portByte .u ∧ fieldAt ops 1 4 = 100)
        ∧ Asks held .beatSet (fun ops => byteAt ops 0 = 0xFF ∧ fieldAt ops 1 4 = 100000 ∧ 4 * 100000 ≤ held.timer.length)
        ∧ Asks held .beatSet (fun ops => fieldAt ops 1 4 = 99) ∧ Asks held .beatSet (fun ops => fieldAt ops 1 4 = 100001)
        ∧ Asks held .beatSet (fun ops => byteAt ops 0 = 2) ∧ Asks held .beatSet (fun ops => byteAt ops 0 = 254))
      ∧ Asks { held with timer := ⟨0, 0, 1000, 1000, false⟩ } .beatSet (fun ops => 4 * fieldAt ops 1 4 = 1000)
      ∧ Asks { held with timer := ⟨0, 0, 1000, 1000, false⟩ } .beatSet (fun ops => 1000 < 4 * fieldAt ops 1 4)
      ∧ Asks { pendingHeld with plans := { pendingHeld.plans with uB := { Plan.default with cycleLength := 1000 } } } .beatSet
        (fun ops => 1000 < 4 * fieldAt ops 1 4) :=
  ⟨⟨asks held_ready [0, 0, 0, 0, 100] rfl (by decide), asks held_ready [0xFF, 0, 1, 0x86, 0xA0] rfl (by decide),
      asks held_ready [0, 0, 0, 0, 99] rfl (by decide), asks held_ready [0, 0, 1, 0x86, 0xA1] rfl (by decide),
      asks held_ready [2, 0, 0, 0, 100] rfl (by decide), asks held_ready [254, 0, 0, 0, 100] rfl (by decide)⟩,
    asks (by decide) [0, 0, 0, 0, 250] rfl (by decide), asks (by decide) [0, 0, 0, 0, 251] rfl (by decide),
    asks (by decide) [0, 0, 0, 0, 251] rfl (by decide)⟩
theorem test_witness_StagedPlansChange_header :
    held.plans.commitPending = false ∧ pendingHeld.plans.commitPending = true
      ∧ Asks pendingHeld .planHeader (fun _ => True) ∧ Asks pendingHeld .planWindows (fun _ => True)
      ∧ Asks pendingHeld .planRevert (fun _ => True) ∧ Asks held .planRevert (fun _ => True)
      ∧ Asks held .planHeader (fun ops => byteAt ops 0 = portByte .d ∧ fieldAt ops 1 4 = 1000 ∧ (byteAt ops 5).toNat = 1)
      ∧ Asks held .planHeader (fun ops => byteAt ops 0 = portByte .u ∧ fieldAt ops 1 4 = 10000000 ∧ (byteAt ops 5).toNat = 32)
      ∧ Asks held .planHeader (fun ops => 1 < (byteAt ops 0).toNat) ∧ Asks held .planHeader (fun ops => fieldAt ops 1 4 = 999)
      ∧ Asks held .planHeader (fun ops => fieldAt ops 1 4 = 10000001) ∧ Asks held .planHeader (fun ops => (byteAt ops 5).toNat = 0)
      ∧ Asks held .planHeader (fun ops => (byteAt ops 5).toNat = 33) :=
  ⟨rfl, rfl, asks pendingHeld_ready [0, 0, 0, 0x03, 0xE8, 1] rfl trivial,
    asks pendingHeld_ready [0, 0, 1, 0, 0, 0, 100, 1] rfl trivial, asks pendingHeld_ready [] rfl trivial,
    asks held_ready [] rfl trivial, asks held_ready [1, 0, 0, 0x03, 0xE8, 1] rfl (by decide),
    asks held_ready [0, 0, 0x98, 0x96, 0x80, 32] rfl (by decide), asks held_ready [2, 0, 0, 0x03, 0xE8, 1] rfl (by decide),
    asks held_ready [0, 0, 0, 0x03, 0xE7, 1] rfl (by decide), asks held_ready [0, 0, 0x98, 0x96, 0x81, 1] rfl (by decide),
    asks held_ready [0, 0, 0, 0x03, 0xE8, 0] rfl (by decide), asks held_ready [0, 0, 0, 0x03, 0xE8, 33] rfl (by decide)⟩
/-- One window in slot 31, at the shortest duration with no queue open; eight windows in slots 24 to 31, at the longest with
all open; and each operand out of its range. -/
theorem test_witness_StagedPlansChange_windows :
    Asks held .planWindows (fun ops => byteAt ops 0 = portByte .u ∧ (byteAt ops 1).toNat = 31 ∧ (byteAt ops 2).toNat = 1
        ∧ ∀ k, k < 1 → 100 ≤ fieldAt ops (3 + 5 * k) 4 ∧ fieldAt ops (3 + 5 * k) 4 ≤ 10000000
          ∧ (byteAt ops (7 + 5 * k)).toNat < 16)
      ∧ Asks held .planWindows (fun ops => byteAt ops 0 = portByte .d ∧ (byteAt ops 1).toNat = 24 ∧ (byteAt ops 2).toNat = 8
        ∧ ∀ k, k < 8 → 100 ≤ fieldAt ops (3 + 5 * k) 4 ∧ fieldAt ops (3 + 5 * k) 4 ≤ 10000000
          ∧ (byteAt ops (7 + 5 * k)).toNat < 16)
      ∧ Asks held .planWindows (fun ops => 1 < (byteAt ops 0).toNat) ∧ Asks held .planWindows (fun ops => (byteAt ops 1).toNat = 32)
      ∧ Asks held .planWindows (fun ops => (byteAt ops 2).toNat = 0) ∧ Asks held .planWindows (fun ops => (byteAt ops 2).toNat = 9)
      ∧ Asks held .planWindows (fun ops => (byteAt ops 1).toNat = 31 ∧ (byteAt ops 2).toNat = 2)
      ∧ Asks held .planWindows (fun ops => 0 < (byteAt ops 2).toNat ∧ fieldAt ops 3 4 = 99)
      ∧ Asks held .planWindows (fun ops => 0 < (byteAt ops 2).toNat ∧ fieldAt ops 3 4 = 10000001)
      ∧ Asks held .planWindows (fun ops => 0 < (byteAt ops 2).toNat ∧ (byteAt ops 7).toNat = 16) :=
  ⟨asks held_ready [0, 31, 1, 0, 0, 0, 100, 0] rfl ⟨by decide, by decide, by decide, by decide⟩,
    asks held_ready ([1, 24, 8] ++ (List.replicate 8 [(0 : Byte), 0x98, 0x96, 0x80, 0x0F]).flatten) rfl
      ⟨by decide, by decide, by decide, by decide +kernel⟩,
    asks held_ready [2, 0, 1, 0, 0, 0, 100, 0] rfl (by decide), asks held_ready [0, 32, 1, 0, 0, 0, 100, 0] rfl (by decide),
    asks held_ready [0, 0, 0] rfl (by decide),
    asks held_ready ([0, 0, 9] ++ (List.replicate 9 [(0 : Byte), 0, 0, 100, 0]).flatten) rfl (by decide),
    asks held_ready [0, 31, 2, 0, 0, 0, 100, 0, 0, 0, 0, 100, 0] rfl (by decide),
    asks held_ready [0, 0, 1, 0, 0, 0, 99, 0] rfl (by decide), asks held_ready [0, 0, 1, 0, 0x98, 0x96, 0x81, 0] rfl (by decide),
    asks held_ready [0, 0, 1, 0, 0, 0, 100, 16] rfl (by decide)⟩

/-- The manager's device with these staged plans. -/
def staged (u d : Plan) : State := { held with plans := { PlanBanks.default with uB := u, dB := d } }

/-- A plan of one window of this duration and open set, under this cycle length. -/
def oneWindow (length duration : Nat) (openSet : BitVec 4) : Plan :=
  ⟨length, 1, (Vector.replicate 32 none).set 0 (some ⟨duration, openSet⟩)⟩

/-- Each of the eight tests at its bound: an unset slot 1 of U and of D, sums one off, Q3 closed and Q3 open for 8,383 and
for 8,384 ticks, lengths that differ, and Tb above and at a quarter. -/
theorem test_witness_CommitsAreJudged :
    (Asks held .planCommit (fun _ => True) ∧ Asks pendingHeld .planCommit (fun _ => True)
        ∧ Asks pendingHeld .planCancel (fun _ => True) ∧ Asks held .planCancel (fun _ => True))
      ∧ (let good := oneWindow 8384 8384 8
        [(staged { good with windowCount := 2 } good).commitFault, (staged good { good with windowCount := 2 }).commitFault,
          (staged (oneWindow 8385 8384 8) good).commitFault, (staged good (oneWindow 8384 8384 7)).commitFault,
          (staged good (oneWindow 8383 8383 8)).commitFault, (staged good (oneWindow 8388 8388 8)).commitFault,
          { staged good good with beat := { BeatFollowing.default with state := .lost, tolerance := 2097 } }.commitFault,
          { staged good good with beat := { BeatFollowing.default with state := .lost, tolerance := 2096 } }.commitFault]) =
        [some [1, 0, 1], some [1, 1, 1], some [2, 0, 0, 0, 0x20, 0xC0], some [3, 1], some [3, 1],
          some [4, 0, 0, 0x20, 0xC0, 0, 0, 0x20, 0xC4], some [5, 0, 0, 0x08, 0x31, 0, 0, 0x20, 0xC0], none] := by
  refine ⟨⟨asks held_ready [] rfl trivial, asks pendingHeld_ready [] rfl trivial, asks pendingHeld_ready [] rfl trivial,
    asks held_ready [] rfl trivial⟩, ?_⟩
  decide +kernel
/-- The staged plans of the last two rows are both whole, sum up and have a Q3 window. -/
theorem test_witness_CommitsAreJudged_plans :
    let x := oneWindow 8384 8384 8
    (∀ k, k < x.windowCount → x.slot k ≠ none) ∧ x.span x.windowCount = x.cycleLength
      ∧ ∃ k, k < x.windowCount ∧ x.opens k 3 = true ∧ 8384 ≤ x.duration k := by
  refine ⟨by decide +kernel, by decide +kernel, 0, by decide +kernel⟩
/-- Station 0000h with port byte 7, station FFFEh on D, and each field at and beyond its bound. -/
theorem test_witness_NoticeSettingsChange :
    (Asks held .noticeSet (fun ops => fieldAt ops 1 2 = 255 ∧ fieldAt ops 3 2 = 0 ∧ byteAt ops 5 = 7 ∧ fieldAt ops 6 2 = 1
          ∧ (byteAt ops 8).toNat = 15)
        ∧ Asks held .noticeSet (fun ops => fieldAt ops 3 2 = 0xFFFE ∧ byteAt ops 5 = portByte .d ∧ fieldAt ops 6 2 = 1000
          ∧ 0xFFFE ≠ held.station.toNat))
      ∧ Asks held .noticeSet (fun ops => fieldAt ops 1 2 = 256) ∧ Asks held .noticeSet (fun ops => fieldAt ops 6 2 = 0)
      ∧ Asks held .noticeSet (fun ops => fieldAt ops 6 2 = 1001) ∧ Asks held .noticeSet (fun ops => (byteAt ops 8).toNat = 16)
      ∧ Asks held .noticeSet (fun ops => fieldAt ops 3 2 = 0xFFFF)
      ∧ Asks held .noticeSet (fun ops => fieldAt ops 3 2 = held.station.toNat)
      ∧ Asks held .noticeSet (fun ops => fieldAt ops 3 2 = 1 ∧ 1 < (byteAt ops 5).toNat) :=
  ⟨⟨asks held_ready [0, 0, 0xFF, 0, 0, 7, 0, 1, 15] rfl (by decide),
      asks held_ready [1, 0, 0, 0xFF, 0xFE, 1, 0x03, 0xE8, 0] rfl (by decide)⟩,
    asks held_ready [0, 1, 0, 0, 0, 0, 0, 1, 0] rfl (by decide), asks held_ready [0, 0, 0, 0, 0, 0, 0, 0, 0] rfl (by decide),
    asks held_ready [0, 0, 0, 0, 0, 0, 0x03, 0xE9, 0] rfl (by decide), asks held_ready [0, 0, 0, 0, 0, 0, 0, 1, 16] rfl (by decide),
    asks held_ready [0, 0, 0, 0xFF, 0xFF, 0, 0, 1, 0] rfl (by decide), asks held_ready [0, 0, 0, 0xFC, 0x3F, 0, 0, 1, 0] rfl (by decide),
    asks held_ready [0, 0, 0, 0, 1, 2, 0, 1, 0] rfl (by decide)⟩
/-- Groups 00h and 08h, a queue of port 2 and queue 4, a stream index above 255, a MANAGEMENT selector other than 0000h; the
set of a FREE entry; and sets of all seven groups. -/
theorem test_witness_CounterReadsClearOneSet :
    Asks held .counterRead (fun ops => counterSetOf (byteAt ops 0) (byteAt ops 1) (byteAt ops 2) = none)
      ∧ [(0, 0, 0), (8, 0, 0), (3, 2, 0), (3, 1, 4), (2, 1, 0), (6, 0, 1), (1, 2, 0)].map
          (fun x : Byte × Byte × Byte => counterSetOf x.1 x.2.1 x.2.2) = [none, none, none, none, none, none, none]
      ∧ [(1, 1, 9), (2, 0, 255), (3, 1, 3), (4, 0, 0), (5, 0, 0), (6, 0, 0), (7, 0, 0)].map
          (fun x : Byte × Byte × Byte => counterSetOf x.1 x.2.1 x.2.2) =
          [some (.port .d), some (.stream 255), some (.queue .d 3), some (.gate .u), some .beat, some .management, some .notice]
      ∧ Asks held .counterRead (fun ops => counterSetOf (byteAt ops 0) (byteAt ops 1) (byteAt ops 2) = some (.stream 9)
        ∧ held.members (.stream 9) = none)
      ∧ Asks held9 .counterRead (fun ops => counterSetOf (byteAt ops 0) (byteAt ops 1) (byteAt ops 2) = some (.stream 9)
        ∧ held9.members (.stream 9) = some [95, 0, 0, 0, 12, 0, 0, 0, 3] ∧ byteAt ops 3 ≠ 0) :=
  ⟨asks held_ready [0, 0, 0, 0] rfl (by decide), by decide +kernel, by decide +kernel,
    asks held_ready [2, 0, 9, 0] rfl (by decide +kernel), asks held9_ready [2, 0, 9, 1] rfl (by decide +kernel)⟩


/-! ## Witnesses: the device by itself, offers, copies and admissions -/

/-- Held; a completion due; nothing due, no walk, no request; and a request that could be taken. -/
theorem test_witness_TheDeviceActsByItself :
    ((run .resetNAsserted up).pending = [] ∧ (run .resetNAsserted up).resetHeld = true)
      ∧ (State.reset.pending = [] ∧ State.reset.resetHeld = false ∧ (∀ d ∈ State.reset.deadlines, State.reset.localTime < d)
        ∧ State.reset.engine.state = .idle ∧ State.reset.engine.queue = [])
      ∧ ({ resetting with localTime := 191 }.dueEvents, { resetting with localTime := 192 }.dueEvents) =
          ([], [Instr.transmissionCompletion .u])
      ∧ (ask held .identify []).options = [some .identify, none] := by decide +kernel
/-- The tick from reset: local time 1 and nothing else. -/
theorem test_idle_tick : (match step State.reset with
    | .next t => decide (t = { State.reset with localTime := 1 })
    | _ => false) = true := by decide +kernel
/-- A DOWN port; a full queue; and a queue that has room, open and, with the window of section 6.9, closed. -/
theorem test_witness_FramesAreRoutedByDestination_offers :
    let f := frameTo 0xFFFF .reply []
    (downD.port .d).link = .down
      ∧ ((fullD.port .d).link = .up ∧ (fullD.queue .d 3).limit < (fullD.queue .d 3).blocks + f.blocks)
      ∧ ((up.port .d).link = .up ∧ (up.queue .d 3).blocks + f.blocks ≤ (up.queue .d 3).limit
        ∧ (up.plans.activePlan .d).opens (up.port .d).gate.window 3 = true)
      ∧ (((state69 0 [] [] []).port .d).link = .up
        ∧ ((state69 0 [] [] []).queue .d 0).blocks + f.blocks ≤ ((state69 0 [] [] []).queue .d 0).limit
        ∧ ((state69 0 [] [] []).plans.activePlan .d).opens ((state69 0 [] [] []).port .d).gate.window 0 = false) := by
  decide +kernel

/-- Four requests wait, and D.Q3 has room behind the frame that port D sends. -/
def busyFull : State := { busyD with engine := { Engine.default with queue := List.replicate 4 (request .identify []) } }

/-- The engine walks the table for a purge with 3 requests behind, and D.Q3 has room behind the frame that port D sends. -/
def busyPurging : State :=
  { busyD with engine := { purging.engine with queue := List.replicate 3 (request .identify []) } }

/-- The copy admitted with the request dropped and with the request admitted; an IDLE engine with no request. -/
theorem test_witness_BroadcastControlIsCopied_copies :
    let f := frameTo 0xFFFF .control [17, 1]
    ((arriving busyFull .u f).Accepting .u (lastBytes f) f ∧ (arriving busyPurging .u f).Accepting .u (lastBytes f) f
        ∧ (arriving up .u f).Accepting .u (lastBytes f) f)
      ∧ (4 ≤ busyFull.engine.queue.length ∧ busyPurging.engine.queue.length = 3 ∧ busyPurging.engine.state ≠ .idle)
      ∧ ((busyD.port .d).link = .up ∧ (busyD.port .d).transmitter ≠ .idle
        ∧ (busyD.queue .d 3).blocks + f.blocks ≤ (busyD.queue .d 3).limit
        ∧ f.blocks ≤ (arriving busyFull .u f).pool ∧ f.blocks ≤ (arriving busyPurging .u f).pool)
      ∧ up.resetHeld = false ∧ up.engine.state = .idle ∧ up.engine.queue = [] := by
  refine ⟨⟨accepting busyFull .u _ (by decide +kernel) (by decide +kernel),
    accepting busyPurging .u _ (by decide +kernel) (by decide +kernel),
    accepting up .u _ (by decide +kernel) (by decide +kernel)⟩, ?_⟩
  decide +kernel
/-- An IDLE engine with an empty queue, and with 3 requests, the head of which is taken. -/
theorem test_witness_RequestsAreAdmitted_idle :
    let f := frameTo 0xFC3F .control [17, 1]
    let three := { up with engine := { Engine.default with queue := List.replicate 3 (request .timeRead []) } }
    ((arriving up .u f).Accepting .u (lastBytes f) f ∧ (arriving three .u f).Accepting .u (lastBytes f) f)
      ∧ (f.payload = 17 :: 1 :: [] ∧ up.engine.state = .idle ∧ three.engine.state = .idle)
      ∧ up.engine.queue ++ [⟨⟨f.src, .u⟩, false, f.seq, 17, 1, []⟩] = ⟨⟨f.src, .u⟩, false, f.seq, 17, 1, []⟩ :: []
      ∧ (three.engine.queue.length = 3 ∧ three.engine.queue ++ [⟨⟨f.src, .u⟩, false, f.seq, 17, 1, []⟩] =
          request .timeRead [] :: (List.replicate 2 (request .timeRead []) ++ [⟨⟨f.src, .u⟩, false, f.seq, 17, 1, []⟩])) := by
  refine ⟨⟨accepting up .u _ (by decide +kernel) (by decide +kernel), ?_⟩, by decide +kernel⟩
  exact accepting _ .u _ (by decide +kernel) (by decide +kernel)

/-! ## Witnesses: trips, misses and the series -/

/-- Section 2.9's entry one violation below its limit of 5, its last arrival at 4,810,000. -/
def nearTrip (early : EarlyAction) : StreamEntry :=
  { entry9 with score := some 4, record := { entry9.record with cadence := some ⟨100000, 2000, early⟩ } }

/-- The device with that entry at 4,907,999, one tick too early for the next arrival. -/
def early9 (early : EarlyAction) : State :=
  { held.setEntry 9 (some (nearTrip early)) with localTime := 4907999, timer := ⟨4, 4000000, 5000000, 1000000, false⟩ }

theorem early9_keys (early : EarlyAction) : (early9 early).KeysUnique := by
  have hz : (early9 early).table =
      (Vector.replicate 256 (none : Option StreamEntry)).set (9 : StreamIndex) (some (nearTrip early)) := rfl
  intro i j e f hi hj _
  unfold State.entry at hi hj
  rw [hz] at hi hj
  simp [Fin.getElem_fin, Vector.getElem_set] at hi hj
  exact Fin.ext (hi.1.symm.trans hj.1)

/-- A frame that trips the entry and is passed, under COUNT, or discarded, under DISCARD. -/
theorem test_witness_HitsAreJudgedWhole_trips :
    ((arriving (early9 .count) .u next9).Accepting .u (lastBytes next9) next9
        ∧ (arriving (early9 .discard) .u next9).Accepting .u (lastBytes next9) next9
        ∧ ∀ early, (arriving (early9 early) .u next9).KeysUnique)
      ∧ (next9.kind = .data ∧ next9.dest ≠ held.station ∧ (early9 .count).entry 9 = some (nearTrip .count)
        ∧ (nearTrip .count).record.key = ⟨.u, next9.src, next9.tag⟩)
      ∧ ((judgeFrame (nearTrip .count) next9.seq next9.size 4907999).fate = .passed
        ∧ (judgeFrame (nearTrip .count) next9.seq next9.size 4907999).tripped = true)
      ∧ (judgeFrame (nearTrip .discard) next9.seq next9.size 4907999).fate = .discarded .early
      ∧ (judgeFrame (nearTrip .discard) next9.seq next9.size 4907999).tripped = true
      ∧ (judgeFrame (nearTrip .discard) next9.seq next9.size 4908000).tripped = false := by
  refine ⟨⟨accepting (early9 .count) .u next9 (by decide +kernel) (by decide +kernel),
    accepting (early9 .discard) .u next9 (by decide +kernel) (by decide +kernel), fun early => early9_keys early⟩, ?_⟩
  decide +kernel
/-- The policies DISCARD and FORWARD to Q1, the master enable off, and port D SENDING with room in Q1. -/
theorem test_witness_MissesFollowThePolicy_policies :
    let off := { NoticeUnit.default with settings := { NoticeSettings.default with master := false } }
    let forwarding := { busy9.modPort .u (fun P => { P with unlisted := .forward 1 }) with
      table := State.reset.table, notice := off }
    let discarding := { up.modPort .u (fun P => { P with unlisted := .discard }) with notice := off }
    ((arriving forwarding .u data9).Accepting .u (lastBytes data9) data9
        ∧ (arriving discarding .u data9).Accepting .u (lastBytes data9) data9)
      ∧ (discarding.port .u).unlisted = .discard ∧ discarding.notice.settings.master = false
      ∧ (forwarding.port .u).unlisted = .forward 1 ∧ forwarding.notice.settings.master = false
      ∧ (forwarding.port .d).link = .up ∧ (forwarding.port .d).transmitter ≠ .idle
      ∧ (forwarding.queue .d (dataQueue 1)).blocks + data9.blocks ≤ (forwarding.queue .d (dataQueue 1)).limit := by
  refine ⟨⟨accepting _ .u data9 (by decide +kernel) (by decide +kernel),
    accepting _ .u data9 (by decide +kernel) (by decide +kernel)⟩, ?_⟩
  decide +kernel
/-- A discard by the sequence step and by the cadence step, which cut off what follows; a frame that goes through all; and
entries without each part. -/
theorem test_witness_OutcomeStepScores_series :
    entry9.state = .enabled
      ∧ [(200, 4810000), (201, 4912000), (201, 4907999)].map (fun x : Half × Nat =>
          (judgeFrame (nearTrip .discard) x.1 16 x.2).fate) = [.discarded .duplicate, .passed, .discarded .early]
      ∧ (judgeFrame (nearTrip .discard) 200 16 4907999).entry.cadence = entry9.cadence
      ∧ (judgeFrame (nearTrip .discard) 201 16 4907999).entry.meter = entry9.meter
      ∧ entry30.record.sequence = none ∧ entry12.record.cadence = none ∧ entry12.record.meter = none := by
  decide +kernel

/-! ## Witnesses: completions, windows, cycle starts and beats -/

/-- A completion in section 6.9 with R in D.Q3 and F1 in D.Q2, where R is selected next. -/
theorem test_witness_CompletionFreesTheTransmitter_waiting :
    let s := { (state69 5003000 [queuedFrame 100 0] [queuedFrame 1024 0] []).setTransmitter .d
        (.sending 2 (queuedFrame 1024 0).frame 5008384) with timer := ⟨5, 5000000, 6000000, 1000000, false⟩ }
    (s.Plain ∧ s.First 5008384) ∧ (s.port .d).transmitter = .sending 2 (queuedFrame 1024 0).frame 5008384
      ∧ (run (.transmissionCompletion .d) s).portD.transmitter = .sending 3 (queuedFrame 100 0).frame 5009376 :=
  ⟨⟨plain_of (by decide +kernel), first_of (by decide +kernel)⟩, by decide +kernel⟩
/-- The window change that lets the awaited reply leave: the unit reset is performed in its event. -/
theorem test_witness_WindowsChangeInTurn_reply :
    let closed : Plan := ⟨20000, 2, ((Vector.replicate 32 none).set 0 (some ⟨8384, 7⟩)).set 1 (some ⟨11616, 8⟩)⟩
    let s := { twoWindows.modQueue .u 3 (fun Q => { Q with frames := [⟨data9, 0, .reply true⟩] }) with
      plans := { PlanBanks.default with uA := closed }, engine := { Engine.default with state := .resetting } }
    s.resetHeld = false ∧ s.First 8384 ∧ (s.port .u).gate.windowEnd = 8384
      ∧ (s.port .u).gate.window + 1 < (s.plans.activePlan .u).windowCount
      ∧ (run (.windowChange .u) s).engine.state = .idle ∧ (run (.windowChange .u) s).timer.index = 1 :=
  ⟨rfl, first_of (by decide +kernel), by decide +kernel⟩
/-- What a scheduled start brings: the swap's event, the ageing of U.Q1, both selections, and the fourth miss. -/
theorem test_witness_ScheduledEndStartsACycle_brings :
    let s := { (locked 17000000 false).modQueue .u 1 fun Q => { Q with ageLimit := 1 } with
      plans := { PlanBanks.default with commitPending := true } }
    (s.Plain ∧ s.First 17399500)
      ∧ cycleWork s false =
        [.raise .planSwapped, .raise .beatLost, .age .u 1, .select .u, .select .d] :=
  ⟨⟨plain_of (by decide +kernel), first_of (by decide +kernel)⟩, by decide +kernel⟩
/-- The report of a first beat in LOCKED at the bounds of its two cases, with 2 faults and with 1. -/
theorem test_witness_BeatsInLockedAreJudged_report :
    (∀ a ∈ [0, 5000, 5001, 994999], (locked 0 false).timer.start + a = 16399500 + a)
      ∧ (locked 0 false).beat.state = .locked ∧ (locked 0 false).timer.beatSeen = false
      ∧ 4 * (locked 0 false).beat.tolerance ≤ (locked 0 false).timer.length ∧ 0 < (locked 0 false).timer.length
      ∧ ((locked 16404501 false).reportBeat 16404501).beat.state = .lost
      ∧ ({ locked 16404501 false with beat := { (locked 0 false).beat with faultCount := 1 } }.reportBeat 16404501).beat.state
          = .locked := by decide +kernel
/-- An early beat with port D SENDING, which counts an overrun, and with port D DOWN, which counts none. -/
theorem test_witness_EarlyBeatsStartTheNextCycle_overruns :
    let sending := (locked 17394500 false).setTransmitter .d (.sending 0 (frameTo 1 .data []) 17394600)
    let down := { locked 17394500 false with portD := PortState.coldReset }
    ((arriving sending .u beat).Accepting .u (lastBytes beat) beat ∧ (arriving down .u beat).Accepting .u (lastBytes beat) beat)
      ∧ ((sending.port .d).transmitter ≠ .idle ∧ (down.port .d).transmitter = .idle ∧ (down.port .d).link = .down)
      ∧ (sending.startCycle 17394500 true).portD.gate.overruns = 1
      ∧ (down.startCycle 17394500 true).portD.gate.overruns = 0 := by
  refine ⟨⟨beat_accepted _ (by decide +kernel), beat_accepted _ (by decide +kernel)⟩, by decide +kernel⟩
/-- LOST, at the instant of the cycle's start and a tick after it, with port D SENDING and port U DOWN. -/
theorem test_witness_BeatsInSeekingAndLostLock_overruns :
    let lost (now : Ticks) : State :=
      { (seeking now).setTransmitter .d (.sending 0 (frameTo 1 .data []) 17394600) with
        beat := { (seeking now).beat with state := .lost } }
    ((lost 10000000).beat.state = .lost ∧ (lost 10000000).timer.start = 10000000 ∧ (lost 10000001).timer.start ≠ 10000001)
      ∧ (((lost 10000000).port .d).transmitter ≠ .idle ∧ ((lost 10000000).port .u).link = .down
        ∧ ((lost 10000000).port .u).transmitter = .idle)
      ∧ ((lost 10000000).reportBeat 10000000).portD.gate.overruns = 0
      ∧ ((lost 10000001).startCycle 10000001 true).portD.gate.overruns = 1 := by decide +kernel

/-! ## Witnesses: notices, the reply that ends a unit reset, and settings -/

/-- Each ground on which nothing is sent: an entry in flight, the timer, the master enable, no destination, its port DOWN,
and no WAITING entry. -/
theorem test_witness_SendsTakeTheLeadingEntry_none :
    (∃ y ∈ (state99 51000000 [e1 1, e2] 13 none).notice.list, y.status ≠ .waiting)
      ∧ (state99 51000000 [e2] 13 (some 60000000)).notice.retryTimer ≠ none
      ∧ (NoticeSettings.mk false 0xFF none 100 3).master = false ∧ up.notice.destination = none
      ∧ ((state99 51000000 [e2] 13 none).notice.destination = some manager ∧ (State.reset.port manager.port).link = .down)
      ∧ (∀ y ∈ up.notice.list, y.status ≠ .waiting) := by decide +kernel

/-- An entry returned from IN_FLIGHT keeps its number 12. -/
def numbered : NoticeEntry := { e1 1 with status := .waiting }

/-- The entry that keeps its number, with room in U.Q3 of an IDLE transmitter; and U.Q3 full. -/
theorem test_witness_SendsTakeTheLeadingEntry_numbered :
    let s := state99 51000000 [numbered] 13 none
    let full := s.modQueue .u 3 fun Q => { Q with limit := 1, frames := [queuedFrame 0 0] }
    (s.Plain ∧ full.Plain)
      ∧ ((∀ y ∈ s.notice.list, y.status = .waiting) ∧ s.notice.list = [] ++ numbered :: []
        ∧ sendOrder s.notice.list = numbered :: [] ∧ numbered.number = some 12 ∧ s.notice.destination = some manager)
      ∧ (1 ≤ s.pool ∧ (s.queue .u 3).blocks + 1 ≤ (s.queue .u 3).limit)
      ∧ (full.queue .u 3).limit < (full.queue .u 3).blocks + 1
      ∧ s.trySend.notice.list.map NoticeEntry.number = [some 12] ∧ full.trySend.notice.list.length = 2 :=
  ⟨⟨plain_of (by decide +kernel), plain_of (by decide +kernel)⟩, by decide +kernel⟩
/-- A retry with room in U.Q3 of an IDLE transmitter, and one that U.Q3 refuses. -/
theorem test_witness_RetryTimerExpires_offers :
    let full := (expiring 3 512).modQueue .u 3 fun Q => { Q with limit := 1, frames := [queuedFrame 0 0] }
    ((expiring 3 1).Plain ∧ (expiring 3 1).First 60000000 ∧ full.Plain ∧ full.First 60000000)
      ∧ (((expiring 3 1).port .u).link = .up ∧ 1 ≤ (expiring 3 1).pool ∧ (e1 3).number = some 12
        ∧ ((expiring 3 1).queue .u 3).blocks + 1 ≤ ((expiring 3 1).queue .u 3).limit)
      ∧ (full.queue .u 3).limit < (full.queue .u 3).blocks + 1
      ∧ (run .retryTimerExpiry full).notice.list.length = 3 ∧ (run .retryTimerExpiry full).notice.counters.sent = 1 := by
  refine ⟨⟨plain_of ?_, first_of ?_, plain_of ?_, first_of ?_⟩, ?_⟩ <;> decide +kernel
/-- The entry in flight without a twin, no entry in flight, and a destination that stands and one that changes. -/
theorem test_witness_DestinationChangesMerge_others :
    ((state99 1 [e1 3] 13 none).notice.list = [] ++ e1 3 :: [] ∧ (e1 3).status = .inFlight 3 false)
      ∧ (∀ y ∈ (state99 1 [e2] 13 none).notice.list, y.status = .waiting)
      ∧ (state99 1 [e2] 13 none).updateDestination = state99 1 [e2] 13 none
      ∧ ({ state99 1 [e2] 13 none with session := none }).updateDestination.notice.destination = some ⟨0x0400, .u⟩ := by
  decide +kernel

/-- The reply is refused by a full U.Q3, and with an empty one it is selected at once. -/
theorem test_witness_UnitResetAwaitsItsReply_take :
    let full := held.modQueue .u 3 fun Q => { Q with limit := 1, frames := [queuedFrame 0 0] }
    let r := request .unitReset []
    ((ask full .unitReset []).Taking .unitReset r [] ∧ (ask held .unitReset []).Taking .unitReset r [])
      ∧ (((ask full .unitReset []).atStep6 r []).canReply r [17, 2, 0] = true
        ∧ ((ask full .unitReset []).queue .u 3).limit < ((ask full .unitReset []).queue .u 3).blocks + 1)
      ∧ (((ask held .unitReset []).atStep6 r []).canReply r [17, 2, 0] = true
        ∧ ((ask held .unitReset []).port .u).transmitter = .idle ∧ ((ask held .unitReset []).queue .u 3).frames = []
        ∧ 1 ≤ ((ask held .unitReset []).queue .u 3).limit
        ∧ ((ask held .unitReset []).plans.activePlan .u).opens ((ask held .unitReset []).port .u).gate.window 3 = true
        ∧ ((ask held .unitReset []).replyFrame r [17, 2, 0]).occupancy
            ≤ ((ask held .unitReset []).port .u).gate.windowEnd - (ask held .unitReset []).localTime)
      ∧ (done full .unitReset []).timer.index = 1 := by
  refine ⟨⟨taking _ _ _ (by decide +kernel) rfl, taking _ _ _ (by decide +kernel) rfl⟩, ?_⟩
  decide +kernel
/-- The awaited reply, of age 1 at the next cycle start, behind an older frame in D.Q3 under the age limit 1,
while both ports are SENDING. -/
theorem test_witness_UnitResetAwaitsItsReply_aged :
    let old : QueuedFrame := queuedFrame 0 0xFFFFFFFF
    let reply : QueuedFrame := ⟨data9, 0, .reply true⟩
    let s := { ((up.setTransmitter .u (.sending 0 data9 1000001)).setTransmitter .d (.sending 0 data9 1000001)).modQueue .d 3 fun Q =>
        { Q with ageLimit := 1, frames := [old, reply, queuedFrame 0 1] } with
      engine := { Engine.default with state := .resetting } }
    s.First 1000000 ∧ s.resetHeld = false ∧ s.timer.scheduledEnd = 1000000
      ∧ (s.queue .d 3).frames = [old] ++ reply :: [queuedFrame 0 1] ∧ reply.origin = .reply true
      ∧ (∀ f ∈ [old] ++ [reply], (s.queue .d 3).ageLimit
          ≤ (s.timer.index.toNat + 1 + 4294967296 - f.enqueueIndex.toNat) % 4294967296)
      ∧ (run .scheduledCycleStart s).timer.index = 2 ∧ (run .scheduledCycleStart s).engine.state = .idle :=
  ⟨first_of (by decide +kernel), by decide +kernel⟩
/-- Kind 8 disabled under a standing enable: the WAITING entry of that kind leaves, the one in flight stays. -/
theorem test_witness_NoticeSettingsChange_enabled :
    let s := { held with notice := { held.notice with list := [e1 1, e2], retryTimer := some 60000000 } }
    Asks s .noticeSet (fun ops => fieldAt ops 1 2 = 0x7F ∧ fieldAt ops 3 2 = 0 ∧ fieldAt ops 6 2 = 1000
        ∧ (byteAt ops 8).toNat = 0 ∧ (byteAt ops 0 != 0) = true)
      ∧ (done s .noticeSet [1, 0, 0x7F, 0, 0, 0, 0x03, 0xE8, 0]).notice.list = [e1 1] :=
  ⟨asks (by decide +kernel) [1, 0, 0x7F, 0, 0, 0, 0x03, 0xE8, 0] rfl (by decide), by decide +kernel⟩
/-- Log entry 26: another state for a FREE entry. -/
theorem test_stream_state_both : answerTo held .streamState [9, 3] = [0x14] := by decide +kernel

/-! ## Witnesses: orders, sends at a change, awaited replies and record bytes -/

/-- Every accepted set in its order. -/
theorem held9_order : held9.SequencesInOrder := by
  intro i e he st hst
  rw [(held9_entry he).2] at hst
  have : st = ⟨some 200, [200, 199, 197, 196, 194]⟩ := (Option.some.inj hst).symm
  subst this
  intro h hh
  have : h = 200 := (Option.some.inj hh).symm
  subst this
  decide
theorem test_witness_EveryStepKeepsEntriesSound_order :
    (waits (.frameStart .d) held9).EntriesSound ∧ (waits (.frameStart .d) held9).SequencesInOrder
      ∧ ∃ t, step (waits (.frameStart .d) held9) = .next t :=
  ⟨test_witness_EveryStepKeepsEntriesSound.1, held9_order, _, rfl⟩
/-- R33, section 3.8: out of order and ahead; the sets stand in ascending distance below H = 12 and H = 15. -/
theorem test_witness_ForwardedFramesTeach_order :
    let e := windowed 4 12 [12, 11, 10]
    (SequenceState.Sound 4 ⟨some 12, [12, 11, 10]⟩ ∧ SequenceState.InOrder ⟨some 12, [12, 11, 10]⟩)
      ∧ (Findings.mk none .outOfOrder false).case = (sequenceStep 9 ⟨e, Findings.start⟩).found.case
      ∧ (Findings.mk none (.ahead 3) false).case = (sequenceStep 15 ⟨e, Findings.start⟩).found.case
      ∧ (outcomeStep 9 ⟨e, ⟨none, .outOfOrder, false⟩⟩).sequence = some ⟨some 12, [12, 11, 10, 9]⟩
      ∧ (outcomeStep 15 ⟨e, ⟨none, .ahead 3, false⟩⟩).sequence = some ⟨some 15, [15, 12]⟩ := by
  refine ⟨⟨by simp [SequenceState.Sound], ?_⟩, by decide +kernel⟩
  intro h hh
  have : h = 12 := (Option.some.inj hh).symm
  subst this
  decide
theorem test_witness_StreamReadsReport_order :
    (windowed 4 12 [12, 11, 10]).Sound ∧ (windowed 4 12 [12, 11, 10]).sequence = some ⟨some 12, [12, 11, 10]⟩
      ∧ (windowed 4 12 [12, 11, 10]).record.sequence = some 4 ∧ SequenceState.InOrder ⟨some 12, [12, 11, 10]⟩
      ∧ entry12.Sound ∧ entry12.sequence = some ⟨none, []⟩ := by
  refine ⟨?_, rfl, rfl, test_witness_ForwardedFramesTeach_order.1.2, ?_, rfl⟩ <;>
    simp [windowed, entry12, freshEntry, StreamEntry.Sound, StreamRecord.InRange, SequenceState.Sound, freshSequence,
      freshCadence, freshMeter, freshScore, WrittenState.toEntry]
/-- An entry without a trip part: a violation and a frame ahead by 5; a first frame and a discarded one. -/
theorem test_witness_OutcomeStepScores_untripped :
    (entry30.record.trip = none ∧ entry30.counters.gap ≤ 4294967295)
      ∧ ((outcomeStep 0 ⟨entry30, ⟨none, .ahead 5, true⟩⟩).counters.gap, (outcomeStep 0 ⟨entry30, ⟨none, .ahead 5, true⟩⟩).score,
          (outcomeStep 0 ⟨entry30, ⟨none, .ahead 5, true⟩⟩).state) = (4, none, .enabled)
      ∧ (∀ d, (Findings.mk none .first false).case ≠ .ahead d)
      ∧ (Findings.outcome ⟨some (.discarded .late), .none, true⟩).isForwarded = false := by
  refine ⟨by decide +kernel, by decide +kernel, ?_, by decide +kernel⟩
  intro d h
  cases h
/-- The link-up of the destination's port, with E2 waiting: it is sent at once. -/
theorem test_witness_LinkUpRaisesThePort_notice :
    let s := { state99 51000000 [e2] 13 none with portU := PortState.coldReset }
    s.Plain ∧ ((s.port .u).link = .down ∧ (∀ q, (s.queue .u q).frames = [])
        ∧ s.notice.destination.map Requester.port = some .u)
      ∧ (run (.linkUp .u) s).notice.list = [⟨.unlistedSeen .u, 51000000, 51, 2, .inFlight 1 false, some 13⟩]
      ∧ ((run (.linkUp .u) s).queue .u 3).frames.map (fun f => f.frame.kind) = [.notice] :=
  ⟨plain_of (by decide +kernel), by decide +kernel⟩
/-- The awaited reply refused as *dropped full* in RESETTING. -/
theorem test_witness_FramesAreRoutedByDestination_awaited :
    let s := { fullD with engine := { Engine.default with state := .resetting } }
    let f := frameTo 0xFFFF .reply []
    ((s.port .d).link = .up ∧ (s.queue .d 3).limit < (s.queue .d 3).blocks + f.blocks ∧ s.engine.state = .resetting)
      ∧ (s.offerFrame .d 3 f (.reply true)).engine.state = .resetDue
      ∧ (s.offerFrame .d 3 f (.reply false)).engine.state = .resetting := by decide +kernel
/-- Section 9.9's device: the expiry merges E1 with E2 and sends SESSION_EXPIRED, of priority 5, to the standing destination;
and a standing destination equal to the holder, where E1 stays in flight. -/
theorem test_witness_LeaseExpiryEndsTheSession_sends :
    let s := state99 75000000 [e1 3, e2] 13 (some 80000000)
    let same := { s with notice := { s.notice with settings := { settings99 with standing := some manager } } }
    ((s.Plain ∧ s.First 75000000) ∧ same.Plain ∧ same.First 75000000)
      ∧ (s.notice.destination ≠ s.notice.settings.standing ∧ same.notice.destination = same.notice.settings.standing)
      ∧ (run .leaseExpiry s).notice.list = [⟨.unlistedSeen .u, 50000000, 50, 3, .waiting, some 12⟩,
          ⟨.sessionExpired 0x0120, 75000000, 75, 1, .inFlight 1 false, some 13⟩]
      ∧ (run .leaseExpiry same).notice.list = [e1 3, e2, ⟨.sessionExpired 0x0120, 75000000, 75, 1, .waiting, none⟩] :=
  ⟨⟨⟨plain_of (by decide +kernel), first_of (by decide +kernel)⟩, plain_of (by decide +kernel),
    first_of (by decide +kernel)⟩, by decide +kernel⟩
/-- E2 waits for the standing destination: the opening's notice to the holder leaves before the reply (log entry 24); a
standing destination equal to the opener is no change; and a close. -/
theorem test_witness_SessionRequestsAreAnswered_sends :
    let n (x : Requester) : NoticeUnit := ⟨{ settings99 with standing := some x }, some x, [e2], false, 13, none, NoticeCounters.zero⟩
    let s := { up with notice := { n ⟨0x0400, .d⟩ with retryTimer := some 60000000 } }
    let same := { up with notice := { n manager with retryTimer := some 60000000 } }
    ((ask s .sessionOpen [0, 10]).Taking .sessionOpen (request .sessionOpen [0, 10]) []
        ∧ (ask same .sessionOpen [0, 10]).Taking .sessionOpen (request .sessionOpen [0, 10]) [])
      ∧ (s.session = none ∧ s.notice.destination ≠ some manager ∧ same.notice.destination = some manager)
      ∧ ((done s .sessionOpen [0, 10]).notice.nextNumber = 14
        ∧ (match (done s .sessionOpen [0, 10]).portU.transmitter with
            | .sending _ f _ => f.kind == .notice
            | .idle => false) = true
        ∧ ((done s .sessionOpen [0, 10]).queue .u 3).frames.map (fun f => f.frame.kind) = [.reply])
      ∧ (done same .sessionOpen [0, 10]).notice.retryTimer = some 60000000
      ∧ (Asks (state99 51000000 [e1 1] 13 (some 60000000)) .sessionClose (fun _ => True)
        ∧ (done (state99 51000000 [e1 1] 13 (some 60000000)) .sessionClose []).notice.destination = some ⟨0x0400, .u⟩) :=
  ⟨⟨taking_open _ [0, 10] (by decide) rfl, taking_open _ [0, 10] (by decide) rfl⟩, by decide +kernel, by decide +kernel,
    by decide +kernel, asks (by decide +kernel) [] rfl trivial, by decide +kernel⟩
/-- Log entry 27: the settings are in place, and the WAITING entry of the disabled kind 8 leaves. -/
theorem test_notice_set_in_place :
    let s := { held with notice := { held.notice with settings := { NoticeSettings.default with kinds := 0x7F }, list := [e2] } }
    (answerTo s .noticeSet (s.notice.settings.bytes), (done s .noticeSet s.notice.settings.bytes).notice.settings,
      (done s .noticeSet s.notice.settings.bytes).notice.list) = (0x00 :: s.notice.settings.bytes, s.notice.settings, []) := by
  decide +kernel
/-- A reply at an IDLE transmitter is selected at once; one that a full U.Q3 refuses raises QUEUE_OVERFLOW (R71). -/
theorem test_replies_at_q3 :
    let full := { held.modQueue .u 3 (fun Q => { Q with limit := 1, frames := [queuedFrame 0 0] }) with
      notice := { held.notice with retryTimer := some 60000000 } }
    (match (done held .sessionKeep []).portU.transmitter with
      | .sending q f _ => q == 3 && f.kind == .reply
      | .idle => false) = true
      ∧ ((done full .sessionKeep []).notice.list.map NoticeEntry.event, ((done full .sessionKeep []).queue .u 3).counters.droppedFull)
          = ([.queueOverflow .u 3], 1) := by decide +kernel
/-- A payload of 1 byte; an IDLE engine with 3 requests waiting; and a purge under way with port D DOWN. -/
theorem test_witness_BroadcastControlIsCopied_others :
    let f := frameTo 0xFFFF .control [17, 1]
    let three := { up with engine := { Engine.default with queue := List.replicate 3 (request .timeRead []) } }
    let down := { downD with engine := purging.engine }
    ((arriving up .u (frameTo 0xFFFF .control [17])).Accepting .u (lastBytes (frameTo 0xFFFF .control [17]))
        (frameTo 0xFFFF .control [17])
      ∧ (arriving three .u f).Accepting .u (lastBytes f) f ∧ (arriving down .u f).Accepting .u (lastBytes f) f)
      ∧ ((frameTo 0xFFFF .control [17]).payload.length < 2 ∧ f.payload = 17 :: 1 :: [])
      ∧ (three.engine.state = .idle ∧ three.engine.queue.length < 4 ∧ three.resetHeld = false
        ∧ three.engine.queue ++ [⟨⟨f.src, .u⟩, f.dest == 0xFFFF, f.seq, 17, 1, []⟩] =
          request .timeRead [] :: (List.replicate 2 (request .timeRead []) ++ [⟨⟨f.src, .u⟩, true, f.seq, 17, 1, []⟩]))
      ∧ (down.engine.state ≠ .idle ∧ down.engine.queue.length < 4 ∧ (down.port .d).link = .down)
      ∧ (fullQueue.engine.queue.length = 4 ∧ { up with pool := 0 }.pool < f.blocks) := by
  refine ⟨⟨accepting up .u _ (by decide +kernel) (by decide +kernel),
    accepting _ .u _ (by decide +kernel) (by decide +kernel), accepting _ .u _ (by decide +kernel) (by decide +kernel)⟩, ?_⟩
  decide +kernel
/-- The awaited reply at the head of Q3 of an IDLE transmitter: its selection makes the unit reset due. -/
theorem test_witness_SelectionTakesTheFirstFittingHead_awaited :
    let g : QueuedFrame := ⟨data9, 0, .reply true⟩
    let s := { up.modQueue .u 3 (fun Q => { Q with frames := [g] }) with engine := { Engine.default with state := .resetting } }
    ((s.port .u).link = .up ∧ (s.port .u).transmitter = .idle ∧ (s.queue .u 3).frames = g :: []
        ∧ (s.plans.activePlan .u).opens (s.port .u).gate.window 3 = true
        ∧ g.frame.occupancy ≤ (s.port .u).gate.windowEnd - s.localTime)
      ∧ (∀ k : QueueNo, ¬ 3 < k) ∧ (g.origin = .reply true ∧ s.engine.state = .resetting)
      ∧ (s.trySelect .u).engine.state = .resetDue := by decide +kernel
/-- The reply waits: in a Q3 that the window does not open; behind another head; and one tick too near to the window's end. -/
theorem test_witness_UnitResetAwaitsItsReply_waits :
    let closed := { held with plans := { PlanBanks.default with uA :=
      { Plan.default with slots := (Vector.replicate 32 none).set 0 (some ⟨1000000, 7⟩) } } }
    let behind := held.modQueue .u 3 fun Q => { Q with frames := [queuedFrame 0 0] }
    let near := { held with localTime := 1000000 - 215 }
    let r := request .unitReset []
    ((ask closed .unitReset []).Taking .unitReset r [] ∧ (ask behind .unitReset []).Taking .unitReset r []
        ∧ (ask near .unitReset []).Taking .unitReset r [])
      ∧ (∀ s ∈ [ask closed .unitReset [], ask behind .unitReset [], ask near .unitReset []],
        (s.atStep6 r []).canReply r [17, 2, 0] = true ∧ (s.queue .u 3).blocks + 1 ≤ (s.queue .u 3).limit
          ∧ ∀ k : QueueNo, ∀ g ∈ (s.queue .u k).frames, g.origin ≠ .reply true)
      ∧ (((ask closed .unitReset []).plans.activePlan .u).opens ((ask closed .unitReset []).port .u).gate.window 3 = false
        ∧ ((ask behind .unitReset []).plans.activePlan .u).opens ((ask behind .unitReset []).port .u).gate.window 3 = true
        ∧ ((ask behind .unitReset []).queue .u 3).frames ≠ []
        ∧ ((ask near .unitReset []).port .u).gate.windowEnd - (ask near .unitReset []).localTime
            < ((ask near .unitReset []).replyFrame r [17, 2, 0]).occupancy)
      ∧ [closed, behind, near].map (fun s => (done s .unitReset []).engine.state) = [.resetting, .resetting, .resetting] := by
  refine ⟨⟨taking _ _ _ (by decide +kernel) rfl, taking _ _ _ (by decide +kernel) rfl, taking _ _ _ (by decide +kernel) rfl⟩, ?_⟩
  decide +kernel
/-- A record with a part of each kind, from section 11.2: W, I (4), T (4), early action, R, B (2), action, demote queue, L. -/
def recordBytes (state port source tag queue marks w : Byte) (i t : List Byte) (early r b action demote l : Byte) : List Byte :=
  [state, port, 0, source, tag, 0, queue, marks, w] ++ i ++ t ++ [early, r, 0, b, action, demote, l]
/-- The bounds of each range, all accepted: W = 32, I = 1,000 with T = 500, R = 128, B = 16, L = 1; demote queue 7 with DISCARD. -/
theorem test_record_bounds :
    recordOf (recordBytes 2 1 1 0 2 0x0F 32 [0, 0, 3, 0xE8] [0, 0, 1, 0xF4] 1 128 16 0 7 1) =
      some ⟨.blocked, ⟨.d, 1, 0⟩, 2, some 32, some ⟨1000, 500, .discard⟩, some ⟨128, 16, .discard⟩, some 1⟩ := by
  decide +kernel
/-- One field out of its range in each: state 00h and 03h, port 2, source 0000h, tag 1000h, queue 3, marks 1Fh, W 0 and 33,
I 999, T 501, early action 2, R 0 and 129, B 15, action 2, demote queue 3 with DEMOTE, L 0. -/
theorem test_witness_StreamWritesReplaceTheEntry_refused :
    let i : List Byte := [0, 0, 3, 0xE8]
    let t : List Byte := [0, 0, 1, 0xF4]
    (∀ bs ∈ [recordBytes 0 1 1 0 2 15 32 i t 1 128 16 0 7 1, recordBytes 3 1 1 0 2 15 32 i t 1 128 16 0 7 1,
        recordBytes 2 2 1 0 2 15 32 i t 1 128 16 0 7 1, recordBytes 2 1 0 0 2 15 32 i t 1 128 16 0 7 1,
        recordBytes 2 1 1 16 2 15 32 i t 1 128 16 0 7 1, recordBytes 2 1 1 0 3 15 32 i t 1 128 16 0 7 1,
        recordBytes 2 1 1 0 2 31 32 i t 1 128 16 0 7 1, recordBytes 2 1 1 0 2 15 0 i t 1 128 16 0 7 1,
        recordBytes 2 1 1 0 2 15 33 i t 1 128 16 0 7 1, recordBytes 2 1 1 0 2 15 32 [0, 0, 3, 0xE7] [0, 0, 0, 0] 1 128 16 0 7 1,
        recordBytes 2 1 1 0 2 15 32 i [0, 0, 1, 0xF5] 1 128 16 0 7 1, recordBytes 2 1 1 0 2 15 32 i t 2 128 16 0 7 1,
        recordBytes 2 1 1 0 2 15 32 i t 1 0 16 0 7 1, recordBytes 2 1 1 0 2 15 32 i t 1 129 16 0 7 1,
        recordBytes 2 1 1 0 2 15 32 i t 1 128 15 0 7 1, recordBytes 2 1 1 0 2 15 32 i t 1 128 16 2 0 1,
        recordBytes 2 1 1 0 2 15 32 i t 1 128 16 1 3 1, recordBytes 2 1 1 0 2 15 32 i t 1 128 16 0 7 0],
      recordOf bs = none) := by decide +kernel
/-- Section 11.2 and R172: the longest and the shortest STREAM_WRITE, 8 windows, and codes that are none. -/
theorem test_lengths :
    (Op.streamWrite.lengthAgrees (List.replicate 9 0 ++ [0x0F] ++ List.replicate 16 0) = true
        ∧ Op.streamWrite.lengthAgrees (List.replicate 10 0) = true ∧ Op.streamWrite.lengthAgrees (List.replicate 11 0) = false
        ∧ Op.streamWrite.lengthAgrees (List.replicate 9 0) = false)
      ∧ (Op.planWindows.lengthAgrees ([0, 0, 8] ++ List.replicate 40 0) = true ∧ Op.planWindows.lengthAgrees [0, 0] = false)
      ∧ ∀ b ∈ [(0x06 : Byte), 0x18, 0xFF], b ∉ ([0x01, 0x05, 0x17, 0x40] : List Byte) ∧ Op.ofCode b = none := by
  decide +kernel

/-- R43: H absent, so the frame is first, and then discarded by the cadence step as early and by the meter step: H, the set
and the gap stand. -/
theorem test_witness_SequenceStepSorts_firstDiscarded :
    let e : StreamEntry := { nearTrip .discard with sequence := some ⟨none, []⟩ }
    let m : StreamEntry := { e with cadence := some ⟨none⟩ }
    (e.record.sequence = some 8 ∧ e.sequence = some ⟨none, []⟩ ∧ m.sequence = some ⟨none, []⟩)
      ∧ ((findings e 7 16 4907999).found = ⟨some (.discarded .early), .first, true⟩
        ∧ (findings m 7 4000 4907999).found = ⟨some (.discarded .meter), .first, true⟩)
      ∧ [judgeFrame e 7 16 4907999, judgeFrame m 7 4000 4907999].map (fun v => (v.entry.sequence, v.entry.counters.gap))
        = [(some ⟨none, []⟩, 3), (some ⟨none, []⟩, 3)] := by decide +kernel

end Sys2Proof.Tests
end

section
/-! SUPPORT. What the events of a line port do to the whole device: flushes and link events (R2 to R4, R72, R76). -/

namespace Sys2Proof.Machine

/-! ## Departures (R72) -/

/-- The engine after these frames have left Q3: in RESETTING the departure of the awaited reply makes the unit reset due
(R126, R132). -/
def Engine.departs (e : Engine) (fs : List QueuedFrame) : Engine :=
  if e.state = .resetting ∧ ∃ f ∈ fs, f.origin = .reply true then { e with state := .resetDue } else e

theorem Engine.departs_eq (e : Engine) (fs : List QueuedFrame) (h : e.state ≠ .resetting) : e.departs fs = e := by
  simp [Engine.departs, h]

@[simp] theorem Engine.departs_nil (e : Engine) : e.departs [] = e := by simp [Engine.departs]

/-- Departures one after the other are the departures of all. -/
theorem Engine.departs_departs (e : Engine) (fs gs : List QueuedFrame) :
    (e.departs fs).departs gs = e.departs (fs ++ gs) := by
  by_cases he : e.state = .resetting ∧ ∃ f ∈ fs, f.origin = .reply true
  · have hfg : ∃ f ∈ fs ++ gs, f.origin = .reply true := by
      obtain ⟨_, f, hm, ho⟩ := he
      exact ⟨f, List.mem_append_left _ hm, ho⟩
    have hf : e.departs fs = { e with state := .resetDue } := if_pos he
    have hall : e.departs (fs ++ gs) = { e with state := .resetDue } := if_pos ⟨he.1, hfg⟩
    rw [hf, hall, Engine.departs_eq _ _ (by simp)]
  · have hf : e.departs fs = e := if_neg he
    rw [hf]
    unfold Engine.departs
    congr 1
    simp only [List.mem_append, or_and_right, exists_or, and_or_left, he, false_or]

/-- Reporting departures changes the engine alone. -/
theorem State.reportDepartures_eq (s : State) (fs : List QueuedFrame) :
    s.reportDepartures fs = { s with engine := s.engine.departs fs } := by
  unfold State.reportDepartures
  induction fs generalizing s with
  | nil => simp
  | cons f fs ih =>
    have hf : s.reportDeparture f.origin = { s with engine := s.engine.departs [f] } := by
      unfold State.reportDeparture Engine.departs
      by_cases h : f.origin = .reply true ∧ s.engine.state = .resetting
      · rw [if_pos h, if_pos (by simpa using h.symm)]
      · rw [if_neg h, if_neg (by simpa using fun a b => h ⟨b, a⟩)]
    rw [List.foldl_cons, ih, hf]
    simp [Engine.departs_departs]

/-! ## Flushes (R76, R4) -/

/-- A queue after a flush: empty, each frame counted as *flushed* (R76). -/
def Queue.flushed (Q : Queue) : Queue :=
  { Q with frames := [], counters := { Q.counters with flushed := countBy Q.counters.flushed Q.frames.length } }

theorem State.flushQueue_eq (s : State) (p : Port) (q : QueueNo) :
    s.flushQueue p q =
      { s.modQueue p q Queue.flushed with
        pool := s.pool + (s.queue p q).blocks
        engine := s.engine.departs (s.queue p q).frames } := by
  unfold State.flushQueue
  dsimp only
  rw [State.reportDepartures_eq]
  cases p <;> rfl

/-- The four items of a vector in order. -/
theorem vector4_toList {α : Type} (v : Vector α 4) : v.toList = [v[0], v[1], v[2], v[3]] := by
  apply List.ext_getElem <;> simp
  intro i hi
  interval_cases i <;> rfl

/-- Changing the four items of a vector in turn changes each. -/
theorem vector4_map {α : Type} (v : Vector α 4) (f : α → α) :
    (((v.set 0 (f v[0])).set 1 (f v[1])).set 2 (f v[2])).set 3 (f v[3]) = v.map f := by
  ext i hi
  interval_cases i <;> simp

/-- The frames in the queues of a port. -/
def PortState.queuedFrames (P : PortState) : List QueuedFrame := P.queues.toList.flatMap Queue.frames

/-- A flush of the four queues of a port empties each and returns their blocks (R4). -/
theorem State.flushPort_eq (s : State) (p : Port) :
    s.flushPort p =
      { s.modPort p (fun P => { P with queues := P.queues.map Queue.flushed }) with
        pool := s.pool + (s.port p).queueBlocks
        engine := s.engine.departs (s.port p).queuedFrames } := by
  unfold State.flushPort PortState.queueBlocks PortState.queuedFrames
  simp only [State.flushQueue_eq, Engine.departs_departs, vector4_toList, ← vector4_map]
  cases p <;> simp [State.modQueue, State.modPort, State.queue, State.port, Nat.add_assoc]

/-! ## Link-down (R3, R4) -/

/-- A port after the end of its reception at a link-down: a frame in RECEIVING counts as *aborted* (R3). -/
def PortState.receptionAborted (P : PortState) : PortState :=
  { P with
    receiver := .idle
    counters :=
      { P.counters with
        aborted := match P.receiver with
          | .receiving _ => countUp P.counters.aborted
          | _ => P.counters.aborted } }

/-- A port after the end of its transmission at a link-down: a frame on the line counts as *transmit aborted* (R3). -/
def PortState.transmissionAborted (P : PortState) : PortState :=
  { P with
    transmitter := .idle
    counters :=
      { P.counters with
        transmitAborted := match P.transmitter with
          | .sending _ _ _ => countUp P.counters.transmitAborted
          | .idle => P.counters.transmitAborted } }

theorem State.abortReception_eq (s : State) (p : Port) :
    s.abortReception p =
      { s.modPort p PortState.receptionAborted with pool := s.pool + (s.port p).receiver.blocks } := by
  have hP : (s.port p).receiver = .idle → (s.port p).receptionAborted = s.port p := by
    intro h; simp [PortState.receptionAborted, h]; rw [← h]
  unfold State.abortReception
  cases hr : (s.port p).receiver with
  | idle => cases p <;> simp_all [State.modPort, Receiver.blocks]
  | discarding => cases p <;> simp_all [State.modPort, State.setReceiver, PortState.receptionAborted, Receiver.blocks]
  | receiving bytes =>
    cases p <;>
      simp_all [State.modPort, State.setReceiver, State.countPort, PortState.receptionAborted, Receiver.blocks,
        State.returnBlocks]

theorem State.abortTransmission_eq (s : State) (p : Port) :
    s.abortTransmission p =
      { s.modPort p PortState.transmissionAborted with pool := s.pool + (s.port p).transmitter.blocks } := by
  have hP : (s.port p).transmitter = .idle → (s.port p).transmissionAborted = s.port p := by
    intro h; simp [PortState.transmissionAborted, h]; rw [← h]
  unfold State.abortTransmission
  cases ht : (s.port p).transmitter with
  | idle => cases p <;> simp_all [State.modPort, Transmitter.blocks]
  | sending q f c =>
    cases p <;>
      simp_all [State.modPort, State.setTransmitter, State.countPort, PortState.transmissionAborted,
        Transmitter.blocks, State.returnBlocks]

/-- A port after a link-down: DOWN with its pin high, the loss, the ended reception and the ended transmission counted,
its queues flushed (R3, R4). -/
def PortState.dropped (P : PortState) : PortState :=
  { P with
    link := .down
    linkPinHigh := true
    receiver := .idle
    transmitter := .idle
    queues := P.queues.map Queue.flushed
    counters :=
      { P.counters with
        linkLosses := countUp P.counters.linkLosses
        aborted := P.receptionAborted.counters.aborted
        transmitAborted := P.transmissionAborted.counters.transmitAborted } }

/-- A link-down of an UP port drops the port and returns every block it held. -/
theorem State.dropLink_eq (s : State) (p : Port) (h : (s.port p).link = .up) :
    s.dropLink p =
      { s.modPort p PortState.dropped with
        pool := s.pool + (s.port p).heldBlocks
        engine := s.engine.departs (s.port p).queuedFrames } := by
  have hpool : ∀ P : PortState,
      s.pool + P.receiver.blocks + P.transmitter.blocks + P.queueBlocks = s.pool + P.heldBlocks := by
    intro P; unfold PortState.heldBlocks; omega
  unfold State.dropLink
  rw [if_pos h, State.flushPort_eq, State.abortTransmission_eq, State.abortReception_eq, ← hpool]
  cases p <;>
    simp [State.modPort, State.countPort, State.port, PortState.dropped, PortState.receptionAborted,
      PortState.transmissionAborted, PortState.queueBlocks, PortState.queuedFrames]

/-- A link-down of a DOWN port is no event (log entry 8). -/
theorem State.dropLink_down (s : State) (p : Port) (h : (s.port p).link = .down) : s.dropLink p = s := by
  simp [State.dropLink, h]

end Sys2Proof.Machine
end

section
/-! SUPPORT. The law of the line ports (R1, R3, R4, R5, R116) through every operation of the model, and O7. -/

namespace Sys2Proof.Machine

/-! ## The law at one port -/

/-- A port that receives is not DOWN (R3). -/
theorem PortState.LinkSound.up_of_receiving {P : PortState} (h : P.LinkSound) (hr : P.receiver ≠ .idle) :
    P.link ≠ .down :=
  fun hd => hr (h.2 hd).1

/-- Whatever an event does at a port that is not DOWN, the law holds while link and pin stand. -/
theorem PortState.LinkSound.of_up {P Q : PortState} (h : P.LinkSound) (hu : P.link ≠ .down) (hl : Q.link = P.link)
    (hp : Q.linkPinHigh = P.linkPinHigh) : Q.LinkSound :=
  ⟨by rw [hl, hp]; exact h.1, fun hd => absurd (hl ▸ hd) hu⟩

/-- A change of one queue keeps the law where it puts no frame into a queue of a DOWN port. -/
theorem PortState.LinkSound.set_queue {P : PortState} (h : P.LinkSound) (q : QueueNo) (Q : Queue)
    (hq : P.link = .down → Q.frames = []) : ({ P with queues := P.queues.set q Q } : PortState).LinkSound := by
  refine ⟨h.1, fun hd => ⟨(h.2 hd).1, (h.2 hd).2.1, fun k => ?_⟩⟩
  by_cases e : q.val = k.val
  · simpa [e] using hq hd
  · simpa [e] using (h.2 hd).2.2 k

/-- The queues of a reset are empty (R76). -/
theorem Queue.freshAll_frames (q : QueueNo) : (Queue.freshAll[q]).frames = [] := by
  simp [Queue.freshAll, Queue.fresh]

/-- A unit reset leaves link, pin, receiver and transmitter, and empties the queues (R133). -/
theorem PortState.LinkSound.unitReset {P : PortState} (h : P.LinkSound) (now : Ticks) : (P.unitReset now).LinkSound :=
  ⟨h.1, fun hd => ⟨(h.2 hd).1, (h.2 hd).2.1, Queue.freshAll_frames⟩⟩

theorem PortState.coldReset_linkSound : PortState.coldReset.LinkSound :=
  ⟨by simp [PortState.coldReset], fun _ => ⟨rfl, rfl, Queue.freshAll_frames⟩⟩

/-! ## The law at both ports -/

/-- The law speaks of the two ports alone. -/
theorem State.linksSound_iff (s : State) : s.LinksSound ↔ s.portU.LinkSound ∧ s.portD.LinkSound :=
  ⟨fun h => ⟨h .u, h .d⟩, fun h p => by cases p; exacts [h.1, h.2]⟩

theorem State.LinksSound.of_ports {s t : State} (h : s.LinksSound) (hu : t.portU = s.portU) (hd : t.portD = s.portD) :
    t.LinksSound :=
  t.linksSound_iff.2 ⟨hu ▸ h .u, hd ▸ h .d⟩

theorem State.coldReset_linksSound (station : Half) : (State.coldReset station).LinksSound :=
  (State.linksSound_iff _).2 ⟨PortState.coldReset_linkSound, PortState.coldReset_linkSound⟩

section
variable {s : State} (h : s.LinksSound)
include h

theorem State.LinksSound.modPort (p : Port) (f : PortState → PortState) (hf : (f (s.port p)).LinkSound) :
    (s.modPort p f).LinksSound := by
  rw [State.linksSound_iff]
  cases p
  · exact ⟨hf, h .d⟩
  · exact ⟨h .u, hf⟩

theorem State.LinksSound.modQueue (p : Port) (q : QueueNo) (f : Queue → Queue)
    (hf : (s.port p).link = .down → (f (s.queue p q)).frames = []) : (s.modQueue p q f).LinksSound :=
  h.modPort p _ ((h p).set_queue q _ hf)

/-- A change of a queue that empties it or keeps its frames keeps the law. -/
theorem State.LinksSound.modQueue_of_empty (p : Port) (q : QueueNo) (f : Queue → Queue)
    (hf : ∀ Q, Q.frames = [] → (f Q).frames = []) : (s.modQueue p q f).LinksSound :=
  h.modQueue p q f fun hd => hf _ (((h p).2 hd).2.2 q)

theorem State.LinksSound.returnBlocks (n : Nat) : (s.returnBlocks n).LinksSound := h.of_ports rfl rfl

theorem State.LinksSound.takeBlocks {n : Nat} {t : State} (ht : s.takeBlocks n = some t) : t.LinksSound := by
  obtain ⟨_, e⟩ | ⟨_, e⟩ := s.takeBlocks_spec n
  · rw [e] at ht; cases ht; exact h.of_ports rfl rfl
  · rw [e] at ht; cases ht

theorem State.LinksSound.countPort (p : Port) (f : PortCounters → PortCounters) : (s.countPort p f).LinksSound :=
  h.modPort p _ (h p)

theorem State.LinksSound.countQueue (p : Port) (q : QueueNo) (f : QueueCounters → QueueCounters) :
    (s.countQueue p q f).LinksSound :=
  h.modQueue_of_empty p q _ fun _ hq => hq

theorem State.LinksSound.setReceiver_idle (p : Port) : (s.setReceiver p .idle).LinksSound :=
  h.modPort p _ ⟨(h p).1, fun hd => ⟨rfl, ((h p).2 hd).2⟩⟩

theorem State.LinksSound.setTransmitter_idle (p : Port) : (s.setTransmitter p .idle).LinksSound :=
  h.modPort p _ ⟨(h p).1, fun hd => ⟨((h p).2 hd).1, rfl, ((h p).2 hd).2.2⟩⟩

theorem State.LinksSound.setReceiver (p : Port) (r : Receiver) (hu : (s.port p).link ≠ .down) :
    (s.setReceiver p r).LinksSound :=
  h.modPort p _ ((h p).of_up hu rfl rfl)

theorem State.LinksSound.countManagement (f : ManagementCounters → ManagementCounters) :
    (s.countManagement f).LinksSound := h.of_ports rfl rfl

theorem State.LinksSound.countBeat (f : BeatCounters → BeatCounters) : (s.countBeat f).LinksSound := h.of_ports rfl rfl

theorem State.LinksSound.setEntry (i : StreamIndex) (e : Option StreamEntry) : (s.setEntry i e).LinksSound :=
  h.of_ports rfl rfl

theorem State.LinksSound.draw : s.draw.2.LinksSound := h.of_ports rfl rfl

/-! ## Selection and offers (R113, R69, R5) -/

theorem State.LinksSound.reportDeparture (o : Origin) : (s.reportDeparture o).LinksSound := by
  unfold State.reportDeparture
  split
  · exact h.of_ports rfl rfl
  · exact h

/-- A queue that holds a frame is one of a port that is not DOWN (R116), so a frame is sent at such a port only. -/
theorem State.LinksSound.sendHead (p : Port) (q : QueueNo) : (s.sendHead p q).LinksSound := by
  unfold State.sendHead
  split
  · exact h
  · rename_i f rest hf
    have hu : (s.port p).link ≠ .down := fun hd => by
      have he : (s.queue p q).frames = [] := ((h p).2 hd).2.2 q
      rw [he] at hf; cases hf
    have hm : (s.modQueue p q fun Q => { Q with frames := rest }).LinksSound :=
      h.modQueue p q _ fun hd => absurd hd hu
    refine State.LinksSound.reportDeparture (hm.modPort p _ ((hm p).of_up ?_ rfl rfl)) _
    rw [State.modQueue_port]; exact hu

theorem State.LinksSound.trySelect (p : Port) : (s.trySelect p).LinksSound := by
  obtain e | ⟨q, f, rest, _, _, _, e⟩ := s.trySelect_spec p
  · rw [e]; exact h
  · rw [e]; exact h.sendHead p q

theorem State.LinksSound.enqueue (p : Port) (q : QueueNo) (f : Frame) (o : Origin) (hu : (s.port p).link ≠ .down) :
    (s.enqueue p q f o).LinksSound := by
  unfold State.enqueue
  have hm := fun g => h.modQueue p q g fun hd => absurd hd hu
  dsimp only
  split
  · exact (hm _).trySelect p
  · exact hm _

/-- A DOWN port refuses every frame (R5), so an offer keeps its queues empty. -/
theorem State.LinksSound.offer (p : Port) (q : QueueNo) (f : Frame) (o : Origin) : (s.offer p q f o).LinksSound := by
  unfold State.offer
  obtain ⟨_, e⟩ | ⟨_, _, e⟩ | ⟨hu, _, e⟩ := s.judgeOffer_spec p q f <;> rw [e]
  · exact (h.returnBlocks _).countQueue p q _
  · exact ((h.returnBlocks _).countQueue p q _).reportDeparture o
  · exact h.enqueue p q f o hu

/-! ## Notices (chapter 9) -/

theorem State.LinksSound.listEvent (e : Event) : (s.listEvent e).LinksSound := h.of_ports rfl rfl

theorem State.LinksSound.offerNotice (p : Port) (f : Frame) : (s.offerNotice p f).LinksSound := by
  unfold State.offerNotice
  split
  · exact (h.offer p 3 f .notice).listEvent _
  · exact h.offer p 3 f .notice

theorem State.LinksSound.firstSend (dest : Requester) (x : NoticeEntry) : (s.firstSend dest x).LinksSound := by
  unfold State.firstSend
  split
  · exact h.of_ports rfl rfl
  · rename_i t ht
    refine State.LinksSound.offerNotice ?_ _ _
    exact (h.takeBlocks ht).of_ports rfl rfl

theorem State.LinksSound.trySend : s.trySend.LinksSound := by
  unfold State.trySend
  split
  · exact h
  · split
    · split
      · exact h.firstSend _ _
      · exact h
    · exact h

theorem State.LinksSound.raise (e : Event) : (s.raise e).LinksSound := (h.listEvent e).trySend

theorem State.LinksSound.offerFrame (p : Port) (q : QueueNo) (f : Frame) (o : Origin) :
    (s.offerFrame p q f o).LinksSound := by
  unfold State.offerFrame
  split
  · exact (h.offer p q f o).raise _
  · exact h.offer p q f o

theorem State.LinksSound.takeAck (station : Half) (payload : List Byte) : (s.takeAck station payload).LinksSound := by
  unfold State.takeAck
  dsimp only
  split
  · exact h.of_ports rfl rfl
  · exact State.LinksSound.trySend (h.of_ports rfl rfl)

theorem State.LinksSound.retryNotice (x : NoticeEntry) (attempts : Nat) : (s.retryNotice x attempts).LinksSound := by
  unfold State.retryNotice
  dsimp only
  split
  · exact h.of_ports rfl rfl
  · split
    · exact h.of_ports rfl rfl
    · split
      · exact h.of_ports rfl rfl
      · rename_i t ht
        refine State.LinksSound.offerNotice ?_ _ _
        exact (h.takeBlocks ht).of_ports rfl rfl

theorem State.LinksSound.abandonNotice : s.abandonNotice.LinksSound :=
  State.LinksSound.trySend (h.of_ports rfl rfl)

theorem State.LinksSound.retryExpired : s.retryExpired.LinksSound := by
  have hs : ({ s with notice := { s.notice with retryTimer := none } } : State).LinksSound := h.of_ports rfl rfl
  unfold State.retryExpired
  dsimp only
  split
  · exact hs.trySend
  · split
    · exact hs
    · split
      · exact hs.retryNotice _ _
      · exact hs.abandonNotice

theorem State.LinksSound.changeDestination (dest : Option Requester) : (s.changeDestination dest).LinksSound := by
  unfold State.changeDestination State.drawTieIndex
  split
  · exact h.of_ports rfl rfl
  · dsimp only
    split <;> exact h.of_ports rfl rfl

theorem State.LinksSound.recomputeDestination : s.recomputeDestination.LinksSound := by
  unfold State.recomputeDestination
  split
  · exact h
  · exact h.changeDestination _

theorem State.LinksSound.updateDestination : s.updateDestination.LinksSound := by
  unfold State.updateDestination
  split
  · exact h
  · exact (h.changeDestination _).trySend

theorem State.LinksSound.setNotices (x : NoticeSettings) : (s.setNotices x).LinksSound := by
  refine State.LinksSound.trySend (State.LinksSound.recomputeDestination ?_)
  exact h.of_ports rfl rfl

/-! ## Ageing, cycle starts and beats (R74, R83, R86 to R91) -/

theorem State.LinksSound.reportDepartures (fs : List QueuedFrame) : (s.reportDepartures fs).LinksSound := by
  unfold State.reportDepartures
  induction fs generalizing s with
  | nil => exact h
  | cons f fs ih => exact ih (h.reportDeparture f.origin)

theorem State.LinksSound.ageQueue (p : Port) (q : QueueNo) : (s.ageQueue p q).LinksSound := by
  unfold State.ageQueue
  dsimp only
  split
  · exact h
  · refine ((h.modQueue_of_empty p q _ fun Q hQ => ?_).returnBlocks _).reportDepartures _
    simp [youngFrames, hQ]

theorem State.LinksSound.runWork (w : Work) : (runWork w s).LinksSound := by
  cases w with
  | age p q => exact h.ageQueue p q
  | select p => exact h.trySelect p
  | raise e => exact h.raise e

theorem State.LinksSound.inAnyOrder (l : List Work) : (inAnyOrder Machine.runWork l s).LinksSound :=
  inAnyOrder_preserves (P := State.LinksSound) (fun _ h => h.draw) (fun w _ h => h.runWork w) l s h

/-- A cycle start changes the gates of the ports alone (R111). -/
theorem State.LinksSound.startCycle (start : Ticks) (realign : Bool) : (s.startCycle start realign).LinksSound :=
  (State.linksSound_iff _).2 ⟨h .u, h .d⟩

theorem State.LinksSound.scheduledStart : s.scheduledStart.LinksSound := (h.startCycle _ _).inAnyOrder _

theorem State.LinksSound.lockingBeat (t : Ticks) : (s.lockingBeat t).LinksSound := by
  unfold State.lockingBeat
  split
  · refine State.LinksSound.raise ?_ _
    exact h.of_ports rfl rfl
  · refine State.LinksSound.inAnyOrder ?_ _
    exact (h.startCycle t true).of_ports rfl rfl

theorem State.LinksSound.reAnchor (t : Ticks) : (s.reAnchor t).LinksSound := by
  refine State.LinksSound.trySelect (State.LinksSound.trySelect ?_ .u) .d
  exact (State.linksSound_iff _).2 ⟨h .u, h .d⟩

theorem State.LinksSound.earlyBeat (t : Ticks) : (s.earlyBeat t).LinksSound := by
  refine State.LinksSound.inAnyOrder ?_ _
  exact (h.startCycle t true).of_ports rfl rfl

theorem State.LinksSound.beatFault : s.beatFault.LinksSound := by
  unfold State.beatFault
  dsimp only
  split
  · refine State.LinksSound.raise ?_ _
    exact h.of_ports rfl rfl
  · exact h.of_ports rfl rfl

theorem State.LinksSound.firstBeat (t : Ticks) : (s.firstBeat t).LinksSound := by
  unfold State.firstBeat
  dsimp only
  split
  · split
    · exact h.reAnchor t
    · exact h.beatFault
  · split
    · exact h.earlyBeat t
    · exact h.beatFault

theorem State.LinksSound.reportBeat (t : Ticks) : (s.reportBeat t).LinksSound := by
  unfold State.reportBeat
  split
  · exact h
  · exact (h.countBeat _).lockingBeat t
  · exact (h.countBeat _).lockingBeat t
  · dsimp only
    split
    · exact (h.countBeat _).countBeat _
    · exact (h.countBeat _).firstBeat t

/-! ## The end of an event and timed events (R132, R133, log entry 5) -/

theorem State.LinksSound.unitReset : s.unitReset.LinksSound :=
  (State.linksSound_iff _).2 ⟨PortState.LinkSound.unitReset (h .u) _, PortState.LinkSound.unitReset (h .d) _⟩

theorem State.LinksSound.settle : s.settle.LinksSound := by
  unfold State.settle
  split
  · exact h.unitReset
  · exact h

theorem State.LinksSound.whenReached (due : Option Ticks) {effect : State → State}
    (he : ∀ u : State, u.LinksSound → (effect u).LinksSound) : (s.whenReached due effect).LinksSound := by
  obtain ⟨t, _, _, e⟩ | e := s.whenReached_spec due effect <;> rw [e]
  · exact he _ (h.of_ports rfl rfl)
  · exact h

end
end Sys2Proof.Machine
end

section
/-! SUPPORT. The law of the line ports through requests, reception and routing, and the step that keeps it (O7). -/

namespace Sys2Proof.Machine

/-! ## Requests leave the link law (chapters 7 and 8) -/

/-- Step 6 of a request other than these six leaves both ports as they are. -/
theorem Op.serve_ports (o : Op) (r : Request) (s : State)
    (h : o ∉ [Op.queueSet, .unlistedSet, .counterRead, .sessionOpen, .sessionClose, .noticeSet]) :
    (o.serve r s).1.portU = s.portU ∧ (o.serve r s).1.portD = s.portD := by
  cases o <;> simp at h
  case identify => exact ⟨rfl, rfl⟩
  case unitReset => exact ⟨rfl, rfl⟩
  case sessionKeep => simp only [Op.serve, serveSessionKeep]; split <;> exact ⟨rfl, rfl⟩
  case streamWrite =>
    simp only [Op.serve, serveStreamWrite]
    repeat' split
    all_goals exact ⟨rfl, rfl⟩
  case streamClear => exact ⟨rfl, rfl⟩
  case streamState =>
    simp only [Op.serve, serveStreamState]
    repeat' split
    all_goals exact ⟨rfl, rfl⟩
  case streamRead => exact ⟨rfl, rfl⟩
  case streamFind =>
    simp only [Op.serve, serveStreamFind]
    repeat' split
    all_goals exact ⟨rfl, rfl⟩
  case streamPurge => simp only [Op.serve, serveStreamPurge]; split <;> exact ⟨rfl, rfl⟩
  case streamReset => simp only [Op.serve, serveStreamReset]; split <;> exact ⟨rfl, rfl⟩
  case queueRead => simp only [Op.serve, serveQueueRead]; split <;> exact ⟨rfl, rfl⟩
  case beatSet =>
    simp only [Op.serve, serveBeatSet]
    repeat' split
    all_goals exact ⟨rfl, rfl⟩
  case timeRead => exact ⟨rfl, rfl⟩
  case planHeader =>
    simp only [Op.serve, servePlanHeader]
    repeat' split
    all_goals exact ⟨rfl, rfl⟩
  case planWindows =>
    simp only [Op.serve, servePlanWindows]
    repeat' split
    all_goals exact ⟨rfl, rfl⟩
  case planRead => simp only [Op.serve, servePlanRead]; split <;> exact ⟨rfl, rfl⟩
  case planRevert => simp only [Op.serve, servePlanRevert]; split <;> exact ⟨rfl, rfl⟩
  case planCommit =>
    simp only [Op.serve, servePlanCommit]
    repeat' split
    all_goals exact ⟨rfl, rfl⟩
  case planCancel => simp only [Op.serve, servePlanCancel]; split <;> exact ⟨rfl, rfl⟩
  case noticeRead => exact ⟨rfl, rfl⟩

section
variable {s : State} (h : s.LinksSound)
include h

theorem State.LinksSound.serveQueueSet (r : Request) : (serveQueueSet r s).1.LinksSound := by
  unfold Machine.serveQueueSet
  dsimp only
  split
  · split
    · exact h.modQueue_of_empty _ _ _ fun _ hQ => hQ
    · exact h
  · exact h

theorem State.LinksSound.serveUnlistedSet (r : Request) : (serveUnlistedSet r s).1.LinksSound := by
  unfold Machine.serveUnlistedSet
  split
  · exact h.modPort _ _ (h _)
  · exact h

theorem State.LinksSound.clearSet (c : CounterSet) : (s.clearSet c).LinksSound := by
  cases c with
  | port p => exact h.countPort p _
  | stream i => exact h.setEntry i _
  | queue p q => exact h.countQueue p q _
  | gate p => exact h.modPort p _ (h p)
  | beat => exact h.of_ports rfl rfl
  | management => exact h.of_ports rfl rfl
  | notice => exact h.of_ports rfl rfl

theorem State.LinksSound.serveCounterRead (r : Request) : (serveCounterRead r s).1.LinksSound := by
  unfold Machine.serveCounterRead
  split
  · exact h
  · split
    · exact h
    · dsimp only
      split
      · exact h.clearSet _
      · exact h

theorem State.LinksSound.endSession : s.endSession.LinksSound := h.of_ports rfl rfl

theorem State.LinksSound.serveSessionOpen (r : Request) : (serveSessionOpen r s).1.LinksSound := by
  unfold Machine.serveSessionOpen
  dsimp only
  split
  · exact h
  · split
    · split
      · exact h.of_ports rfl rfl
      · exact h
    · refine State.LinksSound.updateDestination ?_
      exact h.of_ports rfl rfl

theorem State.LinksSound.serveNoticeSet (r : Request) : (serveNoticeSet r s).1.LinksSound := by
  unfold Machine.serveNoticeSet
  split
  · exact h.setNotices _
  · exact h

theorem State.LinksSound.serve (o : Op) (r : Request) : (o.serve r s).1.LinksSound := by
  by_cases ho : o ∈ [Op.queueSet, .unlistedSet, .counterRead, .sessionOpen, .sessionClose, .noticeSet]
  · simp only [List.mem_cons, List.not_mem_nil, or_false] at ho
    rcases ho with rfl | rfl | rfl | rfl | rfl | rfl
    · exact h.serveQueueSet r
    · exact h.serveUnlistedSet r
    · exact h.serveCounterRead r
    · exact h.serveSessionOpen r
    · exact h.endSession.updateDestination
    · exact h.serveNoticeSet r
  · obtain ⟨hu, hd⟩ := o.serve_ports r s ho
    exact h.of_ports hu hd

theorem State.LinksSound.serveOf (o : Option Op) (r : Request) : (serveOf o r s).1.LinksSound := by
  cases o with
  | none => exact h
  | some o => exact h.serve o r

/-! ## Replies and takes (R120, R125) -/

theorem State.LinksSound.dropReply : s.dropReply.LinksSound := by
  unfold State.dropReply
  dsimp only
  split
  · exact h.of_ports rfl rfl
  · exact h.of_ports rfl rfl

theorem State.LinksSound.sendReply (r : Request) (payload : List Byte) : (s.sendReply r payload).LinksSound := by
  unfold State.sendReply
  dsimp only
  split
  · exact h.dropReply
  · split
    · exact h.dropReply
    · rename_i t ht
      exact ((h.takeBlocks ht).countManagement _).offerFrame _ _ _ _

theorem State.LinksSound.answer (r : Request) (a : Answer) : (s.answer r a).LinksSound := by
  refine State.LinksSound.sendReply ?_ _ _
  exact h.of_ports rfl rfl

theorem State.LinksSound.renewLease (q : Requester) : (s.renewLease q).LinksSound :=
  h.of_ports (s.renewLease_portU q) (s.renewLease_portD q)

theorem State.LinksSound.handle (o o' : Option Op) (r : Request) : (s.handle o (Machine.serveOf o') r).LinksSound := by
  unfold State.handle
  split
  · exact h.answer _ _
  · exact ((h.renewLease _).countManagement _).sendReply _ _
  · have hs := (h.renewLease r.requester).serveOf o' r
    split <;> rename_i t he <;> rw [he] at hs
    · exact hs.answer _ _
    · exact hs

theorem State.LinksSound.endTake : s.endTake.LinksSound := by
  unfold State.endTake
  split
  · exact h.of_ports rfl rfl
  · exact h

theorem State.LinksSound.takeRequest (o : Option Op) : (s.takeRequest o (Machine.serveOf o)).LinksSound := by
  unfold State.takeRequest
  split
  · rename_i r rest _ _
    split
    · have ht : (s.takeHead r rest).LinksSound := h.of_ports rfl rfl
      exact (ht.handle o o r).endTake
    · exact h
  · exact h

theorem State.LinksSound.takeNext : s.takeNext.LinksSound := by
  unfold State.takeNext
  split
  · exact h
  · exact h.takeRequest _

theorem State.LinksSound.offerRequest (f : Frame) (arrival : Port) : (s.offerRequest f arrival).LinksSound := by
  unfold State.offerRequest
  split
  · exact h.of_ports rfl rfl
  · split <;> exact h.of_ports rfl rfl

theorem State.LinksSound.deliverRequest (f : Frame) (arrival : Port) : (s.deliverRequest f arrival).LinksSound := by
  unfold State.deliverRequest
  split
  · exact (h.offerRequest f arrival).takeNext
  · exact h.offerRequest f arrival

theorem State.LinksSound.expireLease : s.expireLease.LinksSound := by
  unfold State.expireLease
  split
  · exact h
  · exact (h.endSession.recomputeDestination.listEvent _).trySend

theorem State.LinksSound.visitNext : s.visitNext.LinksSound := by
  unfold State.visitNext
  split
  · rename_i r source i cleared takenAt _
    have hc : (if s.hasSource source i then s.setEntry i none else s).LinksSound := by
      split
      · exact h.setEntry i none
      · exact h
    dsimp only
    split
    · exact hc.of_ports rfl rfl
    · refine State.LinksSound.endTake (State.LinksSound.answer ?_ _ _)
      exact hc.of_ports rfl rfl
  · exact h

/-! ## The Stream Table (R23, R24) -/

theorem State.LinksSound.carryOut (p : Port) (f : Frame) (r : StreamRecord) (x : Fate) :
    (s.carryOut p f r x).LinksSound := by
  cases x with
  | passed => exact h.offerFrame _ _ _ _
  | demoted q => exact h.offerFrame _ _ _ _
  | discarded _ => exact h.returnBlocks _

theorem State.LinksSound.eitherOrder {f g : State → State} (hf : ∀ u : State, u.LinksSound → (f u).LinksSound)
    (hg : ∀ u : State, u.LinksSound → (g u).LinksSound) : (eitherOrder f g s).LinksSound :=
  eitherOrder_preserves (P := State.LinksSound) (hg _ (hf _ h.draw)) (hf _ (hg _ h.draw))

theorem State.LinksSound.hit (p : Port) (f : Frame) (arrival : Ticks) (i : StreamIndex) (e : StreamEntry) :
    (s.hit p f arrival i e).LinksSound := by
  unfold State.hit
  dsimp only
  split
  · exact (h.setEntry i _).eitherOrder (fun _ hu => hu.carryOut _ _ _ _) (fun _ hu => hu.raise _)
  · exact (h.setEntry i _).carryOut _ _ _ _

theorem State.LinksSound.unlisted (p : Port) (f : Frame) : (s.unlisted p f).LinksSound := by
  unfold State.unlisted
  split
  · exact (h.countPort p _).offerFrame _ _ _ _
  · exact (h.returnBlocks _).countPort p _

theorem State.LinksSound.miss (p : Port) (f : Frame) : (s.miss p f).LinksSound :=
  h.eitherOrder (fun _ hu => hu.unlisted p f) (fun _ hu => hu.raise _)

theorem State.LinksSound.classify (p : Port) (f : Frame) (arrival : Ticks) : (s.classify p f arrival).LinksSound := by
  unfold State.classify
  split
  · exact h.miss p f
  · split
    · exact h.miss p f
    · exact h.hit p f arrival _ _

/-! ## Routing and reception (R6 to R17) -/

theorem State.LinksSound.misaddress (p : Port) (f : Frame) : (s.misaddress p f).LinksSound :=
  (h.returnBlocks _).countPort p _

theorem State.LinksSound.inTransit (p : Port) (f : Frame) : (s.inTransit p f).LinksSound := h.offerFrame _ _ _ _

theorem State.LinksSound.broadcastCopy (p : Port) (f : Frame) : (s.broadcastCopy p f).LinksSound := by
  unfold State.broadcastCopy
  split
  · exact h.countPort p _
  · rename_i t ht
    exact (h.takeBlocks ht).inTransit p f

theorem State.LinksSound.route (p : Port) (f : Frame) (arrival : Ticks) : (s.route p f arrival).LinksSound := by
  unfold State.route
  split
  case h_1 =>
    split
    · exact h.misaddress p f
    · exact h.classify p f arrival
  case h_2 =>
    unfold State.routeBeat
    split
    · exact h.eitherOrder (fun _ hu => hu.inTransit p f) (fun _ hu => hu.reportBeat arrival)
    · exact h.inTransit p f
  case h_3 =>
    unfold State.routeControl
    split
    · exact h.eitherOrder (fun _ hu => hu.deliverRequest f p) (fun _ hu => hu.broadcastCopy p f)
    · split
      · exact h.deliverRequest f p
      · exact h.inTransit p f
  case h_6 =>
    unfold State.routeAck
    split
    · exact (h.returnBlocks _).takeAck _ _
    · exact h.inTransit p f
  all_goals
    split
    · exact h.misaddress p f
    · exact h.inTransit p f

/-- A port whose receiver is not IDLE is not DOWN, so what reception does next to it keeps the law. -/
theorem State.LinksSound.up_of_receiving {p : Port} (hr : (s.port p).receiver ≠ .idle) : (s.port p).link ≠ .down :=
  (h p).up_of_receiving hr

theorem State.LinksSound.abandon (p : Port) (bytes : List Byte) (f : PortCounters → PortCounters)
    (hr : (s.port p).receiver ≠ .idle) : (s.abandon p bytes f).LinksSound := by
  refine ((h.returnBlocks _).countPort p f).setReceiver p _ ?_
  have hu := h.up_of_receiving hr
  cases p <;> exact hu

theorem State.LinksSound.startFrame (p : Port) : (s.startFrame p).LinksSound := by
  unfold State.startFrame
  split
  · rename_i hc
    have hu : (s.port p).link ≠ .down := by simp [hc.1]
    split
    · rename_i t ht
      refine (h.takeBlocks ht).setReceiver p _ ?_
      rw [((State.takeBlocks_onlySending ht).port p).link]; exact hu
    · refine (h.countPort p _).setReceiver p _ ?_
      cases p <;> exact hu
  · exact h

theorem State.LinksSound.completeHeader (p : Port) (bytes : List Byte) : (s.completeHeader p bytes).LinksSound := by
  unfold State.completeHeader
  split
  · rename_i hr
    have hr' : (s.port p).receiver ≠ .idle := by simp [hr]
    split
    · exact h
    · split
      · exact h.abandon p _ _ hr'
      · split
        · exact h.abandon p _ _ hr'
        · exact h.setReceiver p _ (h.up_of_receiving hr')
  · exact h

theorem State.LinksSound.crossBoundary (p : Port) (bytes : List Byte) : (s.crossBoundary p bytes).LinksSound := by
  unfold State.crossBoundary
  split
  · rename_i hr
    have hr' : (s.port p).receiver ≠ .idle := by simp [hr]
    split
    · split
      · refine State.LinksSound.setReceiver ?_ p _ ?_
        · exact h.of_ports rfl rfl
        · have hu := h.up_of_receiving hr'
          cases p <;> exact hu
      · exact h.abandon p _ _ hr'
    · exact h
  · exact h

theorem State.LinksSound.takeSurplus (p : Port) (bytes : List Byte) : (s.takeSurplus p bytes).LinksSound := by
  unfold State.takeSurplus
  split
  · rename_i hr
    split
    · exact h.abandon p _ _ (by simp [hr])
    · exact h
  · exact h

theorem State.LinksSound.endReception (p : Port) (old all : List Byte) : (s.endReception p old all).LinksSound := by
  have hi := h.setReceiver_idle p
  unfold State.endReception
  dsimp only
  split
  · exact (hi.returnBlocks _).countPort p _
  · exact (hi.returnBlocks _).countPort p _
  · exact (hi.countPort p _).route p _ _

theorem State.LinksSound.endFrame (p : Port) (bytes : List Byte) : (s.endFrame p bytes).LinksSound := by
  unfold State.endFrame
  split
  · exact h
  · exact h.setReceiver_idle p
  · split
    · exact h.endReception p _ _
    · exact h

/-! ## Transmission, windows and links (R18, R110, R2, R3) -/

theorem State.LinksSound.completeTransmission (p : Port) : (s.completeTransmission p).LinksSound := by
  unfold State.completeTransmission
  split
  · exact h
  · exact (((h.returnBlocks _).countQueue p _ _).setTransmitter_idle p).trySelect p

theorem State.LinksSound.changeWindow (p : Port) : (s.changeWindow p).LinksSound :=
  (h.modPort p _ (h p)).trySelect p

theorem State.LinksSound.raiseLink (p : Port) : (s.raiseLink p).LinksSound := by
  unfold State.raiseLink State.noticeLinkUp
  split
  · have hu : ((s.modPort p fun P => { P with link := .up, linkPinHigh := false }).trySelect p).LinksSound :=
      (h.modPort p _ ⟨by simp, by simp⟩).trySelect p
    split
    · exact hu.trySend
    · exact hu
  · exact h

omit h in
/-- A dropped port holds nothing (R3, R4, R116). -/
theorem PortState.dropped_linkSound (P : PortState) : P.dropped.LinkSound :=
  ⟨by simp [PortState.dropped], fun _ => ⟨rfl, rfl, fun q => by simp [PortState.dropped, Queue.flushed]⟩⟩

theorem State.LinksSound.dropLink (p : Port) : (s.dropLink p).LinksSound := by
  cases hl : (s.port p).link with
  | down => rw [s.dropLink_down p hl]; exact h
  | up =>
    rw [s.dropLink_eq p hl]
    exact (h.modPort p PortState.dropped (PortState.dropped_linkSound _)).of_ports rfl rfl

/-! ## Every event and every step -/

theorem State.LinksSound.runEvent {t : State} {effect : State → State} (ht : runEvent s effect = .next t)
    (he : (effect s).LinksSound) : t.LinksSound := by
  unfold Machine.runEvent at ht
  split at ht <;> cases ht
  · exact h
  · exact he.settle

/-- A take, the command of a request, keeps the law. -/
theorem State.LinksSound.take {t : State} (o : Option Op) (ht : Machine.exec (takeInstr o) s = .next t) :
    t.LinksSound := by
  rw [exec_takeInstr] at ht
  exact h.runEvent ht (h.takeRequest o)

theorem State.LinksSound.exec {t : State} (i : Instr) (ht : exec i s = .next t) : t.LinksSound := by
  cases i
  case coldReset straps => cases ht; exact (State.coldReset_linksSound (stationOf straps)).of_ports rfl rfl
  case resetNAsserted => cases ht; exact (State.coldReset_linksSound s.station).of_ports rfl rfl
  case linkUp p => exact h.runEvent ht (h.raiseLink p)
  case linkDown p => exact h.runEvent ht (h.dropLink p)
  case frameStart p => exact h.runEvent ht (h.startFrame p)
  case headerCompletion p bytes =>
    exact h.runEvent (effect := fun s => s.completeHeader p bytes) ht (h.completeHeader p bytes)
  case blockBoundary p bytes =>
    exact h.runEvent (effect := fun s => s.crossBoundary p bytes) ht (h.crossBoundary p bytes)
  case surplusByte p bytes =>
    exact h.runEvent (effect := fun s => s.takeSurplus p bytes) ht (h.takeSurplus p bytes)
  case endOfFrame p bytes =>
    exact h.runEvent (effect := fun s => s.endFrame p bytes) ht (h.endFrame p bytes)
  case transmissionCompletion p =>
    exact h.runEvent (effect := fun s => s.whenReached (s.port p).completion fun s => s.completeTransmission p) ht
      (h.whenReached _ fun _ hu => hu.completeTransmission p)
  case scheduledCycleStart =>
    exact h.runEvent (effect := fun s => s.whenReached (some s.timer.scheduledEnd) State.scheduledStart) ht
      (h.whenReached _ fun _ hu => hu.scheduledStart)
  case windowChange p =>
    exact h.runEvent (effect := fun s => s.whenReached (s.windowChangeAt p) fun s => s.changeWindow p) ht
      (h.whenReached _ fun _ hu => hu.changeWindow p)
  case leaseExpiry =>
    exact h.runEvent (effect := fun s => s.whenReached (s.session.map Session.expiry) State.expireLease) ht
      (h.whenReached _ fun _ hu => hu.expireLease)
  case retryTimerExpiry =>
    exact h.runEvent (effect := fun s => s.whenReached s.notice.retryTimer State.retryExpired) ht
      (h.whenReached _ fun _ hu => hu.retryExpired)
  case purgeVisit => exact h.runEvent ht h.visitNext
  case identify => exact h.take (some .identify) ht
  case unitReset => exact h.take (some .unitReset) ht
  case sessionOpen => exact h.take (some .sessionOpen) ht
  case sessionKeep => exact h.take (some .sessionKeep) ht
  case sessionClose => exact h.take (some .sessionClose) ht
  case streamWrite => exact h.take (some .streamWrite) ht
  case streamClear => exact h.take (some .streamClear) ht
  case streamState => exact h.take (some .streamState) ht
  case streamRead => exact h.take (some .streamRead) ht
  case streamFind => exact h.take (some .streamFind) ht
  case streamPurge => exact h.take (some .streamPurge) ht
  case unlistedSet => exact h.take (some .unlistedSet) ht
  case streamReset => exact h.take (some .streamReset) ht
  case queueSet => exact h.take (some .queueSet) ht
  case queueRead => exact h.take (some .queueRead) ht
  case beatSet => exact h.take (some .beatSet) ht
  case timeRead => exact h.take (some .timeRead) ht
  case planHeader => exact h.take (some .planHeader) ht
  case planWindows => exact h.take (some .planWindows) ht
  case planRead => exact h.take (some .planRead) ht
  case planRevert => exact h.take (some .planRevert) ht
  case planCommit => exact h.take (some .planCommit) ht
  case planCancel => exact h.take (some .planCancel) ht
  case noticeSet => exact h.take (some .noticeSet) ht
  case noticeRead => exact h.take (some .noticeRead) ht
  case counterRead => exact h.take (some .counterRead) ht
  case unknownRequest => exact h.take none ht

theorem State.LinksSound.idle {t : State} (ht : idle s = .next t) : t.LinksSound := by
  obtain e | e | e | ⟨i, e | e⟩ := idle_spec s <;> rw [e] at ht
  · cases ht; exact h
  · cases ht; exact h.of_ports rfl rfl
  · cases ht; exact h.of_ports rfl rfl
  · exact h.exec i ht
  · exact h.draw.exec i ht

end

/-- Settles O7: every operation of the model keeps the link law, so every command and every idle step does. -/
theorem everyStepKeepsLinksSound : Obligations.EveryStepKeepsLinksSound := by
  intro s t h ht
  obtain ⟨i, rest, _, e⟩ | ⟨_, e⟩ := step_spec s <;> rw [e] at ht
  · have hr : ({ s with pending := rest } : State).LinksSound := h.of_ports rfl rfl
    exact hr.exec i ht
  · exact h.idle ht

end Sys2Proof.Machine
end

section
/-! SUPPORT. The events of a line port that neither route nor send a frame: link events (O17, O18), frame start, header
completion, block boundary, surplus byte and the end of a discarded frame (O19 to O22), and the completion of a
transmission (O35). -/

namespace Sys2Proof.Machine

/-! ## Events of a plain device -/

/-- Where no reset is held or awaited, an event that leaves the engine's state alone is its effect. -/
theorem State.Plain.event {s : State} (h : s.Plain) {effect : State → State}
    (he : (effect s).engine.state = s.engine.state) : runEvent s effect = .next (effect s) := by
  rw [runEvent_running s _ h.running, State.settle_eq]
  rw [he]; exact h.notDue

/-- With the queues of a port empty a selection finds nothing (R114). -/
theorem State.trySelect_empty (s : State) (p : Port) (h : ∀ q, (s.queue p q).frames = []) : s.trySelect p = s := by
  obtain e | ⟨q, f, rest, _, _, hf, _⟩ := s.trySelect_spec p
  · exact e
  · rw [h q] at hf; cases hf

/-! ## Link events (R2 to R4) -/

/-- At a link-up with empty queues the port is raised, and a send is tried if notices go to that port (R2, R152). -/
theorem State.raiseLink_empty (s : State) (p : Port) (hd : (s.port p).link = .down)
    (hq : ∀ q, (s.queue p q).frames = []) :
    s.raiseLink p = (s.modPort p fun P => { P with link := .up, linkPinHigh := false }).noticeLinkUp p := by
  unfold State.raiseLink
  rw [if_pos hd, State.trySelect_empty]
  intro q
  simpa [State.queue] using hq q

/-- Settles O17: with empty queues the selection finds nothing, so at most the send of R152 follows. -/
theorem linkUpRaisesThePort : Obligations.LinkUpRaisesThePort := by
  intro s p h
  have hev : ∀ {t : State}, s.raiseLink p = t → t.engine = s.engine → exec (.linkUp p) s = .next t := by
    rintro t rfl ht
    exact h.event (effect := fun s => s.raiseLink p) (by rw [ht])
  refine ⟨fun hd hq => ?_, fun hu => hev (by simp [State.raiseLink, hu]) rfl⟩
  have hr := s.raiseLink_empty p hd hq
  unfold State.noticeLinkUp at hr
  rw [State.modPort_notice] at hr
  by_cases hn : s.notice.destination.map Requester.port = some p
  · rw [if_pos hn] at hr
    refine ⟨_, hev hr ?_, State.trySend_onlySending _, fun h => absurd hn h, fun _ => rfl⟩
    rw [State.trySend_engine _ (by simpa using h.notResetting), State.modPort_engine]
  · rw [if_neg hn] at hr
    exact ⟨_, hev hr (State.modPort_engine _ _ _), .refl _, fun _ => rfl, fun h => absurd h hn⟩

/-- Settles O18: outside RESETTING no departure concerns the engine, so the link-down drops the port and no more. -/
theorem linkDownEmptiesThePort : Obligations.LinkDownEmptiesThePort := by
  intro s p h
  have hdep : ∀ fs, s.engine.departs fs = s.engine := fun fs => s.engine.departs_eq fs h.notResetting
  constructor
  · intro hu
    have he := s.dropLink_eq p hu
    rw [hdep] at he
    refine (h.event (effect := fun s => s.dropLink p) (by rw [he])).trans ?_
    rw [he]
    cases p <;> rfl
  · intro hd
    have he := s.dropLink_down p hd
    exact (h.event (effect := fun s => s.dropLink p) (by rw [he])).trans (by rw [he])

/-! ## Frame start (R6) -/

theorem State.startFrame_up (s : State) (p : Port) (hu : (s.port p).link = .up) (hr : (s.port p).receiver = .idle) :
    s.startFrame p =
      if 1 ≤ s.pool then { s.modPort p (fun P => { P with receiver := .receiving [] }) with pool := s.pool - 1 }
      else
        s.modPort p fun P =>
          { P with
            receiver := .discarding
            counters := { P.counters with noBuffer := countUp P.counters.noBuffer } } := by
  unfold State.startFrame
  rw [if_pos ⟨hu, hr⟩]
  obtain ⟨hb, e⟩ | ⟨hb, e⟩ := s.takeBlocks_spec 1 <;> rw [e]
  · rw [if_pos hb]; cases p <;> rfl
  · rw [if_neg (by omega)]; cases p <;> rfl

/-- A frame start on a DOWN port is not received; during a frame it is no event (log entry 8). -/
theorem State.startFrame_not (s : State) (p : Port) (h : (s.port p).link = .down ∨ (s.port p).receiver ≠ .idle) :
    s.startFrame p = s := by
  unfold State.startFrame
  rw [if_neg]
  rintro ⟨hu, hr⟩
  rcases h with h | h
  · rw [hu] at h; cases h
  · exact h hr

theorem State.startFrame_engine (s : State) (p : Port) : (s.startFrame p).engine = s.engine := by
  unfold State.startFrame
  split
  · obtain ⟨_, e⟩ | ⟨_, e⟩ := s.takeBlocks_spec 1 <;> rw [e] <;> simp
  · rfl

/-- Settles O19, by the two cases of a frame start: received or not. -/
theorem frameStartTakesOneBlock : Obligations.FrameStartTakesOneBlock := by
  intro s p h
  have hev : exec (.frameStart p) s = .next (s.startFrame p) := 
    h.event (effect := fun s => s.startFrame p) (by rw [State.startFrame_engine])
  rw [hev]
  exact ⟨fun hu hr => by rw [s.startFrame_up p hu hr], fun hn => by rw [s.startFrame_not p hn]⟩

/-! ## Header completion (R9, R7) -/

/-- A frame in reception is abandoned: its blocks return, it is counted, the receiver discards (R8). -/
theorem State.abandon_eq (s : State) (p : Port) (bytes : List Byte) (f : PortCounters → PortCounters) :
    s.abandon p bytes f =
      { s.modPort p (fun P => { P with receiver := .discarding, counters := f P.counters }) with
        pool := s.pool + receptionBlocks bytes } := by
  cases p <;> rfl

/-- A kind code from 6 on is no kind (R171). -/
theorem Kind.ofCode_isNone (n : Nat) : (Kind.ofCode n).isNone = true ↔ 6 ≤ n := by
  match n with
  | 0 | 1 | 2 | 3 | 4 | 5 => simp [Kind.ofCode]
  | n + 6 => simp [Kind.ofCode]

/-- The kind code of DATA is 0. -/
theorem Kind.ofCode_data (n : Nat) : Kind.ofCode n = some .data ↔ n = 0 := by
  match n with
  | 0 | 1 | 2 | 3 | 4 | 5 => simp [Kind.ofCode]
  | n + 6 => simp [Kind.ofCode]

theorem headerKind_data (bs : List Byte) : headerKind bs = some .data ↔ (byteAt bs 4).toNat / 16 = 0 :=
  Kind.ofCode_data _

theorem headerMalformed_iff (bs : List Byte) :
    headerMalformed bs = true ↔ 6 ≤ (byteAt bs 4).toNat / 16 ∨ 4095 < fieldAt bs 6 2 ∨ 1024 < fieldAt bs 10 2
      ∨ fieldAt bs 2 2 = 0 ∨ fieldAt bs 2 2 = 0xFFFF := by
  simp only [headerMalformed, headerKind, Config.maxTag, Config.maxPayload, Bool.or_eq_true, decide_eq_true_eq,
    beq_iff_eq, or_assoc, Kind.ofCode_isNone]
  rfl

/-- A frame of `k` blocks in reception: more than `256 (k - 1)` and at most `256 k` bytes (R19). -/
theorem receptionBlocks_eq {bytes : List Byte} {k : Nat} (hl : 256 * (k - 1) < bytes.length)
    (hu : bytes.length ≤ 256 * k) : receptionBlocks bytes = k := by
  unfold receptionBlocks blocksFor Config.blockBytes
  omega

theorem State.completeHeader_engine (s : State) (p : Port) (bytes : List Byte) :
    (s.completeHeader p bytes).engine = s.engine := by
  unfold State.completeHeader
  repeat' split
  all_goals simp [State.abandon_eq]

/-- Settles O20: the three branches of header completion are the three clauses, and a header holds one block. -/
theorem headerCompletionJudgesTheHeader : Obligations.HeaderCompletionJudgesTheHeader := by
  intro s p bytes h hr hl
  have hk : receptionBlocks bytes = 1 := receptionBlocks_eq (by omega) (by omega)
  have hev : exec (.headerCompletion p bytes) s = .next (s.completeHeader p bytes) :=
    h.event (effect := fun s => s.completeHeader p bytes) (by rw [State.completeHeader_engine])
  rw [hev]
  congr 1
  unfold State.completeHeader
  simp only [hr, hl, ne_eq, not_true_eq_false, if_false, headerMalformed_iff, headerKind_data, State.abandon_eq, hk]
  rfl

/-! ## Block boundaries and surplus bytes (R7 to R9) -/

theorem State.crossBoundary_engine (s : State) (p : Port) (bytes : List Byte) :
    (s.crossBoundary p bytes).engine = s.engine := by
  unfold State.crossBoundary
  repeat' split
  all_goals simp [State.abandon_eq]

theorem State.takeSurplus_engine (s : State) (p : Port) (bytes : List Byte) :
    (s.takeSurplus p bytes).engine = s.engine := by
  unfold State.takeSurplus
  repeat' split
  all_goals simp [State.abandon_eq]

/-- One more block is granted to a DATA frame from 17 free blocks on, to any other from 1 on (R7). -/
theorem State.grantsBlock_iff (s : State) (old : List Byte) :
    s.grantsBlock old = true ↔ (if (byteAt old 4).toNat / 16 = 0 then 17 else 1) ≤ s.pool := by
  simp only [State.grantsBlock, headerKind_data, Config.reserveBlocks]
  split <;> simp

/-- Settles O21: the frame holds `k` blocks so far, so its bytes reach the boundary, or the surplus byte. -/
theorem longFramesTakeBlocks : Obligations.LongFramesTakeBlocks := by
  intro s p old bytes k h hr hh hl hu
  have hk : receptionBlocks old = k := receptionBlocks_eq hl hu
  constructor
  · intro hb hd
    have hev : exec (.blockBoundary p bytes) s = .next (s.crossBoundary p bytes) :=
      h.event (effect := fun s => s.crossBoundary p bytes) (by rw [State.crossBoundary_engine])
    have hreach : reachesBoundary old bytes = true := by
      simp [reachesBoundary, hk, hh, hb, declaredBytes, headerLength, Config.blockBytes]; omega
    rw [hev]
    congr 1
    unfold State.crossBoundary
    simp only [hr, hreach, if_true, State.grantsBlock_iff, State.abandon_eq, hk]
    split <;> cases p <;> rfl
  · intro hb hd
    have hev : exec (.surplusByte p bytes) s = .next (s.takeSurplus p bytes) :=
      h.event (effect := fun s => s.takeSurplus p bytes) (by rw [State.takeSurplus_engine])
    have hreach : reachesSurplus old bytes = true := by
      simp [reachesSurplus, hk, hh, hb, declaredBytes, headerLength, Config.blockBytes]; omega
    rw [hev]
    congr 1
    unfold State.takeSurplus
    simp only [hr, hreach, if_true, State.abandon_eq, hk]
    rfl

/-! ## The end of a frame that is not accepted (R10, R8, R11) -/

/-- The frame check passes when the CRC-32 of all but the last 4 bytes is the number these 4 spell (R11). -/
theorem checkPasses_iff (bs : List Byte) :
    checkPasses bs = true ↔ (crc32 (bs.take (bs.length - 4))).toNat = fieldAt bs (bs.length - 4) 4 := by
  unfold checkPasses fieldAt
  rw [beq_iff_eq, List.take_of_length_le (l := bs.drop (bs.length - 4)) (by rw [List.length_drop]; omega)]

theorem judgeEnd_short {bs : List Byte} (h : bs.length < 16) : judgeEnd bs = .malformed := if_pos h

theorem judgeEnd_checkError {bs : List Byte} (h : 16 ≤ bs.length) (hc : checkPasses bs = false) :
    judgeEnd bs = .checkError := by
  unfold judgeEnd
  rw [if_neg (by omega), if_pos (by simp [hc])]

theorem judgeEnd_wrongLength {bs : List Byte} (h : 16 ≤ bs.length) (hc : checkPasses bs = true)
    (hn : bs.length ≠ declaredBytes bs) : judgeEnd bs = .malformed := by
  unfold judgeEnd
  rw [if_neg (by omega), if_neg (by simp [hc]), if_pos hn]

/-- Settles O22, by the judgement of the frame at its end (R10). -/
theorem endOfFrameDiscards : Obligations.EndOfFrameDiscards := by
  intro s p bytes h
  have hev : ∀ {t : State}, s.endFrame p bytes = t → t.engine = s.engine → exec (.endOfFrame p bytes) s = .next t := by
    rintro t rfl ht
    exact h.event (effect := fun s => s.endFrame p bytes) (by rw [ht])
  refine ⟨fun hr => hev (by simp [State.endFrame, hr]; rfl) (by simp), ?_⟩
  rintro old n hr he rfl
  have hend : s.endFrame p bytes = s.endReception p old (old ++ bytes) := by simp [State.endFrame, hr, he]
  constructor
  · intro hm
    have hj : judgeEnd (old ++ bytes) = .malformed := by
      by_cases hs : (old ++ bytes).length < 16
      · exact judgeEnd_short hs
      · obtain ⟨hc, hn⟩ := hm.resolve_left hs
        exact judgeEnd_wrongLength (by omega) ((checkPasses_iff _).2 hc) hn
    refine hev ?_ (by simp)
    rw [hend]; unfold State.endReception; rw [hj]
    cases p <;> rfl
  · intro hs hc
    have hj : judgeEnd (old ++ bytes) = .checkError :=
      judgeEnd_checkError hs (by rwa [← Bool.not_eq_true, checkPasses_iff])
    refine hev ?_ (by simp)
    rw [hend]; unfold State.endReception; rw [hj]
    cases p <;> rfl

/-! ## Transmission completion (R18) -/

/-- An event of a timer at its deadline, with no other deadline before it (log entry 5). -/
theorem State.whenReached_first {s : State} {t : Ticks} (hf : s.First t) (effect : State → State) :
    s.whenReached (some t) effect = effect { s with localTime := max s.localTime t } :=
  if_pos (by simpa [State.First] using hf)

/-- Counting at a queue leaves the frames of every queue. -/
theorem State.countQueue_frames (s : State) (p p' : Port) (q k : QueueNo) (f : QueueCounters → QueueCounters) :
    ((s.countQueue p q f).queue p' k).frames = (s.queue p' k).frames := by
  unfold State.countQueue
  by_cases h : p' ≠ p ∨ k ≠ q
  · rw [State.modQueue_queue_ne _ _ _ _ _ _ h]
  · obtain ⟨rfl, rfl⟩ : p' = p ∧ k = q := by simpa using h
    rw [State.modQueue_queue]

/-- The device as a completion of a frame from queue `q` at time `c` leaves it for the selection (R18). -/
def State.completed (s : State) (p : Port) (q : QueueNo) (f : Frame) (c : Ticks) : State :=
  { (s.countQueue p q fun c => { c with transmitted := countUp c.transmitted }).modPort p (fun P =>
      { P with transmitter := .idle }) with
    localTime := max s.localTime c
    pool := s.pool + f.blocks }

theorem State.completed_engine (s : State) (p : Port) (q : QueueNo) (f : Frame) (c : Ticks) :
    (s.completed p q f c).engine = s.engine := by
  simp [State.completed]

theorem State.completed_frames (s : State) (p : Port) (q k : QueueNo) (f : Frame) (c : Ticks) :
    ((s.completed p q f c).queue p k).frames = (s.queue p k).frames := by
  rw [← s.countQueue_frames p p q k fun c => { c with transmitted := countUp c.transmitted }]
  cases p <;> rfl

/-- A completion that is first among the deadlines frees the transmitter at its time and tries a selection. -/
theorem State.whenReached_completion {s : State} {p : Port} {q : QueueNo} {f : Frame} {c : Ticks}
    (ht : (s.port p).transmitter = .sending q f c) (hf : s.First c) :
    (s.whenReached (s.port p).completion fun s => s.completeTransmission p) = (s.completed p q f c).trySelect p := by
  have ht' : (({ s with localTime := max s.localTime c } : State).port p).transmitter = .sending q f c := by
    cases p <;> exact ht
  simp only [PortState.completion, ht, s.whenReached_first hf, State.completeTransmission, ht']
  cases p <;> rfl

/-- On an IDLE transmitter there is no completion to reach (log entry 8). -/
theorem State.whenReached_completion_idle {s : State} {p : Port} (ht : (s.port p).transmitter = .idle) :
    (s.whenReached (s.port p).completion fun s => s.completeTransmission p) = s := by
  simp [PortState.completion, ht, State.whenReached]

/-- Settles O35: a completion that is first among the deadlines happens at its time and ends in a selection. -/
theorem completionFreesTheTransmitter : Obligations.CompletionFreesTheTransmitter := by
  intro s p h
  have hev : ∀ {t : State}, (s.whenReached (s.port p).completion fun s => s.completeTransmission p) = t →
      t.engine = s.engine → exec (.transmissionCompletion p) s = .next t := by
    rintro t rfl ht
    exact h.event (effect := fun s => s.whenReached (s.port p).completion fun s => s.completeTransmission p)
      (by rw [ht])
  have hsend : ∀ (q : QueueNo) (f : Frame) (c : Ticks), (s.port p).transmitter = .sending q f c → s.First c →
      exec (.transmissionCompletion p) s = .next ((s.completed p q f c).trySelect p) := by
    intro q f c ht hf
    refine hev (s.whenReached_completion ht hf) ?_
    rw [State.trySelect_engine _ _ (by rw [s.completed_engine]; exact h.notResetting), s.completed_engine]
  refine ⟨hsend, fun q f c ht hf hq => ?_, fun ht => hev (s.whenReached_completion_idle ht) rfl⟩
  rw [hsend q f c ht hf, State.trySelect_empty _ _ fun k => (s.completed_frames p q k f c).trans (hq k)]
  rfl

end Sys2Proof.Machine
end

section
/-! SUPPORT. The machine right after reset (O11), and the bytes of frames (O26). -/

namespace Sys2Proof.Machine

/-! ## The machine right after reset -/

theorem State.reset_entry (i : StreamIndex) : State.reset.entry i = none := by
  simp [State.entry, State.reset, State.coldReset]

/-- After reset all 512 blocks are free: queues, receivers, transmitters and the request queue hold none (R63). -/
theorem State.reset_blocksConserved : State.reset.BlocksConserved := by decide +kernel

/-- The default plan is valid (R96, R97). -/
theorem Plan.default_valid : Plan.default.valid = true := by decide +kernel

theorem State.reset_plansSound : State.reset.PlansSound := by
  refine ⟨fun p => ?_, fun h => absurd h (by decide), fun h => absurd rfl h, rfl, fun p => ?_⟩
  · cases p <;> exact ⟨Plan.default_valid, rfl⟩
  · cases p <;> exact ⟨by decide, by decide⟩

/-- Settles O11: an empty table, the default plans and reset ports meet each law. -/
theorem resetIsSound : Obligations.ResetIsSound := by
  refine ⟨State.reset_blocksConserved, ?_, ?_, State.reset_plansSound, State.coldReset_linksSound _, ?_, ?_, ?_, ?_⟩
  · intro i j e f he
    rw [State.reset_entry] at he; cases he
  · intro i e he
    rw [State.reset_entry] at he; cases he
  · decide
  · decide
  · decide
  · intro i e he
    rw [State.reset_entry] at he; cases he

/-! ## Numbers and their bytes (chapter 11) -/

theorem natOfBytes_foldl (bs : List Byte) (a : Nat) :
    bs.foldl (fun acc b => acc * 256 + b.toNat) a = a * 256 ^ bs.length + natOfBytes bs := by
  unfold natOfBytes
  induction bs generalizing a with
  | nil => simp
  | cons b bs ih =>
    rw [List.foldl_cons, List.foldl_cons, ih, ih (0 * 256 + b.toNat), List.length_cons, Nat.pow_succ]
    ring

theorem natOfBytes_cons (b : Byte) (bs : List Byte) :
    natOfBytes (b :: bs) = b.toNat * 256 ^ bs.length + natOfBytes bs := by
  rw [← natOfBytes_foldl]; simp [natOfBytes]

/-- The `n` low bytes of a number spell it, where it fits in them. -/
theorem natOfBytes_beBytes (n v : Nat) : natOfBytes (beBytes n v) = v % 256 ^ n := by
  induction n with
  | zero => simp [beBytes, natOfBytes, Nat.mod_one]
  | succ n ih =>
    have hv : v % 256 ^ (n + 1) = v % 256 ^ n + 256 ^ n * (v / 256 ^ n % 2 ^ 8) := by
      rw [Nat.pow_succ]; exact Nat.mod_mul
    rw [beBytes, natOfBytes_cons, ih, beBytes_length, BitVec.toNat_ofNat, hv]
    ring

/-- A 16-bit field is what its 2 bytes spell. -/
theorem natOfBytes_half (x : Half) : natOfBytes (beBytes 2 x.toNat) = x.toNat := by
  rw [natOfBytes_beBytes]; exact Nat.mod_eq_of_lt x.isLt

/-- A 32-bit field is what its 4 bytes spell. -/
theorem natOfBytes_word (x : BitVec 32) : natOfBytes (beBytes 4 x.toNat) = x.toNat := by
  rw [natOfBytes_beBytes]; exact Nat.mod_eq_of_lt x.isLt

/-! ## The bytes of a frame (section 11.1) -/

theorem Kind.ofCode_code (k : Kind) : Kind.ofCode k.code = some k := by cases k <;> rfl

theorem Kind.code_lt (k : Kind) : k.code < 6 := by cases k <;> decide

theorem Frame.headerBytes_length (f : Frame) : f.headerBytes.length = 12 := by
  simp [Frame.headerBytes, beBytes_length]

theorem Frame.bytes_length (f : Frame) : f.bytes.length = 12 + f.payload.length + 4 := by
  simp [Frame.bytes, Frame.headerBytes_length, beBytes_length, Nat.add_assoc]

/-! The fields of a frame's bytes, in the order of the header (section 11.1). -/

theorem Frame.bytes_dest (f : Frame) : fieldAt f.bytes 0 2 = f.dest.toNat := natOfBytes_half f.dest
theorem Frame.bytes_src (f : Frame) : fieldAt f.bytes 2 2 = f.src.toNat := natOfBytes_half f.src
theorem Frame.bytes_kind (f : Frame) : byteAt f.bytes 4 = BitVec.ofNat 8 (f.kind.code * 16 + f.flags.toNat) := rfl
theorem Frame.bytes_reserved (f : Frame) : byteAt f.bytes 5 = f.reserved := rfl
theorem Frame.bytes_tag (f : Frame) : fieldAt f.bytes 6 2 = f.tag.toNat := natOfBytes_half f.tag
theorem Frame.bytes_seq (f : Frame) : fieldAt f.bytes 8 2 = f.seq.toNat := natOfBytes_half f.seq
theorem Frame.bytes_headerLength (f : Frame) (h : f.payload.length ≤ 1024) :
    headerLength f.bytes = f.payload.length := by
  have he : headerLength f.bytes = natOfBytes (beBytes 2 f.payload.length) := rfl
  rw [he, natOfBytes_beBytes]; omega
theorem Frame.bytes_payload (f : Frame) : (f.bytes.drop 12).take (f.bytes.length - 16) = f.payload := by
  have hd : f.bytes.drop 12 = f.payload ++ beBytes 4 f.check.toNat := rfl
  rw [hd, Frame.bytes_length]; simp

/-- The last 4 bytes are the check, the others the header and the payload (R11). -/
theorem Frame.bytes_split (f : Frame) :
    f.bytes.take (f.bytes.length - 4) = f.headerBytes ++ f.payload
      ∧ f.bytes.drop (f.bytes.length - 4) = beBytes 4 f.check.toNat := by
  have hn : f.bytes.length - 4 = (f.headerBytes ++ f.payload).length := by
    rw [Frame.bytes_length, List.length_append, Frame.headerBytes_length]; omega
  rw [hn]
  exact ⟨List.take_left, List.drop_left⟩

/-- Kind and flags share byte 4: the kind its upper four bits, the flags its lower four (R171). -/
theorem kindByte (k : Kind) (flags : BitVec 4) :
    (BitVec.ofNat 8 (k.code * 16 + flags.toNat)).toNat / 16 = k.code
      ∧ (BitVec.ofNat 8 (k.code * 16 + flags.toNat)).setWidth 4 = flags := by
  have hk := k.code_lt
  have hf := flags.isLt
  refine ⟨by rw [BitVec.toNat_ofNat]; omega, BitVec.eq_of_toNat_eq ?_⟩
  rw [BitVec.toNat_setWidth, BitVec.toNat_ofNat]; omega

theorem Frame.bytes_headerKind (f : Frame) : headerKind f.bytes = some f.kind := by
  rw [headerKind, Frame.bytes_kind, (kindByte _ _).1, Kind.ofCode_code]

/-- What a receiver keeps of the bytes of a frame is the frame (R18, R171). -/
theorem frameOfBytes_bytes (f : Frame) : frameOfBytes f.bytes = some f := by
  unfold frameOfBytes
  rw [Frame.bytes_headerKind, Frame.bytes_kind, (kindByte _ _).2, Frame.bytes_dest, Frame.bytes_src,
    Frame.bytes_reserved, Frame.bytes_tag, Frame.bytes_seq, Frame.bytes_payload, (Frame.bytes_split f).2,
    natOfBytes_word]
  simp

theorem Frame.bytes_declared (f : Frame) (h : f.payload.length ≤ 1024) : declaredBytes f.bytes = f.bytes.length := by
  rw [declaredBytes, Frame.bytes_headerLength f h, Frame.bytes_length]

/-- A receiver accepts a frame whose check is the CRC-32 of its header and payload (R11). -/
theorem judgeEnd_bytes (f : Frame) (h : f.payload.length ≤ 1024) (hc : f.check = crc32 (f.headerBytes ++ f.payload)) :
    judgeEnd f.bytes = .accepted f := by
  have hp : checkPasses f.bytes = true := by
    rw [checkPasses, (Frame.bytes_split f).1, (Frame.bytes_split f).2, natOfBytes_word, hc, beq_self_eq_true]
  have hl : ¬ f.bytes.length < 16 := by rw [Frame.bytes_length]; omega
  unfold judgeEnd
  rw [if_neg hl, hp, Frame.bytes_declared f h, frameOfBytes_bytes]
  simp

/-- Settles O26, by reading each field back from the bytes of a frame. -/
theorem frameBytesSpellTheFrame : Obligations.FrameBytesSpellTheFrame := by
  refine ⟨fun f h => ⟨frameOfBytes_bytes f, f.bytes_length, f.bytes_declared h, ?_, rfl⟩, ?_⟩
  · unfold Frame.blocks Frame.size blocksFor Config.blockBytes
    split_ifs <;> omega
  · intro dest src seq kind payload h
    exact judgeEnd_bytes _ h rfl

end Sys2Proof.Machine
end

section
/-! SUPPORT. The offer of a frame to an egress queue (R69), and the routing of frames in transit
(R13, R14, R16, O23). -/

namespace Sys2Proof.Machine

/-! ## The offer of a frame (R69) -/

theorem State.judgeOffer_down (s : State) (p : Port) (q : QueueNo) (f : Frame) (hd : (s.port p).link = .down) :
    s.judgeOffer p q f = .egressDown := if_pos hd

theorem State.judgeOffer_full (s : State) (p : Port) (q : QueueNo) (f : Frame) (hu : (s.port p).link = .up)
    (hl : (s.queue p q).limit < (s.queue p q).blocks + f.blocks) : s.judgeOffer p q f = .full := by
  rw [State.judgeOffer, if_neg (by simp [hu]), if_pos hl]

theorem State.judgeOffer_admitted (s : State) (p : Port) (q : QueueNo) (f : Frame) (hu : (s.port p).link = .up)
    (hl : (s.queue p q).blocks + f.blocks ≤ (s.queue p q).limit) : s.judgeOffer p q f = .admitted := by
  rw [State.judgeOffer, if_neg (by simp [hu]), if_neg (by omega)]

/-- A DOWN port refuses the frame, whose blocks return (R5, R69). -/
theorem State.offerFrame_down (s : State) (p : Port) (q : QueueNo) (f : Frame) (o : Origin)
    (hd : (s.port p).link = .down) :
    s.offerFrame p q f o =
      (s.returnBlocks f.blocks).countQueue p q fun c =>
        { c with droppedEgressDown := countUp c.droppedEgressDown } := by
  simp only [State.offerFrame, State.offer, s.judgeOffer_down p q f hd, reduceCtorEq, if_false]

/-- A refusal above the limit returns the blocks, reports the departure and hands QUEUE_OVERFLOW on (R69, R72). -/
theorem State.offerFrame_full (s : State) (p : Port) (q : QueueNo) (f : Frame) (o : Origin)
    (hu : (s.port p).link = .up) (hl : (s.queue p q).limit < (s.queue p q).blocks + f.blocks) :
    s.offerFrame p q f o =
      (((s.returnBlocks f.blocks).countQueue p q fun c =>
        { c with droppedFull := countUp c.droppedFull }).reportDeparture o).raise (.queueOverflow p q) := by
  simp only [State.offerFrame, State.offer, s.judgeOffer_full p q f hu hl, if_true]

/-- An admitted frame stands at the tail, and a selection is tried if its queue is open (R69, R113). -/
theorem State.offerFrame_admitted (s : State) (p : Port) (q : QueueNo) (f : Frame) (o : Origin)
    (hu : (s.port p).link = .up) (hl : (s.queue p q).blocks + f.blocks ≤ (s.queue p q).limit) :
    s.offerFrame p q f o =
      if (s.plans.activePlan p).opens (s.port p).gate.window q = true then
        (s.modQueue p q fun Q => Q.enqueued f s.timer.index o).trySelect p
      else s.modQueue p q fun Q => Q.enqueued f s.timer.index o := by
  have hopen : ∀ g, (s.modQueue p q g).queueOpen p q = (s.plans.activePlan p).opens (s.port p).gate.window q := by
    intro g
    rw [State.queueOpen, State.modQueue_plans, State.modQueue_port]
  simp only [State.offerFrame, State.offer, s.judgeOffer_admitted p q f hu hl, reduceCtorEq, if_false, State.enqueue,
    hopen]
  rfl

/-- Only the awaited reply's departure in RESETTING is of interest to the engine (R126). -/
theorem State.reportDeparture_other (s : State) (o : Origin) (h : o = .reply true → s.engine.state ≠ .resetting) :
    s.reportDeparture o = s :=
  if_neg fun ⟨ho, hr⟩ => h ho hr

/-- The awaited reply's departure in RESETTING makes the unit reset due (R132). -/
theorem State.reportDeparture_awaited (s : State) (h : s.engine.state = .resetting) :
    s.reportDeparture (.reply true) = { s with engine := { s.engine with state := .resetDue } } :=
  if_pos ⟨rfl, h⟩

/-! ## What sending at one port leaves at the other -/

theorem State.reportDeparture_port (s : State) (o : Origin) (p : Port) : (s.reportDeparture o).port p = s.port p := by
  unfold State.reportDeparture
  split
  · cases p <;> rfl
  · rfl

theorem State.trySelect_port_ne (s : State) {p p' : Port} (h : p' ≠ p) : (s.trySelect p).port p' = s.port p' := by
  obtain e | ⟨q, f, rest, _, _, hf, e⟩ := s.trySelect_spec p
  · rw [e]
  · rw [e, State.sendHead, hf]
    simp only [State.reportDeparture_port, State.setTransmitter, State.modQueue, State.modPort_port_ne _ _ _ _ h]

theorem State.offer_port_ne (s : State) {p p' : Port} (q : QueueNo) (f : Frame) (o : Origin) (h : p' ≠ p) :
    (s.offer p q f o).port p' = s.port p' := by
  have hret : (s.returnBlocks f.blocks).port p' = s.port p' := by cases p' <;> rfl
  unfold State.offer
  split
  · rw [State.countQueue, State.modQueue, State.modPort_port_ne _ _ _ _ h, hret]
  · rw [State.reportDeparture_port, State.countQueue, State.modQueue, State.modPort_port_ne _ _ _ _ h, hret]
  · unfold State.enqueue
    dsimp only
    split
    · rw [State.trySelect_port_ne _ h, State.modQueue, State.modPort_port_ne _ _ _ _ h]
    · rw [State.modQueue, State.modPort_port_ne _ _ _ _ h]

theorem State.listEvent_port (s : State) (e : Event) (p : Port) : (s.listEvent e).port p = s.port p := by
  cases p <;> rfl

theorem State.offerNotice_port_ne (s : State) {p p' : Port} (f : Frame) (h : p' ≠ p) :
    (s.offerNotice p f).port p' = s.port p' := by
  unfold State.offerNotice
  split
  · rw [State.listEvent_port, State.offer_port_ne _ _ _ _ h]
  · rw [State.offer_port_ne _ _ _ _ h]

/-- A send touches no port but the destination's (R153). -/
theorem State.trySend_port_ne (s : State) (p : Port) (h : s.notice.destination.map Requester.port ≠ some p) :
    s.trySend.port p = s.port p := by
  unfold State.trySend
  split
  · rfl
  · split
    · rename_i dest x _ hdest _
      have hp : p ≠ dest.port := by rw [hdest] at h; simpa using Ne.symm h
      split
      · unfold State.firstSend
        obtain ⟨_, e⟩ | ⟨_, e⟩ := s.takeBlocks_spec noticeBlocks <;> rw [e]
        · dsimp only
          rw [State.offerNotice_port_ne _ _ hp]
          cases p <;> rfl
        · cases p <;> rfl
      · rfl
    · rfl

theorem State.raise_port_ne (s : State) (e : Event) (p : Port) (h : s.notice.destination.map Requester.port ≠ some p) :
    (s.raise e).port p = s.port p := by
  rw [State.raise, State.trySend_port_ne, State.listEvent_port]
  rwa [(s.listEvent_onlySending e).destination]

/-! ## Accepted frames (R13 to R16) -/

theorem State.received_port_other (s : State) (p : Port) : (s.received p).port p.other = s.port p.other :=
  State.modPort_port_other _ _ _

theorem State.received_queue_other (s : State) (p : Port) (q : QueueNo) :
    (s.received p).queue p.other q = s.queue p.other q := by
  rw [State.queue, State.received_port_other]; rfl

theorem State.received_engine (s : State) (p : Port) : (s.received p).engine = s.engine := State.modPort_engine _ _ _

/-- The end of an accepted frame is its routing, where that leaves the engine alone. -/
theorem State.Accepting.routed {s t : State} {p : Port} {bytes : List Byte} {f : Frame} (h : s.Accepting p bytes f)
    (ht : (s.received p).route p f s.localTime = t) (he : t.engine.state = s.engine.state) :
    exec (.endOfFrame p bytes) s = .next t := by
  rw [h.event, ht, State.settle_eq]
  rw [he]; exact h.plain.notDue

/-- DATA, REPLY and NOTICE frames to the device's own address are misaddressed (R13, R16). -/
theorem State.route_misaddressed (s : State) (p : Port) (f : Frame) (arrival : Ticks) (hd : f.dest = s.station)
    (hk : f.kind = .data ∨ f.kind = .reply ∨ f.kind = .notice) : s.route p f arrival = s.misaddress p f := by
  unfold State.route
  rcases hk with hk | hk | hk <;> simp [hk, hd]

/-- What goes in transit: a BEAT not on the beat port, a REPLY, NOTICE or ACK not for the device, a CONTROL frame for
another station (R14). -/
theorem State.route_inTransit (s : State) (p : Port) (f : Frame) (arrival : Ticks)
    (h : f.kind = .beat ∧ s.beat.source ≠ some p
      ∨ (f.kind = .reply ∨ f.kind = .notice ∨ f.kind = .ack) ∧ f.dest ≠ s.station
      ∨ f.kind = .control ∧ f.dest ≠ s.station ∧ f.dest ≠ 0xFFFF) :
    s.route p f arrival = s.offerFrame p.other 3 f .forwarded := by
  unfold State.route
  rcases h with ⟨hk, hs⟩ | ⟨hk | hk | hk, hd⟩ | ⟨hk, hd, hb⟩
  · simp [hk, State.routeBeat, hs, State.inTransit]
  · simp [hk, hd, State.inTransit]
  · simp [hk, hd, State.inTransit]
  · simp [hk, hd, State.routeAck, State.inTransit]
  · simp only [hk]
    rw [State.routeControl, if_neg hb, if_neg hd]; rfl

/-- Settles O23: routing by kind and destination first, then the offer by its judgement (R69). -/
theorem framesAreRoutedByDestination : Obligations.FramesAreRoutedByDestination := by
  refine ⟨fun s p bytes f h => ⟨fun hd hk => ?_, fun hc => ?_⟩, fun s p q f o => ⟨?_, ?_, ?_, ?_⟩⟩
  · refine h.routed (State.route_misaddressed _ p f _ (by simpa [State.received] using hd) hk |>.trans ?_) ?_
    · cases p <;> rfl
    · cases p <;> rfl
  · have hroute := (s.received p).route_inTransit p f s.localTime (by simpa [State.received] using hc)
    have hne : (s.received p).engine.state ≠ .resetting := by rw [State.received_engine]; exact h.plain.notResetting
    have hev : exec (.endOfFrame p bytes) s = .next ((s.received p).offerFrame p.other 3 f .forwarded) :=
      h.routed hroute (by rw [State.offerFrame_engine _ _ _ _ _ hne, State.received_engine])
    refine ⟨hev, fun hd => ?_, fun hu hl => ⟨_, hev, State.offerFrame_onlySending _ _ _ _ _, fun hn => ?_⟩,
      fun hu hl ht => ?_⟩
    · rw [hev, State.offerFrame_down _ _ _ _ _ (by rwa [State.received_port_other])]
      cases p <;> rfl
    · rw [State.offerFrame_full _ _ _ _ _ (by rwa [State.received_port_other]) (by rwa [State.received_queue_other]),
        State.reportDeparture_other _ _ (by simp), State.queue, State.raise_port_ne]
      · show (State.countQueue _ _ _ _).queue _ _ = _
        rw [State.countQueue, State.modQueue_queue]
        have hq := s.received_queue_other p 3
        rw [← hq]; rfl
      · simpa [State.received] using hn
    · rw [hev, State.offerFrame_busy _ _ _ _ _ (by rwa [State.received_port_other])
        (by rwa [State.received_port_other]) (by rwa [State.received_queue_other])]
      simp [State.received]
  · exact fun hd => s.offerFrame_down p q f o hd
  · intro hu hl ho
    rw [s.offerFrame_full p q f o hu hl, State.reportDeparture_other _ _ (by simpa using ho)]
    rfl
  · rintro hu hl rfl hr
    rw [s.offerFrame_full p q f _ hu hl, State.reportDeparture_awaited _ (by simpa using hr)]
    cases p <;> rfl
  · exact fun hu hl => s.offerFrame_admitted p q f o hu hl

end Sys2Proof.Machine
end

section
/-! SUPPORT. The two deliveries of a broadcast CONTROL frame (R17, R119, R120, O24). -/

namespace Sys2Proof.Machine

/-! ## The request queue (R119) -/

/-- The device with a CONTROL frame's request at the tail of its request queue (R118). -/
def State.queueing (s : State) (f : Frame) (p : Port) : State :=
  { s with engine := { s.engine with queue := s.engine.queue ++ [requestOf f p] } }

/-- The request that number, operation code and operands make (R118). -/
theorem requestOf_cons (f : Frame) (p : Port) {n c : Byte} {ops : List Byte} (hp : f.payload = n :: c :: ops) :
    requestOf f p = ⟨⟨f.src, p⟩, f.dest == 0xFFFF, f.seq, n, c, ops⟩ := by
  simp [requestOf, hp, byteAt]

theorem State.deliverRequest_malformed (s : State) (f : Frame) (p : Port) (hp : f.payload.length < 2) :
    s.deliverRequest f p =
      (s.returnBlocks f.blocks).countManagement fun c => { c with malformedRequest := countUp c.malformedRequest } := by
  have ha : ¬ s.admitsRequest f = true := by simp [State.admitsRequest]; omega
  rw [State.deliverRequest, if_neg ha, State.offerRequest, if_pos hp]

theorem State.deliverRequest_dropped (s : State) (f : Frame) (p : Port) (hp : 2 ≤ f.payload.length)
    (hq : 4 ≤ s.engine.queue.length) :
    s.deliverRequest f p =
      (s.returnBlocks f.blocks).countManagement fun c => { c with requestsDropped := countUp c.requestsDropped } := by
  have ha : ¬ s.admitsRequest f = true := by simp [State.admitsRequest, Config.requestQueueMax]; omega
  rw [State.deliverRequest, if_neg ha, State.offerRequest, if_neg (by omega), if_pos hq]

/-- An admitted request stands at the tail, and an IDLE engine takes the head in the same event (R119, R120). -/
theorem State.deliverRequest_admitted (s : State) (f : Frame) (p : Port) (hp : 2 ≤ f.payload.length)
    (hq : s.engine.queue.length < 4) : s.deliverRequest f p = (s.queueing f p).takeNext := by
  have ha : s.admitsRequest f = true := by simp [State.admitsRequest, Config.requestQueueMax]; omega
  have hq' : ¬ Config.requestQueueMax ≤ s.engine.queue.length := by
    show ¬ 4 ≤ s.engine.queue.length; omega
  rw [State.deliverRequest, if_pos ha, State.offerRequest, if_neg (by omega), if_neg hq']
  rfl

/-- An engine that is not IDLE takes nothing (R120). -/
theorem State.takeNext_busy (s : State) (h : s.engine.state ≠ .idle) : s.takeNext = s := by
  unfold State.takeNext
  split
  · rfl
  · unfold State.takeRequest
    split
    · rename_i hi _; exact absurd hi h
    · rfl

theorem State.deliverRequest_waits (s : State) (f : Frame) (p : Port) (hp : 2 ≤ f.payload.length)
    (hq : s.engine.queue.length < 4) (hi : s.engine.state ≠ .idle) : s.deliverRequest f p = s.queueing f p := by
  rw [s.deliverRequest_admitted f p hp hq, State.takeNext_busy]
  exact hi

/-- The command of the head's take takes the head (R120). -/
theorem exec_takeInstr_head (s : State) {r : Request} {rest : List Request} (hr : s.resetHeld = false)
    (hq : s.engine.queue = r :: rest) : exec (takeInstr (Op.ofCode r.op)) s = .next s.takeNext.settle := by
  rw [exec_takeInstr, runEvent_running _ _ hr, State.takeNext, hq]

/-! ## A broadcast request -/

theorem State.answer_state (s : State) (r : Request) (a : Answer) (h : s.engine.state ≠ .resetting) :
    (s.answer r a).engine.state = s.engine.state := by
  rw [State.answer, State.sendReply_engine (s.storeReply r (replyPayload r a)) _ _ h]; rfl

/-- A broadcast request is answered in EXECUTING: every one but IDENTIFY is refused or a repeat (R121). -/
theorem State.handle_broadcast_state (s : State) (o : Option Op) (r : Request) (hb : r.isBroadcast = true)
    (hx : s.engine.state = .executing) : (s.handle o (serveOf o) r).engine.state = .executing := by
  have hne : s.engine.state ≠ .resetting := by simp [hx]
  unfold State.handle
  split
  · rw [State.answer_state _ _ _ hne, hx]
  · rw [State.sendReply_engine _ _ _ (by simpa using hne)]
    simpa using hx
  · rename_i hpass
    have ho : o = some .identify := by
      by_contra hno
      simp [State.screen, hb, hno] at hpass
    subst ho
    show ((State.renewLease _ _).answer _ _).engine.state = _
    rw [State.answer_state _ _ _ (by simpa using hne), State.renewLease_engine, hx]

/-- The take of a broadcast request from an IDLE engine ends with the engine IDLE (R120). -/
theorem State.takeNext_broadcast_state (s : State) {r : Request} {rest : List Request}
    (hi : s.engine.state = .idle) (hq : s.engine.queue = r :: rest) (hb : r.isBroadcast = true) :
    s.takeNext.engine.state = .idle := by
  simp only [State.takeNext, State.takeRequest, hi, hq, if_true]
  rw [State.endTake_executing]
  exact State.handle_broadcast_state _ _ _ hb rfl

/-- The delivery of a broadcast to an IDLE engine without requests leaves the engine IDLE. -/
theorem State.deliverRequest_broadcast_state (s : State) (f : Frame) (p : Port) (hd : f.dest = 0xFFFF)
    (hp : 2 ≤ f.payload.length) (hi : s.engine.state = .idle) (hq : s.engine.queue = []) :
    (s.deliverRequest f p).engine.state = .idle := by
  rw [s.deliverRequest_admitted f p hp (by simp [hq])]
  refine State.takeNext_broadcast_state (r := requestOf f p) (rest := []) _ hi ?_ ?_
  · simp [State.queueing, hq]
  · simp [requestOf, hd]

/-! ## The forwarded copy (R17) -/

theorem State.broadcastCopy_none (s : State) (p : Port) (f : Frame) (h : s.pool < f.blocks) :
    s.broadcastCopy p f = s.countPort p fun c => { c with noBuffer := countUp c.noBuffer } := by
  obtain ⟨hb, _⟩ | ⟨_, e⟩ := s.takeBlocks_spec f.blocks
  · omega
  · rw [State.broadcastCopy, e]

theorem State.broadcastCopy_some (s : State) (p : Port) (f : Frame) (h : f.blocks ≤ s.pool) :
    s.broadcastCopy p f = ({ s with pool := s.pool - f.blocks } : State).offerFrame p.other 3 f .forwarded := by
  obtain ⟨_, e⟩ | ⟨hb, _⟩ := s.takeBlocks_spec f.blocks
  · rw [State.broadcastCopy, e]; rfl
  · omega

theorem State.broadcastCopy_engine (s : State) (p : Port) (f : Frame) (h : s.engine.state ≠ .resetting) :
    (s.broadcastCopy p f).engine = s.engine := by
  by_cases hb : f.blocks ≤ s.pool
  · rw [s.broadcastCopy_some p f hb]
    exact State.offerFrame_engine _ _ _ _ _ h
  · rw [s.broadcastCopy_none p f (by omega), State.countPort_engine]

/-- A copy for a DOWN port is counted there, and the pool is as before (R5, R17). -/
theorem State.broadcastCopy_down (s : State) (p : Port) (f : Frame) (h : f.blocks ≤ s.pool)
    (hd : (s.port p.other).link = .down) :
    s.broadcastCopy p f =
      s.countQueue p.other 3 fun c => { c with droppedEgressDown := countUp c.droppedEgressDown } := by
  rw [s.broadcastCopy_some p f h, State.offerFrame_down]
  · have hp : s.pool - f.blocks + f.blocks = s.pool := by omega
    simp only [State.returnBlocks, hp]
  · cases p <;> exact hd

/-- A copy admitted behind a frame in transmission takes its blocks and stands at the tail of Q3 (R17, R69). -/
theorem State.broadcastCopy_busy (s : State) (p : Port) (f : Frame) (h : f.blocks ≤ s.pool)
    (hu : (s.port p.other).link = .up) (ht : (s.port p.other).transmitter ≠ .idle)
    (hl : (s.queue p.other 3).blocks + f.blocks ≤ (s.queue p.other 3).limit) :
    s.broadcastCopy p f =
      ({ s with pool := s.pool - f.blocks } : State).modQueue p.other 3 fun Q =>
        Q.enqueued f s.timer.index .forwarded := by
  rw [s.broadcastCopy_some p f h]
  have hport : ({ s with pool := s.pool - f.blocks } : State).port p.other = s.port p.other := by cases p <;> rfl
  refine State.offerFrame_busy _ _ _ _ _ (by rwa [hport]) (by rwa [hport]) ?_
  rwa [State.queue, hport]

/-! ## Both deliveries -/

/-- A broadcast CONTROL frame is delivered and copied, in one order or the other (R17, log entry 1). -/
theorem State.Accepting.broadcast {s : State} {p : Port} {bytes : List Byte} {f : Frame} (h : s.Accepting p bytes f)
    (hk : f.kind = .control) (hd : f.dest = 0xFFFF) :
    ∃ u, exec (.endOfFrame p bytes) s = .next u.settle
      ∧ (s.received p).EitherOrder (fun x => x.deliverRequest f p) (fun x => x.broadcastCopy p f) u := by
  refine ⟨_, ?_, eitherOrder_spec _ _ _⟩
  rw [h.event, State.route]
  simp only [hk]
  rw [State.routeControl, if_pos hd]

/-- Both orders of the two deliveries lead from `x` to `t`. -/
def State.DeliversBoth (x : State) (p : Port) (f : Frame) (t : State) : Prop :=
  (x.deliverRequest f p).broadcastCopy p f = t ∧ (x.broadcastCopy p f).deliverRequest f p = t

section
variable (x : State) (p : Port) (f : Frame) (hp : 2 ≤ f.payload.length)
include hp

/-- A full request queue and a DOWN port: two refusals, and the frame's own blocks return. -/
theorem State.deliversBoth_dropped_down (hq : 4 ≤ x.engine.queue.length) (hl : (x.port p.other).link = .down)
    (hb : f.blocks ≤ x.pool) :
    x.DeliversBoth p f
      (((x.returnBlocks f.blocks).countManagement fun c =>
        { c with requestsDropped := countUp c.requestsDropped }).countQueue p.other 3 fun c =>
          { c with droppedEgressDown := countUp c.droppedEgressDown }) := by
  constructor
  · rw [x.deliverRequest_dropped f p hp hq, State.broadcastCopy_down]
    · simp
    · cases p <;> exact hl
  · rw [x.broadcastCopy_down p f hb hl, State.deliverRequest_dropped _ f p hp (by simpa using hq)]
    cases p <;> rfl

/-- A full request queue, and a copy admitted behind a frame in transmission: the copy has the request's blocks. -/
theorem State.deliversBoth_dropped_busy (hq : 4 ≤ x.engine.queue.length) (hu : (x.port p.other).link = .up)
    (ht : (x.port p.other).transmitter ≠ .idle)
    (hl : (x.queue p.other 3).blocks + f.blocks ≤ (x.queue p.other 3).limit) (hb : f.blocks ≤ x.pool) :
    x.DeliversBoth p f
      ((x.countManagement fun c => { c with requestsDropped := countUp c.requestsDropped }).modQueue p.other 3 fun Q =>
        Q.enqueued f x.timer.index .forwarded) := by
  constructor
  · rw [x.deliverRequest_dropped f p hp hq, State.broadcastCopy_busy]
    · simp only [State.countManagement_pool, State.returnBlocks_pool, Nat.add_sub_cancel]
      cases p <;> rfl
    · simp
    all_goals cases p <;> assumption
  · rw [x.broadcastCopy_busy p f hb hu ht hl, State.deliverRequest_dropped _ f p hp (by simpa using hq),
      State.returnBlocks]
    have hpool : x.pool - f.blocks + f.blocks = x.pool := by omega
    simp only [State.modQueue_pool, hpool]
    cases p <;> rfl

/-- A waiting request, and no blocks for a copy. -/
theorem State.deliversBoth_waits_none (hq : x.engine.queue.length < 4) (hi : x.engine.state ≠ .idle)
    (hb : x.pool < f.blocks) :
    x.DeliversBoth p f ((x.queueing f p).countPort p fun c => { c with noBuffer := countUp c.noBuffer }) := by
  constructor
  · rw [x.deliverRequest_waits f p hp hq hi, State.broadcastCopy_none]
    exact hb
  · rw [x.broadcastCopy_none p f hb, State.deliverRequest_waits _ f p hp (by simpa using hq) (by simpa using hi)]
    cases p <;> rfl

/-- A waiting request, and a copy admitted behind a frame in transmission. -/
theorem State.deliversBoth_waits_busy (hq : x.engine.queue.length < 4) (hi : x.engine.state ≠ .idle)
    (hu : (x.port p.other).link = .up) (ht : (x.port p.other).transmitter ≠ .idle)
    (hl : (x.queue p.other 3).blocks + f.blocks ≤ (x.queue p.other 3).limit) (hb : f.blocks ≤ x.pool) :
    x.DeliversBoth p f
      (({ x.queueing f p with pool := x.pool - f.blocks } : State).modQueue p.other 3 fun Q =>
        Q.enqueued f x.timer.index .forwarded) := by
  constructor
  · rw [x.deliverRequest_waits f p hp hq hi, State.broadcastCopy_busy]
    · rfl
    · exact hb
    all_goals cases p <;> assumption
  · rw [x.broadcastCopy_busy p f hb hu ht hl,
      State.deliverRequest_waits _ f p hp (by simpa using hq) (by simpa using hi)]
    cases p <;> rfl

end

/-- The device as the two deliveries of a broadcast find it: the frame received, the draw counted (log entry 1). -/
def State.delivering (s : State) (p : Port) : State := { s.received p with freeCount := s.freeCount + 1 }

theorem State.delivering_pool (s : State) (p : Port) : (s.delivering p).pool = s.pool := by cases p <;> rfl
theorem State.delivering_engine (s : State) (p : Port) : (s.delivering p).engine = s.engine := by cases p <;> rfl
theorem State.delivering_port (s : State) (p : Port) : (s.delivering p).port p.other = s.port p.other := by
  cases p <;> rfl
theorem State.delivering_queue (s : State) (p : Port) (q : QueueNo) :
    (s.delivering p).queue p.other q = s.queue p.other q := by cases p <;> rfl

/-- Where both orders of the two deliveries lead to one state, with the engine's state as it was, so does the event. -/
theorem State.Accepting.broadcast_eq {s t : State} {p : Port} {bytes : List Byte} {f : Frame}
    (h : s.Accepting p bytes f) (hk : f.kind = .control) (hd : f.dest = 0xFFFF)
    (hb : (s.delivering p).DeliversBoth p f t)
    (he : t.engine.state = s.engine.state) : exec (.endOfFrame p bytes) s = .next t := by
  obtain ⟨u, hu, ho⟩ := h.broadcast hk hd
  have hfree : (s.received p).freeCount = s.freeCount := State.modPort_freeCount _ _ _
  have hut : u = t := by
    rw [State.EitherOrder, hfree] at ho
    rcases ho with ho | ho
    · exact ho.trans hb.1
    · exact ho.trans hb.2
  rw [hu, hut, State.settle_eq]
  rw [he]; exact h.plain.notDue

/-- At an IDLE engine without requests the event of a broadcast ends with its deliveries: no unit reset is due, because
a broadcast UNIT_RESET is refused (R121). -/
theorem State.Accepting.broadcast_idle {s : State} {p : Port} {bytes : List Byte} {f : Frame}
    (h : s.Accepting p bytes f) (hk : f.kind = .control) (hd : f.dest = 0xFFFF) (hp : 2 ≤ f.payload.length)
    (hi : s.engine.state = .idle) (hq : s.engine.queue = []) :
    ∃ t, exec (.endOfFrame p bytes) s = .next t
      ∧ (s.received p).EitherOrder (fun x => x.deliverRequest f p) (fun x => x.broadcastCopy p f) t := by
  obtain ⟨u, hu, ho⟩ := h.broadcast hk hd
  refine ⟨u, ?_, ho⟩
  have hidle : u.engine.state = .idle := by
    have he : ({ s.received p with freeCount := (s.received p).freeCount + 1 } : State).engine = s.engine :=
      s.received_engine p
    rcases ho with rfl | rfl
    · have hx := State.deliverRequest_broadcast_state _ f p hd hp (by rw [he]; exact hi) (by rw [he]; exact hq)
      rw [State.broadcastCopy_engine _ _ _ (by rw [hx]; decide), hx]
    · have hx := State.broadcastCopy_engine _ p f (by rw [he, hi]; decide)
      exact State.deliverRequest_broadcast_state _ f p hd hp (by rw [hx, he]; exact hi) (by rw [hx, he]; exact hq)
  rw [hu, State.settle_eq]
  rw [hidle]; decide

/-- Settles O24: in the first four clauses both orders of the two deliveries lead to one state. -/
theorem broadcastControlIsCopied : Obligations.BroadcastControlIsCopied := by
  refine ⟨fun s p bytes f h hk hd hp => ?_, fun s p bytes f h hk hd => h.broadcast hk hd, fun s p f => ?_⟩
  · refine ⟨fun hq hl hb => ?_, fun hq hu ht hl hb => ?_, fun hq hi hb => ?_, fun hq hi hu ht hl hb => ?_,
      h.broadcast_idle hk hd hp⟩
    all_goals
      rw [← s.delivering_engine p] at hq
      rw [← s.delivering_pool p] at hb
    · rw [← s.delivering_port p] at hl
      rw [h.broadcast_eq hk hd (State.deliversBoth_dropped_down _ p f hp hq hl hb) (by cases p <;> rfl)]
      cases p <;> rfl
    · rw [← s.delivering_port p] at hu ht
      rw [← s.delivering_queue p] at hl
      rw [h.broadcast_eq hk hd (State.deliversBoth_dropped_busy _ p f hp hq hu ht hl hb) (by cases p <;> rfl)]
      cases p <;> rfl
    · rw [← s.delivering_engine p] at hi
      rw [h.broadcast_eq hk hd (State.deliversBoth_waits_none _ p f hp hq hi hb) (by cases p <;> rfl)]
      cases p <;> rfl
    · rw [← s.delivering_engine p] at hi
      rw [← s.delivering_port p] at hu ht
      rw [← s.delivering_queue p] at hl
      rw [h.broadcast_eq hk hd (State.deliversBoth_waits_busy _ p f hp hq hi hu ht hl hb) (by cases p <;> rfl)]
      cases p <;> rfl
  · have htake : ∀ (r : Request) (rest : List Request), s.resetHeld = false → 2 ≤ f.payload.length →
        s.engine.queue.length < 4 → s.engine.queue ++ [requestOf f p] = r :: rest →
        exec (takeInstr (Op.ofCode r.op)) { s with engine := { s.engine with queue := r :: rest } } =
          .next (s.deliverRequest f p).settle := by
      intro r rest hr hp hq hrest
      rw [s.deliverRequest_admitted f p hp hq, State.queueing, hrest]
      exact exec_takeInstr_head _ hr rfl
    refine ⟨s.deliverRequest_malformed f p, s.deliverRequest_dropped f p, fun n c ops hpay hq hi => ?_,
      fun n c ops r rest hpay hq hr _ hrest => ?_, s.broadcastCopy_none p f, fun hr hi hq hp => ?_,
      s.broadcastCopy_some p f⟩
    · rw [s.deliverRequest_waits f p (by simp [hpay]) hq hi, State.queueing, requestOf_cons f p hpay]
    · exact htake r rest hr (by simp [hpay]) hq (by rwa [requestOf_cons f p hpay])
    · exact htake (requestOf f p) [] hr hp (by simp [hq]) (by simp [hq])

end Sys2Proof.Machine
end

section
/-! SUPPORT. What an event comes to, said once for all commands (R132, R175, log entries 5 and 6), and what the sending of
frames, the notices, the cycles and the beats leave of the Stream Table: all of it. -/

namespace Sys2Proof.Machine

/-! ## Every command, by its effect -/

/-- The effects that the events of the device can have on a state, before the event is settled: those of the line, of
the timers with local time brought to their instant (log entry 5), of the purge walk, and of a take. -/
inductive State.Effect (s : State) : State → Prop
  | nothing : s.Effect s
  | linkUp (p : Port) : s.Effect (s.raiseLink p)
  | linkDown (p : Port) : s.Effect (s.dropLink p)
  | frameStart (p : Port) : s.Effect (s.startFrame p)
  | headerCompletion (p : Port) (bytes : List Byte) : s.Effect (s.completeHeader p bytes)
  | blockBoundary (p : Port) (bytes : List Byte) : s.Effect (s.crossBoundary p bytes)
  | surplusByte (p : Port) (bytes : List Byte) : s.Effect (s.takeSurplus p bytes)
  | endOfFrame (p : Port) (bytes : List Byte) : s.Effect (s.endFrame p bytes)
  | completion (p : Port) (t : Ticks) : s.Effect (({ s with localTime := t } : State).completeTransmission p)
  | scheduledStart (t : Ticks) : s.Effect ({ s with localTime := t } : State).scheduledStart
  | windowChange (p : Port) (t : Ticks) : s.Effect (({ s with localTime := t } : State).changeWindow p)
  | leaseExpiry (t : Ticks) : s.Effect ({ s with localTime := t } : State).expireLease
  | retryExpiry (t : Ticks) : s.Effect ({ s with localTime := t } : State).retryExpired
  | purgeVisit : s.Effect s.visitNext
  | take (o : Option Op) : s.Effect (s.takeRequest o (serveOf o))

/-- An event changes nothing while a cold reset is held, and is its effect, settled, otherwise. -/
theorem runEvent_spec {s t : State} {effect : State → State} (h : runEvent s effect = .next t)
    (he : s.Effect (effect s)) : t = s ∨ ∃ u, s.Effect u ∧ t = u.settle := by
  cases hr : s.resetHeld
  · rw [runEvent_running _ _ hr] at h
    cases h; exact .inr ⟨_, he, rfl⟩
  · rw [runEvent_held _ _ hr] at h
    cases h; exact .inl rfl

/-- A timed event has its effect at its instant, or none. -/
theorem State.Effect.timed {s : State} (due : Option Ticks) {effect : State → State}
    (h : ∀ t, s.Effect (effect { s with localTime := t })) : s.Effect (s.whenReached due effect) := by
  obtain ⟨t, _, _, e⟩ | e := s.whenReached_spec due effect <;> rw [e]
  · exact h _
  · exact .nothing

/-- Every command is a cold reset, held or released, or an event of the device. -/
theorem exec_spec {i : Instr} {s t : State} (h : exec i s = .next t) :
    (∃ station held, t =
      { State.coldReset station with pending := s.pending, freeCount := s.freeCount, resetHeld := held })
      ∨ t = s ∨ ∃ u, s.Effect u ∧ t = u.settle := by
  have htake : ∀ o, exec (takeInstr o) s = .next t → t = s ∨ ∃ u, s.Effect u ∧ t = u.settle := by
    intro o ho
    rw [exec_takeInstr] at ho
    exact runEvent_spec (effect := fun s => s.takeRequest o (serveOf o)) ho (.take o)
  cases i
  case coldReset straps => cases h; exact .inl ⟨stationOf straps, false, rfl⟩
  case resetNAsserted => cases h; exact .inl ⟨s.station, true, rfl⟩
  all_goals right
  case linkUp p => exact runEvent_spec (effect := fun s => s.raiseLink p) h (.linkUp p)
  case linkDown p => exact runEvent_spec (effect := fun s => s.dropLink p) h (.linkDown p)
  case frameStart p => exact runEvent_spec (effect := fun s => s.startFrame p) h (.frameStart p)
  case headerCompletion p bytes =>
    exact runEvent_spec (effect := fun s => s.completeHeader p bytes) h (.headerCompletion p bytes)
  case blockBoundary p bytes =>
    exact runEvent_spec (effect := fun s => s.crossBoundary p bytes) h (.blockBoundary p bytes)
  case surplusByte p bytes => exact runEvent_spec (effect := fun s => s.takeSurplus p bytes) h (.surplusByte p bytes)
  case endOfFrame p bytes => exact runEvent_spec (effect := fun s => s.endFrame p bytes) h (.endOfFrame p bytes)
  case transmissionCompletion p =>
    exact runEvent_spec (effect := fun s => s.whenReached (s.port p).completion fun s => s.completeTransmission p) h
      (.timed _ fun t => .completion p t)
  case scheduledCycleStart =>
    exact runEvent_spec (effect := fun s => s.whenReached (some s.timer.scheduledEnd) State.scheduledStart) h
      (.timed _ .scheduledStart)
  case windowChange p =>
    exact runEvent_spec (effect := fun s => s.whenReached (s.windowChangeAt p) fun s => s.changeWindow p) h
      (.timed _ fun t => .windowChange p t)
  case leaseExpiry =>
    exact runEvent_spec (effect := fun s => s.whenReached (s.session.map Session.expiry) State.expireLease) h
      (.timed _ .leaseExpiry)
  case retryTimerExpiry =>
    exact runEvent_spec (effect := fun s => s.whenReached s.notice.retryTimer State.retryExpired) h
      (.timed _ .retryExpiry)
  case purgeVisit => exact runEvent_spec h .purgeVisit
  case identify => exact htake (some .identify) h
  case unitReset => exact htake (some .unitReset) h
  case sessionOpen => exact htake (some .sessionOpen) h
  case sessionKeep => exact htake (some .sessionKeep) h
  case sessionClose => exact htake (some .sessionClose) h
  case streamWrite => exact htake (some .streamWrite) h
  case streamClear => exact htake (some .streamClear) h
  case streamState => exact htake (some .streamState) h
  case streamRead => exact htake (some .streamRead) h
  case streamFind => exact htake (some .streamFind) h
  case streamPurge => exact htake (some .streamPurge) h
  case unlistedSet => exact htake (some .unlistedSet) h
  case streamReset => exact htake (some .streamReset) h
  case queueSet => exact htake (some .queueSet) h
  case queueRead => exact htake (some .queueRead) h
  case beatSet => exact htake (some .beatSet) h
  case timeRead => exact htake (some .timeRead) h
  case planHeader => exact htake (some .planHeader) h
  case planWindows => exact htake (some .planWindows) h
  case planRead => exact htake (some .planRead) h
  case planRevert => exact htake (some .planRevert) h
  case planCommit => exact htake (some .planCommit) h
  case planCancel => exact htake (some .planCancel) h
  case noticeSet => exact htake (some .noticeSet) h
  case noticeRead => exact htake (some .noticeRead) h
  case counterRead => exact htake (some .counterRead) h
  case unknownRequest => exact htake none h

/-! ## Notices leave the table alone (chapter 9) -/

theorem State.changeDestination_table (s : State) (dest : Option Requester) :
    (s.changeDestination dest).table = s.table := by
  unfold State.changeDestination State.drawTieIndex
  split
  · rfl
  · dsimp only
    split <;> rfl

theorem State.recomputeDestination_table (s : State) : s.recomputeDestination.table = s.table := by
  unfold State.recomputeDestination
  split
  · rfl
  · exact s.changeDestination_table _

theorem State.updateDestination_table (s : State) : s.updateDestination.table = s.table := by
  unfold State.updateDestination
  split
  · rfl
  · exact (State.trySend_onlySending _).table.trans (s.changeDestination_table _)

theorem State.setNotices_table (s : State) (x : NoticeSettings) : (s.setNotices x).table = s.table :=
  (State.trySend_onlySending _).table.trans (State.recomputeDestination_table _)

theorem State.takeAck_table (s : State) (station : Half) (payload : List Byte) :
    (s.takeAck station payload).table = s.table := by
  unfold State.takeAck
  dsimp only
  split
  · rfl
  · exact (State.trySend_onlySending _).table

theorem State.retryNotice_table (s : State) (x : NoticeEntry) (attempts : Nat) :
    (s.retryNotice x attempts).table = s.table := by
  unfold State.retryNotice
  dsimp only
  split
  · rfl
  · split
    · rfl
    · split
      · rfl
      · rename_i t ht
        exact (State.offerNotice_onlySending _ _ _).table.trans (State.takeBlocks_onlySending ht).table

theorem State.retryExpired_table (s : State) : s.retryExpired.table = s.table := by
  unfold State.retryExpired
  dsimp only
  split
  · exact (State.trySend_onlySending _).table
  · split
    · rfl
    · split
      · exact State.retryNotice_table _ _ _
      · exact (State.trySend_onlySending _).table

theorem State.expireLease_table (s : State) : s.expireLease.table = s.table := by
  unfold State.expireLease
  split
  · rfl
  · exact ((State.trySend_onlySending _).table.trans (State.listEvent_onlySending _ _).table).trans
      (State.recomputeDestination_table _)

/-! ## Cycles and beats leave the table alone (chapter 5) -/

theorem State.ageQueue_table (s : State) (p : Port) (q : QueueNo) : (s.ageQueue p q).table = s.table := by
  unfold State.ageQueue
  dsimp only
  split
  · rfl
  · rw [State.reportDepartures_eq]; simp

theorem runWork_table (w : Work) (s : State) : (runWork w s).table = s.table := by
  cases w with
  | age p q => exact s.ageQueue_table p q
  | select p => exact (s.trySelect_onlySending p).table
  | raise e => exact (s.raise_onlySending e).table

theorem inAnyOrder_table (l : List Work) (s : State) : (inAnyOrder runWork l s).table = s.table :=
  inAnyOrder_preserves (P := fun t => t.table = s.table) (fun _ h => h) (fun w t h => (runWork_table w t).trans h) l s rfl

theorem State.scheduledStart_table (s : State) : s.scheduledStart.table = s.table := inAnyOrder_table _ _

theorem State.lockingBeat_table (s : State) (t : Ticks) : (s.lockingBeat t).table = s.table := by
  unfold State.lockingBeat
  split
  · exact (State.raise_onlySending _ _).table
  · exact inAnyOrder_table _ _

theorem State.reAnchor_table (s : State) (t : Ticks) : (s.reAnchor t).table = s.table :=
  (State.trySelect_onlySending _ _).table.trans (State.trySelect_onlySending _ _).table

theorem State.beatFault_table (s : State) : s.beatFault.table = s.table := by
  unfold State.beatFault
  dsimp only
  split
  · exact (State.raise_onlySending _ _).table
  · rfl

theorem State.firstBeat_table (s : State) (t : Ticks) : (s.firstBeat t).table = s.table := by
  unfold State.firstBeat
  dsimp only
  split
  · split
    · exact s.reAnchor_table t
    · exact s.beatFault_table
  · split
    · exact inAnyOrder_table _ _
    · exact s.beatFault_table

theorem State.reportBeat_table (s : State) (t : Ticks) : (s.reportBeat t).table = s.table := by
  unfold State.reportBeat
  split
  · rfl
  · exact State.lockingBeat_table _ t
  · exact State.lockingBeat_table _ t
  · dsimp only
    split
    · rfl
    · exact State.firstBeat_table _ t

/-! ## Reception, transmission and links leave the table alone (chapter 1) -/

theorem State.startFrame_table (s : State) (p : Port) : (s.startFrame p).table = s.table := by
  unfold State.startFrame
  split
  · split
    · rename_i t ht
      exact (State.setReceiver_table _ _ _).trans (State.takeBlocks_onlySending ht).table
    · simp
  · rfl

theorem State.abandon_table (s : State) (p : Port) (bytes : List Byte) (f : PortCounters → PortCounters) :
    (s.abandon p bytes f).table = s.table := by
  simp [State.abandon]

theorem State.completeHeader_table (s : State) (p : Port) (bytes : List Byte) :
    (s.completeHeader p bytes).table = s.table := by
  unfold State.completeHeader
  split
  · split_ifs <;> simp [State.abandon_table]
  · rfl

theorem State.crossBoundary_table (s : State) (p : Port) (bytes : List Byte) :
    (s.crossBoundary p bytes).table = s.table := by
  unfold State.crossBoundary
  split
  · split_ifs <;> simp [State.abandon_table]
  · rfl

theorem State.takeSurplus_table (s : State) (p : Port) (bytes : List Byte) :
    (s.takeSurplus p bytes).table = s.table := by
  unfold State.takeSurplus
  split
  · split_ifs <;> simp [State.abandon_table]
  · rfl

theorem State.completeTransmission_table (s : State) (p : Port) : (s.completeTransmission p).table = s.table := by
  unfold State.completeTransmission
  split
  · rfl
  · rw [(State.trySelect_onlySending _ p).table]; simp

theorem State.changeWindow_table (s : State) (p : Port) : (s.changeWindow p).table = s.table :=
  (State.trySelect_onlySending _ p).table.trans (State.modPort_table _ _ _)

theorem State.raiseLink_table (s : State) (p : Port) : (s.raiseLink p).table = s.table := by
  have hsel : ∀ f, ((s.modPort p f).trySelect p).table = s.table := fun f =>
    (State.trySelect_onlySending _ p).table.trans (State.modPort_table _ _ _)
  unfold State.raiseLink State.noticeLinkUp
  split
  · split
    · exact (State.trySend_onlySending _).table.trans (hsel _)
    · exact hsel _
  · rfl

theorem State.dropLink_table (s : State) (p : Port) : (s.dropLink p).table = s.table := by
  cases hl : (s.port p).link with
  | down => rw [s.dropLink_down p hl]
  | up => rw [s.dropLink_eq p hl]; exact State.modPort_table _ _ _

/-! ## Replies and leases leave the table alone (chapters 7 and 8) -/

theorem State.answer_table (s : State) (r : Request) (a : Answer) : (s.answer r a).table = s.table :=
  (State.sendReply_onlySending _ _ _).table

theorem State.endTake_table (s : State) : s.endTake.table = s.table := by
  unfold State.endTake
  split <;> rfl

theorem State.offerRequest_table (s : State) (f : Frame) (arrival : Port) :
    (s.offerRequest f arrival).table = s.table := by
  unfold State.offerRequest
  split
  · rfl
  · split <;> rfl

theorem State.inTransit_table (s : State) (p : Port) (f : Frame) : (s.inTransit p f).table = s.table :=
  (State.offerFrame_onlySending _ _ _ _ _).table

theorem State.broadcastCopy_table (s : State) (p : Port) (f : Frame) : (s.broadcastCopy p f).table = s.table := by
  unfold State.broadcastCopy
  split
  · exact State.countPort_table _ _ _
  · rename_i t ht
    exact (t.inTransit_table p f).trans (State.takeBlocks_onlySending ht).table

/-- The requests whose step 6 can change the table (R27, R31, R32, R60, R166). -/
def Op.writesTable (o : Op) : Prop := o ∈ [Op.streamWrite, .streamClear, .streamState, .streamReset, .counterRead]

/-- Step 6 of every other request leaves the table as it is. -/
theorem Op.serve_table (o : Op) (r : Request) (s : State) (h : ¬ o.writesTable) : (o.serve r s).1.table = s.table := by
  cases o <;> simp [Op.writesTable] at h
  case sessionOpen =>
    simp only [Op.serve, serveSessionOpen]
    split
    · rfl
    · split
      · split <;> rfl
      · exact State.updateDestination_table _
  case sessionClose => exact State.updateDestination_table _
  case noticeSet =>
    simp only [Op.serve, serveNoticeSet]
    split
    · exact State.setNotices_table _ _
    · rfl
  case unlistedSet =>
    simp only [Op.serve, serveUnlistedSet]
    split
    · exact State.modPort_table _ _ _
    · rfl
  case queueSet =>
    simp only [Op.serve, serveQueueSet]
    split
    · split
      · exact State.modQueue_table _ _ _ _
      · rfl
    · rfl
  case sessionKeep => simp only [Op.serve, serveSessionKeep]; split <;> rfl
  case streamFind =>
    simp only [Op.serve, serveStreamFind]
    repeat' split
    all_goals rfl
  case streamPurge => simp only [Op.serve, serveStreamPurge]; split <;> rfl
  case queueRead => simp only [Op.serve, serveQueueRead]; split <;> rfl
  case beatSet =>
    simp only [Op.serve, serveBeatSet]
    repeat' split
    all_goals rfl
  case planHeader =>
    simp only [Op.serve, servePlanHeader]
    repeat' split
    all_goals rfl
  case planWindows =>
    simp only [Op.serve, servePlanWindows]
    repeat' split
    all_goals rfl
  case planRead => simp only [Op.serve, servePlanRead]; split <;> rfl
  case planRevert => simp only [Op.serve, servePlanRevert]; split <;> rfl
  case planCommit =>
    simp only [Op.serve, servePlanCommit]
    repeat' split
    all_goals rfl
  case planCancel => simp only [Op.serve, servePlanCancel]; split <;> rfl
  all_goals rfl

end Sys2Proof.Machine
end

section
/-! SUPPORT. What a step can do to the Stream Table (chapter 2): every write of an entry is of one of seven kinds, and a step
makes writes of these kinds or frees the whole table. -/

namespace Sys2Proof.Machine

/-- The Stream Table (section 2.1): 256 entries, absent when FREE. -/
abbrev StreamTable := Vector (Option StreamEntry) 256

/-- What an event can put at an index of the table: FREE (R31, R35); the entry there with a frame judged (R39), with its
state set (R32), with its check state renewed, its counters kept or cleared (R60), or with its counters cleared (R166);
and an entry for a record in range whose key no other index has, fresh or carrying the old entry's state (R27, R29). -/
inductive Rewrites (T : StreamTable) (i : StreamIndex) : Option StreamEntry → Prop
  | freed : Rewrites T i none
  | judged {e : StreamEntry} (h : T[i] = some e) (seq : Half) (bytes : Nat) (arrival : Ticks) :
      Rewrites T i (some (judgeFrame e seq bytes arrival).entry)
  | moved {e : StreamEntry} (h : T[i] = some e) (w : WrittenState) (now : Ticks) : Rewrites T i (some (e.withState w now))
  | renewed {e : StreamEntry} (h : T[i] = some e) (now : Ticks) (c : StreamCounters) :
      Rewrites T i (some { e.renew now with counters := c })
  | cleared {e : StreamEntry} (h : T[i] = some e) (c : StreamCounters) : Rewrites T i (some { e with counters := c })
  | fresh {bs : List Byte} {r : StreamRecord} (hr : recordOf bs = some r)
      (hk : ∀ j : StreamIndex, ∀ e : StreamEntry, j ≠ i → T[j] = some e → e.record.key ≠ r.key) (now : Ticks) :
      Rewrites T i (some (freshEntry r now))
  | carried {bs : List Byte} {r : StreamRecord} {old : StreamEntry} (h : T[i] = some old) (hr : recordOf bs = some r)
      (hk : ∀ j : StreamIndex, ∀ e : StreamEntry, j ≠ i → T[j] = some e → e.record.key ≠ r.key) (now : Ticks) :
      Rewrites T i (some (carriedEntry old r now))

/-- A law of the table that an empty table meets and every rewriting of one entry keeps. -/
structure TableLaw (P : StreamTable → Prop) : Prop where
  empty : P (Vector.replicate 256 none)
  rewrite : ∀ {T : StreamTable} {i : StreamIndex} {x : Option StreamEntry}, P T → Rewrites T i x → P (T.set i x)

/-! ## Lookups (R23, R27) -/

theorem State.hasKey_iff (s : State) (k : StreamKey) (i : StreamIndex) :
    s.hasKey k i = true ↔ ∃ e, s.entry i = some e ∧ e.record.key = k := by
  unfold State.hasKey
  cases s.entry i <;> simp

theorem State.keyElsewhere_iff (s : State) (i : StreamIndex) (k : StreamKey) :
    s.keyElsewhere i k = true ↔ ∃ j e, j ≠ i ∧ s.entry j = some e ∧ e.record.key = k := by
  simp [State.keyElsewhere, State.hasKey_iff]

theorem State.keyElsewhere_eq_false (s : State) (i : StreamIndex) (k : StreamKey) :
    s.keyElsewhere i k = false ↔ ∀ j e, j ≠ i → s.entry j = some e → e.record.key ≠ k := by
  rw [← Bool.not_eq_true, State.keyElsewhere_iff]
  push Not
  rfl

/-! ## Every operation keeps a law of the table -/

namespace TableLaw

variable {P : StreamTable → Prop} (law : TableLaw P)
include law

/-- One rewriting, said of states. -/
theorem setEntry {s : State} (h : P s.table) {i : StreamIndex} {x : Option StreamEntry} (hx : Rewrites s.table i x) :
    P (s.setEntry i x).table :=
  law.rewrite h hx

theorem serveStreamWrite {s : State} (h : P s.table) (r : Request) : P (serveStreamWrite r s).1.table := by
  unfold Machine.serveStreamWrite
  dsimp only
  split
  · exact h
  · rename_i rec hrec
    split
    · exact h
    · rename_i hk
      have hkey := (s.keyElsewhere_eq_false _ _).1 (Bool.eq_false_iff.2 hk)
      split
      · rename_i old hold
        refine law.setEntry h (.carried ?_ hrec hkey _)
        unfold keptEntry at hold
        split at hold
        · rename_i e he
          split at hold
          · cases hold; exact he
          · cases hold
        · cases hold
      · exact law.setEntry h (.fresh hrec hkey _)

theorem serveStreamState {s : State} (h : P s.table) (r : Request) : P (serveStreamState r s).1.table := by
  unfold Machine.serveStreamState
  dsimp only
  split
  · exact h
  · split
    · exact h
    · rename_i e he
      exact law.setEntry h (.moved he _ _)

theorem serveStreamReset {s : State} (h : P s.table) (r : Request) : P (serveStreamReset r s).1.table := by
  unfold Machine.serveStreamReset
  dsimp only
  split
  · exact h
  · rename_i e he
    split
    · exact law.setEntry h (.renewed he _ _)
    · exact law.setEntry h (.renewed he s.localTime e.counters)

theorem clearSet {s : State} (h : P s.table) (c : CounterSet) : P (s.clearSet c).table := by
  cases c with
  | stream i =>
    show P (s.setEntry i _).table
    cases he : s.entry i with
    | none => exact law.setEntry h .freed
    | some e => exact law.setEntry h (.cleared he _)
  | port p => rw [State.clearSet, State.countPort_table]; exact h
  | queue p q => rw [State.clearSet, State.countQueue_table]; exact h
  | gate p => rw [State.clearSet, State.modPort_table]; exact h
  | beat => exact h
  | management => exact h
  | notice => exact h

theorem serveCounterRead {s : State} (h : P s.table) (r : Request) : P (serveCounterRead r s).1.table := by
  unfold Machine.serveCounterRead
  split
  · exact h
  · split
    · exact h
    · dsimp only
      split
      · exact law.clearSet h _
      · exact h

theorem serve {s : State} (h : P s.table) (o : Op) (r : Request) : P (o.serve r s).1.table := by
  by_cases ho : o.writesTable
  · simp only [Op.writesTable, List.mem_cons, List.not_mem_nil, or_false] at ho
    rcases ho with rfl | rfl | rfl | rfl | rfl
    · exact law.serveStreamWrite h r
    · exact law.setEntry h .freed
    · exact law.serveStreamState h r
    · exact law.serveStreamReset h r
    · exact law.serveCounterRead h r
  · rw [o.serve_table r s ho]; exact h

theorem serveOf {s : State} (h : P s.table) (o : Option Op) (r : Request) : P (serveOf o r s).1.table := by
  cases o with
  | none => exact h
  | some o => exact law.serve h o r

theorem handle {s : State} (h : P s.table) (o o' : Option Op) (r : Request) :
    P (s.handle o (Machine.serveOf o') r).table := by
  have hr : P (s.renewLease r.requester).table := by rwa [State.renewLease_table]
  unfold State.handle
  split
  · rwa [State.answer_table]
  · rw [(State.sendReply_onlySending _ _ _).table]; exact hr
  · have hs := law.serveOf hr o' r
    split <;> rename_i t he <;> rw [he] at hs
    · rwa [State.answer_table]
    · exact hs

theorem takeRequest {s : State} (h : P s.table) (o : Option Op) : P (s.takeRequest o (Machine.serveOf o)).table := by
  unfold State.takeRequest
  split
  · rename_i r rest _ _
    split
    · rw [State.endTake_table]
      exact law.handle (s := s.takeHead r rest) h o o r
    · exact h
  · exact h

theorem deliverRequest {s : State} (h : P s.table) (f : Frame) (arrival : Port) :
    P (s.deliverRequest f arrival).table := by
  have ho : P (s.offerRequest f arrival).table := by rwa [State.offerRequest_table]
  unfold State.deliverRequest State.takeNext
  split
  · split
    · exact ho
    · exact law.takeRequest ho _
  · exact ho

theorem visitNext {s : State} (h : P s.table) : P s.visitNext.table := by
  unfold State.visitNext
  split
  · rename_i r source i cleared takenAt _
    have hc : P (if s.hasSource source i then s.setEntry i none else s).table := by
      split
      · exact law.setEntry h .freed
      · exact h
    dsimp only
    split
    · exact hc
    · rw [State.endTake_table, State.answer_table]; exact hc
  · exact h

/-! ## DATA frames (R23, R24) -/

theorem hit {s : State} (h : P s.table) (p : Port) (f : Frame) (arrival : Ticks) (i : StreamIndex) {e : StreamEntry}
    (he : s.entry i = some e) : P (s.hit p f arrival i e).table := by
  have hcarry : ∀ (u : State) (r : StreamRecord) (x : Fate), (u.carryOut p f r x).table = u.table := by
    intro u r x
    cases x with
    | passed => exact (u.offerFrame_onlySending _ _ _ _).table
    | demoted q => exact (u.offerFrame_onlySending _ _ _ _).table
    | discarded _ => rfl
  have hset := law.setEntry h (.judged he f.seq f.size arrival)
  unfold State.hit
  dsimp only
  split
  · refine eitherOrder_preserves (P := fun t => P t.table) ?_ ?_
    · rw [(State.raise_onlySending _ _).table, hcarry]; exact hset
    · rw [hcarry, (State.raise_onlySending _ _).table]; exact hset
  · rw [hcarry]; exact hset

omit law in
theorem miss {s : State} (h : P s.table) (p : Port) (f : Frame) : P (s.miss p f).table := by
  have hpolicy : ∀ u : State, (u.unlisted p f).table = u.table := by
    intro u
    unfold State.unlisted
    split
    · rw [(State.offerFrame_onlySending _ _ _ _ _).table, State.countPort_table]
    · rw [State.countPort_table]; rfl
  refine eitherOrder_preserves (P := fun t => P t.table) ?_ ?_
  · rw [(State.raise_onlySending _ _).table, hpolicy]; exact h
  · rw [hpolicy, (State.raise_onlySending _ _).table]; exact h

theorem classify {s : State} (h : P s.table) (p : Port) (f : Frame) (arrival : Ticks) :
    P (s.classify p f arrival).table := by
  unfold State.classify
  split
  · exact miss h p f
  · split
    · exact miss h p f
    · rename_i he
      exact law.hit h p f arrival _ he

/-! ## Routing and the end of a frame (R10 to R17) -/

theorem route {s : State} (h : P s.table) (p : Port) (f : Frame) (arrival : Ticks) : P (s.route p f arrival).table := by
  have htransit : P (s.inTransit p f).table := by rwa [State.inTransit_table]
  have hmis : P (s.misaddress p f).table := by rw [State.misaddress, State.countPort_table]; exact h
  unfold State.route
  split
  case h_1 =>
    split
    · exact hmis
    · exact law.classify h p f arrival
  case h_2 =>
    unfold State.routeBeat
    split
    · refine eitherOrder_preserves (P := fun t => P t.table) ?_ ?_
      · rw [State.reportBeat_table, State.inTransit_table]; exact h
      · rw [State.inTransit_table, State.reportBeat_table]; exact h
    · exact htransit
  case h_3 =>
    unfold State.routeControl
    split
    · refine eitherOrder_preserves (P := fun t => P t.table) ?_ ?_
      · rw [State.broadcastCopy_table]
        exact law.deliverRequest (s := s.draw.2) h f p
      · refine law.deliverRequest ?_ f p
        rw [State.broadcastCopy_table]; exact h
    · split
      · exact law.deliverRequest h f p
      · exact htransit
  case h_6 =>
    unfold State.routeAck
    split
    · rw [State.takeAck_table]; exact h
    · exact htransit
  all_goals
    split
    · exact hmis
    · exact htransit

theorem endFrame {s : State} (h : P s.table) (p : Port) (bytes : List Byte) : P (s.endFrame p bytes).table := by
  have hidle : P (s.setReceiver p .idle).table := by rwa [State.setReceiver_table]
  unfold State.endFrame
  split
  · exact h
  · exact hidle
  · split
    · unfold State.endReception
      dsimp only
      split
      · rw [State.countPort_table]; exact hidle
      · rw [State.countPort_table]; exact hidle
      · refine law.route ?_ p _ _
        rwa [State.countPort_table]
    · exact h

/-! ## Every event and every step -/

theorem effect {s u : State} (h : P s.table) (hu : s.Effect u) : P u.table := by
  cases hu with
  | nothing => exact h
  | linkUp p => rwa [State.raiseLink_table]
  | linkDown p => rwa [State.dropLink_table]
  | frameStart p => rwa [State.startFrame_table]
  | headerCompletion p bytes => rwa [State.completeHeader_table]
  | blockBoundary p bytes => rwa [State.crossBoundary_table]
  | surplusByte p bytes => rwa [State.takeSurplus_table]
  | endOfFrame p bytes => exact law.endFrame h p bytes
  | completion p t => rwa [State.completeTransmission_table]
  | scheduledStart t => rwa [State.scheduledStart_table]
  | windowChange p t => rwa [State.changeWindow_table]
  | leaseExpiry t => rwa [State.expireLease_table]
  | retryExpiry t => rwa [State.retryExpired_table]
  | purgeVisit => exact law.visitNext h
  | take o => exact law.takeRequest h o

/-- A unit reset empties the table; without one an event ends with its effect (R132, R133). -/
theorem settle {s : State} (h : P s.table) : P s.settle.table := by
  unfold State.settle
  split
  · exact law.empty
  · exact h

theorem exec {i : Instr} {s t : State} (h : P s.table) (ht : exec i s = .next t) : P t.table := by
  obtain ⟨station, held, rfl⟩ | rfl | ⟨u, hu, rfl⟩ := exec_spec ht
  · exact law.empty
  · exact h
  · exact law.settle (law.effect h hu)

/-- A law of the table is kept by every step. -/
theorem step {s t : State} (h : P s.table) (ht : step s = .next t) : P t.table := by
  obtain ⟨i, rest, _, e⟩ | ⟨_, e⟩ := step_spec s <;> rw [e] at ht
  · exact law.exec (s := { s with pending := rest }) h ht
  · obtain e | e | e | ⟨i, e | e⟩ := idle_spec s <;> rw [e] at ht
    · cases ht; exact h
    · cases ht; exact h
    · cases ht; exact h
    · exact law.exec h ht
    · exact law.exec (s := s.draw.2) h ht

end TableLaw
end Sys2Proof.Machine
end

section
/-! SUPPORT. Operand bytes and the stream record in both directions (R21, R172, R173): for each reader of bytes, what it
reads and what it refuses. -/

namespace Sys2Proof.Machine

/-! ## Fields -/

theorem natOfBytes_lt (bs : List Byte) : natOfBytes bs < 256 ^ bs.length := by
  induction bs with
  | nil => simp [natOfBytes]
  | cons b bs ih =>
    have hb : b.toNat * 256 ^ bs.length ≤ 255 * 256 ^ bs.length := Nat.mul_le_mul_right _ (by omega)
    rw [natOfBytes_cons, List.length_cons, Nat.pow_succ]
    omega

theorem fieldAt_lt (bs : List Byte) (offset n : Nat) : fieldAt bs offset n < 256 ^ n :=
  (natOfBytes_lt _).trans_le (Nat.pow_le_pow_right (by decide) (List.length_take_le _ _))

/-- A two-byte field is a number below 65,536. -/
theorem fieldAt_two_lt (bs : List Byte) (offset : Nat) : fieldAt bs offset 2 < 65536 := fieldAt_lt bs offset 2

theorem byteAt_drop (bs : List Byte) (n k : Nat) : byteAt (bs.drop n) k = byteAt bs (n + k) := by
  simp [byteAt]

theorem fieldAt_drop (bs : List Byte) (n k m : Nat) : fieldAt (bs.drop n) k m = fieldAt bs (n + k) m := by
  simp [fieldAt]

/-- Two bytes are equal where their numbers are. -/
theorem byte_eq_iff (a b : Byte) : a = b ↔ a.toNat = b.toNat := BitVec.toNat_inj.symm

/-! ## Tests on values -/

theorem checked_eq_some {α : Type} {ok : Bool} {x y : α} : checked ok x = some y ↔ ok = true ∧ x = y := by
  cases ok <;> simp [checked]

theorem checked_eq_none {α : Type} {ok : Bool} {x : α} : checked ok x = none ↔ ok = false := by
  cases ok <;> simp [checked]

/-- A part is refused where it is present and out of range. -/
theorem partOf_eq_none {α : Type} {present : Bool} {x : Option α} :
    partOf present x = none ↔ present = true ∧ x = none := by
  cases present <;> simp [partOf]

/-- A part is read where it is absent, or present and in range. -/
theorem partOf_eq_some {α : Type} {present : Bool} {x : Option α} {y : Option α} :
    partOf present x = some y ↔ present = y.isSome ∧ ∀ v, y = some v → x = some v := by
  cases present <;> cases y <;> simp [partOf]

/-! ## Enumerations (chapter 11) -/

theorem portOf_eq_some {b : Byte} {p : Port} : portOf b = some p ↔ b = portByte p := by
  unfold portOf
  cases p <;> split_ifs <;> simp_all [portByte]

theorem portOf_eq_none {b : Byte} : portOf b = none ↔ 1 < b.toNat := by
  unfold portOf
  simp only [byte_eq_iff]
  split_ifs <;> simp_all
  omega

theorem dataQueueOf_eq_some {b : Byte} {q : DataQueueNo} : dataQueueOf b = some q ↔ b.toNat = q.val := by
  unfold dataQueueOf
  split
  · simp [Fin.ext_iff]
  · simp; omega

theorem dataQueueOf_eq_none {b : Byte} : dataQueueOf b = none ↔ 2 < b.toNat := by
  unfold dataQueueOf
  split <;> simp <;> omega

theorem queueOf_eq_some {b : Byte} {q : QueueNo} : queueOf b = some q ↔ b.toNat = q.val := by
  unfold queueOf
  split
  · simp [Fin.ext_iff]
  · simp; omega

theorem queueOf_eq_none {b : Byte} : queueOf b = none ↔ 3 < b.toNat := by
  unfold queueOf
  split <;> simp <;> omega

theorem writtenStateOf_eq_some {b : Byte} {w : WrittenState} : writtenStateOf b = some w ↔ b = w.code := by
  unfold writtenStateOf
  cases w <;> split_ifs <;> simp_all [WrittenState.code]

theorem writtenStateOf_eq_none {b : Byte} : writtenStateOf b = none ↔ b ≠ 0x01 ∧ b ≠ 0x02 := by
  unfold writtenStateOf
  split_ifs <;> simp_all

theorem earlyActionOf_eq_some {b : Byte} {a : EarlyAction} : earlyActionOf b = some a ↔ b = a.code := by
  unfold earlyActionOf
  cases a <;> split_ifs <;> simp_all [EarlyAction.code]

theorem earlyActionOf_eq_none {b : Byte} : earlyActionOf b = none ↔ 1 < b.toNat := by
  unfold earlyActionOf
  simp only [byte_eq_iff]
  split_ifs <;> simp_all
  omega

/-- The bytes that name a meter action: DISCARD's queue byte is not read (R21, R172). -/
theorem meterActionOf_eq_some {b q : Byte} {a : MeterAction} :
    meterActionOf b q = some a ↔
      match a with
      | .discard => b = 0
      | .demote d => b = 1 ∧ q.toNat = d.val := by
  unfold meterActionOf
  cases a <;> split_ifs <;> simp_all [dataQueueOf_eq_some]

theorem meterActionOf_eq_none {b q : Byte} : meterActionOf b q = none ↔ 1 < b.toNat ∨ b = 1 ∧ 2 < q.toNat := by
  unfold meterActionOf
  simp only [byte_eq_iff]
  split_ifs <;> simp_all [dataQueueOf_eq_none]
  omega

/-! ## Keys (R21, R34) -/

theorem isStation_iff {n : Nat} : isStation n = true ↔ 1 ≤ n ∧ n ≤ 0xFFFE := by simp [isStation]

theorem isStation_eq_false {n : Nat} : isStation n = false ↔ n = 0 ∨ 0xFFFE < n := by
  rw [← Bool.not_eq_true, isStation_iff]; omega

theorem keyOf_eq_some {b : Byte} {source tag : Nat} {k : StreamKey} :
    keyOf b source tag = some k ↔
      b = portByte k.port ∧ source = k.source.toNat ∧ tag = k.tag.toNat ∧ 1 ≤ source ∧ source ≤ 0xFFFE ∧ tag ≤ 4095 := by
  obtain ⟨p, src, tg⟩ := k
  have hn : ∀ (n : Nat) (x : Half), n < 65536 → (BitVec.ofNat 16 n = x ↔ n = x.toNat) := by
    intro n x hlt
    rw [← BitVec.toNat_inj, BitVec.toNat_ofNat, Nat.mod_eq_of_lt hlt]
  unfold keyOf
  cases hp : portOf b with
  | none =>
    have hb : b ≠ portByte p := fun h => by rw [portOf_eq_some.2 h] at hp; cases hp
    simp [hb]
  | some q =>
    have hb : q = p ↔ b = portByte p := by rw [← portOf_eq_some, hp, Option.some_inj]
    simp only [checked_eq_some, Bool.and_eq_true, isStation_iff, decide_eq_true_eq, Config.maxTag, StreamKey.mk.injEq, hb]
    constructor
    · rintro ⟨⟨⟨h1, h2⟩, h3⟩, h4, h5, h6⟩
      exact ⟨h4, (hn _ _ (by omega)).1 h5, (hn _ _ (by omega)).1 h6, h1, h2, h3⟩
    · rintro ⟨h1, h2, h3, h4, h5, h6⟩
      exact ⟨⟨⟨h4, h5⟩, h6⟩, h1, (hn _ _ (by omega)).2 h2, (hn _ _ (by omega)).2 h3⟩

theorem keyOf_eq_none {b : Byte} {source tag : Nat} (h : source < 65536) :
    keyOf b source tag = none ↔ 1 < b.toNat ∨ source = 0 ∨ source = 0xFFFF ∨ 4095 < tag := by
  unfold keyOf
  cases hp : portOf b with
  | none => simpa using .inl (portOf_eq_none.1 hp)
  | some p =>
    have hb : ¬ 1 < b.toNat := fun h => by rw [portOf_eq_none.2 h] at hp; cases hp
    simp only [checked_eq_none, Bool.and_eq_false_iff, isStation_eq_false, decide_eq_false_iff_not, Config.maxTag]
    omega

/-! ## The four optional parts (R21) -/

theorem sequencePartOf_eq_some {bs : List Byte} {w : Nat} :
    sequencePartOf bs = some w ↔ (byteAt bs 0).toNat = w ∧ 1 ≤ w ∧ w ≤ 32 := by
  simp only [sequencePartOf, checked_eq_some, Bool.and_eq_true, decide_eq_true_eq]
  constructor
  · rintro ⟨h, rfl⟩; exact ⟨rfl, h⟩
  · rintro ⟨rfl, h⟩; exact ⟨h, rfl⟩

theorem sequencePartOf_eq_none {bs : List Byte} :
    sequencePartOf bs = none ↔ byteAt bs 0 = 0 ∨ 32 < (byteAt bs 0).toNat := by
  simp [sequencePartOf, checked_eq_none, byte_eq_iff]
  omega

theorem cadencePartOf_eq_some {bs : List Byte} {c : CadencePart} :
    cadencePartOf bs = some c ↔
      fieldAt bs 0 4 = c.interval ∧ fieldAt bs 4 4 = c.tolerance ∧ byteAt bs 8 = c.early.code
        ∧ 1000 ≤ c.interval ∧ c.interval ≤ 10000000 ∧ c.tolerance ≤ c.interval / 2 := by
  obtain ⟨i, t, a⟩ := c
  simp only [cadencePartOf]
  split
  · rename_i h
    simp only [Bool.and_eq_true, decide_eq_true_eq] at h
    simp only [Option.map_eq_some_iff, earlyActionOf_eq_some, CadencePart.mk.injEq]
    constructor
    · rintro ⟨_, hb, rfl, rfl, rfl⟩; exact ⟨rfl, rfl, hb, h.1.1, h.1.2, h.2⟩
    · rintro ⟨rfl, rfl, hb, _⟩; exact ⟨a, hb, rfl, rfl, rfl⟩
  · rename_i h
    simp only [Bool.and_eq_true, decide_eq_true_eq] at h
    simp only [reduceCtorEq, false_iff]
    rintro ⟨rfl, rfl, _, h1, h2, h3⟩
    exact h ⟨⟨h1, h2⟩, h3⟩

theorem cadencePartOf_eq_none {bs : List Byte} :
    cadencePartOf bs = none ↔
      fieldAt bs 0 4 < 1000 ∨ 10000000 < fieldAt bs 0 4 ∨ fieldAt bs 0 4 / 2 < fieldAt bs 4 4
        ∨ 1 < (byteAt bs 8).toNat := by
  simp only [cadencePartOf]
  split
  · rename_i h
    simp only [Bool.and_eq_true, decide_eq_true_eq] at h
    simp only [Option.map_eq_none_iff, earlyActionOf_eq_none]
    omega
  · rename_i h
    simp only [Bool.and_eq_true, decide_eq_true_eq] at h
    simp only [true_iff]
    omega

theorem meterPartOf_eq_some {bs : List Byte} {m : MeterPart} :
    meterPartOf bs = some m ↔
      (byteAt bs 0).toNat = m.fill ∧ fieldAt bs 1 2 = m.depth ∧ meterActionOf (byteAt bs 3) (byteAt bs 4) = some m.action
        ∧ 1 ≤ m.fill ∧ m.fill ≤ 128 ∧ 16 ≤ m.depth := by
  obtain ⟨r, b, a⟩ := m
  simp only [meterPartOf]
  split
  · rename_i h
    simp only [Bool.and_eq_true, decide_eq_true_eq] at h
    simp only [Option.map_eq_some_iff, MeterPart.mk.injEq]
    constructor
    · rintro ⟨_, hb, rfl, rfl, rfl⟩; exact ⟨rfl, rfl, hb, h.1.1, h.1.2, h.2⟩
    · rintro ⟨rfl, rfl, hb, _⟩; exact ⟨a, hb, rfl, rfl, rfl⟩
  · rename_i h
    simp only [Bool.and_eq_true, decide_eq_true_eq] at h
    simp only [reduceCtorEq, false_iff]
    rintro ⟨rfl, rfl, _, h1, h2, h3⟩
    exact h ⟨⟨h1, h2⟩, h3⟩

theorem meterPartOf_eq_none {bs : List Byte} :
    meterPartOf bs = none ↔
      byteAt bs 0 = 0 ∨ 128 < (byteAt bs 0).toNat ∨ fieldAt bs 1 2 < 16 ∨ 1 < (byteAt bs 3).toNat
        ∨ byteAt bs 3 = 1 ∧ 2 < (byteAt bs 4).toNat := by
  have h0 : byteAt bs 0 = 0 ↔ (byteAt bs 0).toNat = 0 := byte_eq_iff _ _
  have h3 : byteAt bs 3 = 1 ↔ (byteAt bs 3).toNat = 1 := byte_eq_iff _ _
  simp only [meterPartOf]
  split
  · rename_i h
    simp only [Bool.and_eq_true, decide_eq_true_eq] at h
    simp only [Option.map_eq_none_iff, meterActionOf_eq_none, h0, h3]
    omega
  · rename_i h
    simp only [Bool.and_eq_true, decide_eq_true_eq] at h
    simp only [true_iff, h0, h3]
    omega

theorem tripPartOf_eq_some {bs : List Byte} {l : Nat} :
    tripPartOf bs = some l ↔ (byteAt bs 0).toNat = l ∧ 1 ≤ l := by
  simp only [tripPartOf, checked_eq_some, decide_eq_true_eq]
  constructor
  · rintro ⟨h, rfl⟩; exact ⟨rfl, h⟩
  · rintro ⟨rfl, h⟩; exact ⟨h, rfl⟩

theorem tripPartOf_eq_none {bs : List Byte} : tripPartOf bs = none ↔ byteAt bs 0 = 0 := by
  simp [tripPartOf, checked_eq_none, byte_eq_iff]

/-! ## The record (section 11.2) -/

section
variable {bs : List Byte} {c m l : Nat} (hc : c = 8 + (if (byteAt bs 7).getLsbD 0 then 1 else 0))
  (hm : m = c + (if (byteAt bs 7).getLsbD 1 then 9 else 0)) (hl : l = m + (if (byteAt bs 7).getLsbD 2 then 5 else 0))
include hc hm hl

/-- Bytes are read as a record where each of its parts is read; `c`, `m` and `l` are where the cadence, the meter and the
trip part stand. -/
theorem recordOf_eq_some {x : StreamRecord} :
    recordOf bs = some x ↔
      writtenStateOf (byteAt bs 0) = some x.state ∧ keyOf (byteAt bs 1) (fieldAt bs 2 2) (fieldAt bs 4 2) = some x.key
        ∧ dataQueueOf (byteAt bs 6) = some x.queue
        ∧ partOf ((byteAt bs 7).getLsbD 0) (sequencePartOf (bs.drop 8)) = some x.sequence
        ∧ partOf ((byteAt bs 7).getLsbD 1) (cadencePartOf (bs.drop c)) = some x.cadence
        ∧ partOf ((byteAt bs 7).getLsbD 2) (meterPartOf (bs.drop m)) = some x.meter
        ∧ partOf ((byteAt bs 7).getLsbD 3) (tripPartOf (bs.drop l)) = some x.trip ∧ (byteAt bs 7).toNat < 16 := by
  subst hc hm hl
  obtain ⟨state, key, queue, sequence, cadence, meter, trip⟩ := x
  unfold recordOf
  dsimp only
  split
  · rename_i h0 h1 h2 h3 h4 h5 h6
    rw [h0, h1, h2, h3, h4, h5, h6]
    simp only [checked_eq_some, decide_eq_true_eq, StreamRecord.mk.injEq, Option.some_inj]
    tauto
  · rename_i hno
    simp only [reduceCtorEq, false_iff]
    rintro ⟨h0, h1, h2, h3, h4, h5, h6, _⟩
    exact hno _ _ _ _ _ _ _ h0 h1 h2 h3 h4 h5 h6

/-- Bytes are refused where one of the parts is, or an upper presence mark is set. -/
theorem recordOf_eq_none :
    recordOf bs = none ↔
      writtenStateOf (byteAt bs 0) = none ∨ keyOf (byteAt bs 1) (fieldAt bs 2 2) (fieldAt bs 4 2) = none
        ∨ dataQueueOf (byteAt bs 6) = none ∨ 15 < (byteAt bs 7).toNat
        ∨ partOf ((byteAt bs 7).getLsbD 0) (sequencePartOf (bs.drop 8)) = none
        ∨ partOf ((byteAt bs 7).getLsbD 1) (cadencePartOf (bs.drop c)) = none
        ∨ partOf ((byteAt bs 7).getLsbD 2) (meterPartOf (bs.drop m)) = none
        ∨ partOf ((byteAt bs 7).getLsbD 3) (tripPartOf (bs.drop l)) = none := by
  constructor
  · intro h
    by_contra hno
    simp only [not_or, Option.ne_none_iff_exists'] at hno
    obtain ⟨⟨state, h0⟩, ⟨key, h1⟩, ⟨queue, h2⟩, h7, ⟨sequence, h3⟩, ⟨cadence, h4⟩, ⟨meter, h5⟩, ⟨trip, h6⟩⟩ := hno
    have hx := (recordOf_eq_some hc hm hl (x := ⟨state, key, queue, sequence, cadence, meter, trip⟩)).2
      ⟨h0, h1, h2, h3, h4, h5, h6, by omega⟩
    rw [h] at hx; cases hx
  · intro h
    by_contra hno
    obtain ⟨x, hx⟩ := Option.ne_none_iff_exists'.1 hno
    obtain ⟨h0, h1, h2, h3, h4, h5, h6, h7⟩ := (recordOf_eq_some hc hm hl).1 hx
    simp only [h0, h1, h2, h3, h4, h5, h6, reduceCtorEq, false_or, or_false] at h
    omega

end

/-- A record that is read is in range (R21). -/
theorem recordOf_inRange {bs : List Byte} {x : StreamRecord} (h : recordOf bs = some x) : x.InRange := by
  obtain ⟨_, hk, _, hs, hc, hm, ht, _⟩ := (recordOf_eq_some rfl rfl rfl).1 h
  obtain ⟨_, hsrc, htag, h1, h2, h3⟩ := keyOf_eq_some.1 hk
  refine ⟨by omega, fun w hw => ?_, fun c hy => ?_, fun m hy => ?_, fun l hy => ?_⟩
  · exact (sequencePartOf_eq_some.1 ((partOf_eq_some.1 hs).2 w hw)).2
  · obtain ⟨_, _, _, hr⟩ := cadencePartOf_eq_some.1 ((partOf_eq_some.1 hc).2 c hy)
    exact hr
  · obtain ⟨_, hb, _, h1, h2, h3⟩ := meterPartOf_eq_some.1 ((partOf_eq_some.1 hm).2 m hy)
    exact ⟨h1, h2, h3, hb ▸ Nat.le_of_lt_succ (fieldAt_two_lt _ _)⟩
  · obtain ⟨hb, hr⟩ := tripPartOf_eq_some.1 ((partOf_eq_some.1 ht).2 l hy)
    exact ⟨hr, hb ▸ Nat.le_of_lt_succ (BitVec.isLt _)⟩

end Sys2Proof.Machine
end

section
/-! SUPPORT. The accepted set of a sequence check (R42, R55) as lists of numbers below H: what a forwarded frame and a
narrower window make of it. -/

namespace Sys2Proof.Machine

/-! ## Distances modulo 65,536 -/

theorem distance_self (h : Half) : (h - h).toNat = 0 := by simp

/-- The distance back is what is missing to 65,536. -/
theorem distance_swap (s h : Half) (hd : (s - h).toNat ≠ 0) : (h - s).toNat = 65536 - (s - h).toNat := by bv_omega

/-- Distances along the circle add up while they stay within one turn. -/
theorem distance_add (s h m : Half) (hlt : (s - h).toNat + (h - m).toNat < 65536) :
    (s - m).toNat = (s - h).toNat + (h - m).toNat := by bv_omega

theorem distance_inj {h a b : Half} (hd : (h - a).toNat = (h - b).toNat) : a = b := by bv_omega

theorem distance_eq_zero {h a : Half} (hd : (h - a).toNat = 0) : a = h := by bv_omega

/-- A number lies in the window exactly if it is H or one of the W numbers ending at H (R42). -/
theorem inWindow_iff {w : Nat} (hw : 1 ≤ w ∧ w ≤ 32) (s h : Half) :
    inWindow w (distance s h) = true ↔ (h - s).toNat < w := by
  unfold inWindow distance
  simp only [Bool.or_eq_true, beq_iff_eq, decide_eq_true_eq]
  by_cases hd : (s - h).toNat = 0
  · have he : (h - s).toNat = 0 := by bv_omega
    omega
  · have := distance_swap s h hd
    have := (s - h).isLt
    omega

/-! ## Sound sets -/

/-- Different numbers within W of H are at most W. -/
theorem length_le_of_within {w : Nat} {h : Half} {l : List Half} (hn : l.Nodup)
    (hw : ∀ m ∈ l, (h - m).toNat < w) : l.length ≤ w := by
  have hd : (l.map fun m => (h - m).toNat).Nodup := hn.map fun _ _ => distance_inj
  have hs : (l.map fun m => (h - m).toNat) ⊆ List.range w := by
    intro d hd
    obtain ⟨m, hm, rfl⟩ := List.mem_map.1 hd
    exact List.mem_range.2 (hw m hm)
  simpa using (hd.subperm hs).length_le

/-- The law of a set with H present, without the bound on its length, which follows (R42). -/
theorem SequenceState.sound_some {w : Nat} {h : Half} {l : List Half} (hmem : h ∈ l) (hn : l.Nodup)
    (hw : ∀ m ∈ l, (h - m).toNat < w) : SequenceState.Sound w ⟨some h, l⟩ :=
  ⟨hmem, hn, length_le_of_within hn hw, hw⟩

theorem SequenceState.sound_fresh (w : Nat) : SequenceState.Sound w ⟨none, []⟩ := rfl

theorem SequenceState.inOrder_fresh : SequenceState.InOrder ⟨none, []⟩ := by intro h hh; cases hh

/-! ## Insertion (R55 for an out-of-order frame) -/

theorem insertBelow_perm (h m : Half) (l : List Half) : (insertBelow h m l).Perm (m :: l) := by
  induction l with
  | nil => exact .refl _
  | cons x xs ih =>
    unfold insertBelow
    split
    · exact .refl _
    · exact (ih.cons x).trans (.swap m x xs)

/-- Insertion of a new number keeps the order by ascending distance (R33). -/
theorem insertBelow_pairwise {h m : Half} {l : List Half} (hm : m ∉ l)
    (hl : l.Pairwise fun a b => (h - a).toNat < (h - b).toNat) :
    (insertBelow h m l).Pairwise fun a b => (h - a).toNat < (h - b).toNat := by
  induction l with
  | nil => exact List.pairwise_singleton _ _
  | cons x xs ih =>
    obtain ⟨hx, hxs⟩ := List.pairwise_cons.1 hl
    obtain ⟨hne, hmem⟩ : m ≠ x ∧ m ∉ xs := by simpa using hm
    unfold insertBelow
    split
    · rename_i hlt
      refine List.pairwise_cons.2 ⟨fun y hy => ?_, hl⟩
      obtain rfl | hy := List.mem_cons.1 hy
      · exact hlt
      · exact hlt.trans (hx y hy)
    · rename_i hge
      refine List.pairwise_cons.2 ⟨fun y hy => ?_, ih hmem hxs⟩
      obtain rfl | hy := List.mem_cons.1 ((insertBelow_perm h m xs).mem_iff.1 hy)
      · have : (h - x).toNat ≠ (h - y).toNat := fun he => hne (distance_inj he).symm
        omega
      · exact hx y hy

/-! ## What a forwarded frame makes of the set (R55) -/

/-- The sequence case that the sequence step gives a forwarded frame, and what it says of the state (R43). -/
def SequenceCase.Fits (w : Nat) (s : Half) (st : SequenceState) : SequenceCase → Prop
  | none => True
  | first => st.highest = Option.none
  | outOfOrder => ∃ h, st.highest = some h ∧ (h - s).toNat < w ∧ s ∉ st.accepted
  | ahead d => ∃ h, st.highest = some h ∧ d = (s - h).toNat ∧ d ≤ 32767 ∧ w ≤ (h - s).toNat

section
variable {w : Nat} {s : Half} {st : SequenceState} {case : SequenceCase} (hw : 1 ≤ w ∧ w ≤ 32)
  (hfit : case.Fits w s st) (hs : st.Sound w)
include hw hfit hs

theorem learn_sound : (learn w s case st).Sound w := by
  cases case with
  | none => exact hs
  | first => exact SequenceState.sound_some (List.mem_singleton_self s) (List.nodup_singleton s) (by simp; omega)
  | outOfOrder =>
    obtain ⟨h, hh, hwin, hnew⟩ := hfit
    simp only [SequenceState.Sound, hh] at hs
    obtain ⟨hmem, hn, _, hall⟩ := hs
    have hp := insertBelow_perm h s st.accepted
    simp only [learn, hh, SequenceState.Sound]
    refine SequenceState.sound_some (hp.mem_iff.2 (List.mem_cons_of_mem _ hmem))
      (hp.nodup_iff.2 (List.nodup_cons.2 ⟨hnew, hn⟩)) fun m hm => ?_
    obtain rfl | hm := List.mem_cons.1 (hp.mem_iff.1 hm)
    · exact hwin
    · exact hall m hm
  | ahead d =>
    obtain ⟨h, hh, _, _, hout⟩ := hfit
    simp only [SequenceState.Sound, hh] at hs
    obtain ⟨_, hn, _, hall⟩ := hs
    simp only [learn, withinWindow]
    refine SequenceState.sound_some List.mem_cons_self (List.nodup_cons.2 ⟨fun hm => ?_, hn.filter _⟩) fun m hm => ?_
    · have := hall s (List.mem_of_mem_filter hm)
      omega
    · rcases List.mem_cons.1 hm with rfl | hm
      · rw [distance_self]; omega
      · simpa using (List.mem_filter.1 hm).2

theorem learn_inOrder (ho : st.InOrder) : (learn w s case st).InOrder := by
  cases case with
  | none => exact ho
  | first => exact fun h _ => List.pairwise_singleton _ _
  | outOfOrder =>
    obtain ⟨h, hh, _, hnew⟩ := hfit
    simp only [learn, hh]
    intro h' hh'
    obtain rfl : h = h' := by simpa using hh'
    exact insertBelow_pairwise hnew (ho h hh)
  | ahead d =>
    obtain ⟨h, hh, hd, hle, hout⟩ := hfit
    simp only [SequenceState.Sound, hh] at hs
    obtain ⟨_, _, _, hall⟩ := hs
    have hfar : ∀ m ∈ st.accepted, (s - m).toNat = d + (h - m).toNat := by
      intro m hm
      have := hall m hm
      rw [distance_add s h m (by omega), hd]
    simp only [learn, withinWindow]
    rintro h' hh'
    obtain rfl : s = h' := by simpa using hh'
    refine List.pairwise_cons.2 ⟨fun m hf => ?_, ?_⟩
    · have hm := List.mem_of_mem_filter hf
      clear hf
      have hne : (s - m).toNat ≠ 0 := fun h0 => by
        obtain rfl := distance_eq_zero h0
        have := hall m hm
        omega
      rw [distance_self]; omega
    · refine List.Pairwise.sublist List.filter_sublist ((ho h hh).imp_of_mem fun ha hb hab => ?_)
      rw [hfar _ ha, hfar _ hb]; omega

end

/-! ## A narrower window (R29) -/

theorem narrow_sound {w v : Nat} (hw : 1 ≤ w) {st : SequenceState} (hs : st.Sound v) : (narrow w st).Sound w := by
  obtain ⟨highest, l⟩ := st
  cases highest with
  | none => exact hs
  | some h =>
    obtain ⟨hmem, hn, _, _⟩ := hs
    refine SequenceState.sound_some (List.mem_filter.2 ⟨hmem, by simp; omega⟩) (hn.filter _) fun m hm => ?_
    simpa using (List.mem_filter.1 hm).2

theorem narrow_inOrder {w : Nat} {st : SequenceState} (ho : st.InOrder) : (narrow w st).InOrder := by
  obtain ⟨highest, l⟩ := st
  cases highest with
  | none => exact ho
  | some h =>
    intro h' hh'
    exact (ho h' hh').sublist List.filter_sublist

end Sys2Proof.Machine
end

section
/-! SUPPORT. The laws of the entries (R21, R22, R33, R42, R51, R57, R58) through every rewriting of an entry, and the two
invariants of the table (O4, O5). -/

namespace Sys2Proof.Machine

/-! ## A frame part-way through the series (R39) -/

/-- What the steps before the outcome step leave of the entry `e` that they judge a frame with sequence number `s`
against: the record, the state, the sequence state and the score stand, each check keeps its state, tokens stay within
the depth, the sequence case says what it found, and in BLOCKED and TRIPPED the frame is discarded without violation. -/
structure Judging.Against (e : StreamEntry) (s : Half) (j : Judging) : Prop where
  record : j.entry.record = e.record
  state : j.entry.state = e.state
  sequence : j.entry.sequence = e.sequence
  score : j.entry.score = e.score
  cadence : j.entry.cadence.isSome = e.cadence.isSome
  meter : j.entry.meter.isSome = e.meter.isSome
  tokens : ∀ m ∈ e.record.meter, ∀ st ∈ j.entry.meter, st.tokens ≤ m.depth
  fits : ∀ w ∈ e.record.sequence, ∀ st ∈ e.sequence, j.found.case.Fits w s st
  inactive : e.state ≠ .enabled → j.found.violation = false ∧ ∃ r, j.found.fate = some (.discarded r)

/-- Is the frame still going on, as far as a discard goes (R39)? -/
def Judging.GoingOn (j : Judging) : Prop := ∀ r, j.found.fate ≠ some (.discarded r)

section
variable {e : StreamEntry} {s : Half} {j : Judging}

/-- A step is taken only while the frame goes on (R39). -/
theorem Judging.Against.andThen (h : j.Against e s) {step : Judging → Judging}
    (hs : ∀ {j : Judging}, j.Against e s → j.GoingOn → (step j).Against e s) : (j.andThen step).Against e s := by
  unfold Judging.andThen
  split
  · exact h
  · rename_i hno
    exact hs h hno

/-- Only an ENABLED entry has frames that go on (R41). -/
theorem Judging.Against.enabled (h : j.Against e s) (hg : j.GoingOn) : e.state = .enabled := by
  by_contra hne
  obtain ⟨r, hr⟩ := (h.inactive hne).2
  exact hg r hr

/-- Against an ENABLED entry the findings matter only in the sequence case. -/
theorem Judging.Against.found (h : j.Against e s) (he : e.state = .enabled) {f : Findings}
    (hf : f.case = j.found.case) : ({ j with found := f } : Judging).Against e s :=
  { h with
    fits := fun w hw st hst => hf ▸ h.fits w hw st hst
    inactive := fun hne => absurd he hne }

theorem stateStep_against (he : e.Sound) : (stateStep ⟨e, Findings.start⟩).Against e s := by
  obtain ⟨_, _, _, _, _, _, htok, _⟩ := he
  have hstart : e.state = .enabled → (⟨e, Findings.start⟩ : Judging).Against e s := fun hen =>
    ⟨rfl, rfl, rfl, rfl, rfl, rfl, htok, fun _ _ _ _ => trivial, fun hne => absurd hen hne⟩
  unfold stateStep
  split
  · rename_i hen; exact hstart hen
  all_goals exact ⟨rfl, rfl, rfl, rfl, rfl, rfl, htok, fun _ _ _ _ => trivial, fun _ => ⟨rfl, _, rfl⟩⟩

/-- The sequence step finds a case that fits (R43). -/
theorem sequenceStep_against (he : e.Sound) (h : j.Against e s) (hg : j.GoingOn) :
    (sequenceStep s j).Against e s := by
  obtain ⟨⟨_, hrange, _⟩, _⟩ := he
  have hen := h.enabled hg
  have hcase : ∀ c : SequenceCase, (∀ w ∈ e.record.sequence, ∀ st ∈ e.sequence, c.Fits w s st) →
      ({ j with found := { j.found with case := c } } : Judging).Against e s := fun c hc =>
    { h with fits := hc, inactive := fun hne => absurd hen hne }
  unfold sequenceStep
  rw [h.record, h.sequence]
  split
  · rename_i w st hw hst
    have hthe : ∀ c : SequenceCase, c.Fits w s st → ∀ v ∈ e.record.sequence, ∀ x ∈ e.sequence, c.Fits v s x := by
      intro c hc v hv x hx
      rw [hw] at hv; rw [hst] at hx
      cases hv; cases hx; exact hc
    have hwin := inWindow_iff (hrange w hw) s
    split
    · rename_i hh; exact hcase _ (hthe .first hh)
    · rename_i hh' hh
      dsimp only
      split
      · rename_i hin
        split
        · exact h.found hen rfl
        · rename_i hnew; exact hcase _ (hthe .outOfOrder ⟨hh', hh, (hwin _).1 hin, hnew⟩)
      · rename_i hout
        split
        · rename_i hd
          exact hcase _ (hthe (.ahead _) ⟨hh', hh, rfl, hd, Nat.le_of_not_lt fun hlt => hout ((hwin _).2 hlt)⟩)
        · exact h.found hen rfl
  · exact h

/-- The cadence step changes the last arrival and the findings (R47). -/
theorem cadenceStep_against (h : j.Against e s) (hg : j.GoingOn) (arrival : Ticks) :
    (cadenceStep arrival j).Against e s := by
  have hen := h.enabled hg
  unfold cadenceStep
  split
  · rename_i part st _ hst
    have hmoved : ({ j with entry := { j.entry with cadence := some ⟨some arrival⟩ } } : Judging).Against e s :=
      { h with cadence := by rw [← h.cadence, hst]; rfl }
    dsimp only
    split
    · split
      · exact hmoved.found hen rfl
      · exact hmoved.found hen rfl
    · exact hmoved
  · exact h

/-- Accrual never passes the depth (R50). -/
theorem accrue_le (part : MeterPart) (st : MeterState) (arrival : Ticks) : accrue part st arrival ≤ part.depth :=
  Nat.min_le_left _ _

/-- The meter step changes the tokens, within the depth, and the findings (R50 to R53). -/
theorem meterStep_against (h : j.Against e s) (hg : j.GoingOn) (bytes : Nat) (arrival : Ticks) :
    (meterStep bytes arrival j).Against e s := by
  have hen := h.enabled hg
  unfold meterStep
  split
  · rename_i part st hpart hst
    have hset : ∀ n, n ≤ part.depth →
        ({ j with entry := { j.entry with meter := some ⟨n, arrival⟩ } } : Judging).Against e s := by
      intro n hn
      refine { h with meter := by rw [← h.meter, hst]; rfl, tokens := ?_ }
      intro m hm st hst
      rw [← h.record, hpart] at hm
      cases hm; cases hst; exact hn
    have hacc := accrue_le part st arrival
    dsimp only
    split
    · exact hset _ (by omega)
    · split
      · exact (hset _ hacc).found hen rfl
      · exact (hset _ hacc).found hen rfl
  · exact h

theorem findings_against (he : e.Sound) (s : Half) (bytes : Nat) (arrival : Ticks) :
    (findings e s bytes arrival).Against e s :=
  (((stateStep_against he).andThen (sequenceStep_against he)).andThen fun h hg =>
    cadenceStep_against h hg arrival).andThen fun h hg => meterStep_against h hg bytes arrival

/-! ## The outcome step (R54 to R59) -/

/-- What the outcome step makes of the sequence state (R55). -/
theorem outcomeStep_sequence (h : j.Against e s) {w : Nat} {st : SequenceState} (hw : e.record.sequence = some w)
    (hst : e.sequence = some st) :
    (outcomeStep s j).sequence = some (if j.found.outcome.isForwarded then learn w s j.found.case st else st) := by
  simp only [outcomeStep, h.record, h.sequence, hw, hst]
  split <;> rfl

theorem outcomeStep_sequence_isSome (h : j.Against e s) :
    (outcomeStep s j).sequence.isSome = e.sequence.isSome := by
  rw [← h.sequence]
  simp only [outcomeStep]
  split
  · split <;> simp_all
  · rfl

/-- What the outcome step makes of the score (R57). -/
theorem outcomeStep_score (h : j.Against e s) {l sc : Nat} (hl : e.record.trip = some l) (hsc : e.score = some sc) :
    (outcomeStep s j).score = some (scoreAfter l sc j.found) := by
  simp only [outcomeStep, h.record, h.score, hl, hsc]

theorem outcomeStep_score_isSome (h : j.Against e s) : (outcomeStep s j).score.isSome = e.score.isSome := by
  rw [← h.score]
  simp only [outcomeStep]
  split <;> simp_all

theorem outcomeStep_state (h : j.Against e s) :
    (outcomeStep s j).state = if trips e j.found then .tripped else e.state := by
  have ht : trips j.entry j.found = trips e j.found := by rw [trips, trips, h.record, h.score, h.state]
  simp only [outcomeStep, ht, h.state]

/-- The score stays at most at the limit, and is there exactly in TRIPPED (R57, R58, R41). -/
theorem scoreAfter_sound (h : j.Against e s) {l sc : Nat} (hl : e.record.trip = some l) (hsc : e.score = some sc)
    (h1 : 1 ≤ l) (hle : sc ≤ l) (htrip : e.state = .tripped ↔ sc = l) :
    scoreAfter l sc j.found ≤ l
      ∧ ((if trips e j.found then EntryState.tripped else e.state) = .tripped ↔ scoreAfter l sc j.found = l) := by
  simp only [trips, hl, hsc, scoreAfter]
  by_cases hen : e.state = .enabled
  · have hlt : sc ≠ l := fun he => by rw [hen] at htrip; exact absurd (htrip.2 he) (by decide)
    cases hv : j.found.violation
    · simp only [hen, Bool.false_eq_true, Bool.false_and, if_false, reduceCtorEq, false_iff]
      split <;> omega
    · by_cases hb : l ≤ sc + 1 <;> simp [hen, hb]
  · obtain ⟨hv, r, hr⟩ := h.inactive hen
    simp [hv, hr, Findings.outcome, Fate.isForwarded, hle, htrip]

/-- The outcome step keeps every law of an entry. -/
theorem outcomeStep_sound (he : e.Sound) (h : j.Against e s) : (outcomeStep s j).Sound := by
  obtain ⟨⟨hkey, hrange, hcad, hmet, htrip⟩, hq, hc, hm, hsc, hseq, htok, hscore, hnot⟩ := he
  have hrec : (outcomeStep s j).record = e.record := h.record
  have hmeter : (outcomeStep s j).meter = j.entry.meter := rfl
  have hcadence : (outcomeStep s j).cadence = j.entry.cadence := rfl
  simp only [StreamEntry.Sound, hrec, hmeter, hcadence, outcomeStep_state h]
  refine ⟨⟨hkey, hrange, hcad, hmet, htrip⟩, (outcomeStep_sequence_isSome h).trans hq, h.cadence.trans hc,
    h.meter.trans hm, (outcomeStep_score_isSome h).trans hsc, fun w hw st' hst => ?_, h.tokens, fun l hl x hx => ?_,
    fun hno => ?_⟩
  · obtain ⟨st, hs⟩ := Option.isSome_iff_exists.1 (hq.trans (Option.isSome_of_mem hw))
    rw [outcomeStep_sequence h hw hs] at hst
    obtain rfl := Option.mem_some_iff.1 hst
    split
    · exact learn_sound (hrange w hw) (h.fits w hw st hs) (hseq w hw st hs)
    · exact hseq w hw st hs
  · obtain ⟨sc, hs⟩ := Option.isSome_iff_exists.1 (hsc.trans (Option.isSome_of_mem hl))
    rw [outcomeStep_score h hl hs] at hx
    obtain rfl := Option.mem_some_iff.1 hx
    exact scoreAfter_sound h hl hs (htrip l hl).1 (hscore l hl sc hs).1 (hscore l hl sc hs).2
  · simp only [trips, hno, Bool.false_eq_true, if_false]
    exact hnot hno

/-- And the order of the accepted set (R33). -/
theorem outcomeStep_inOrder (he : e.Sound) (h : j.Against e s) (ho : ∀ st ∈ e.sequence, st.InOrder) :
    ∀ st ∈ (outcomeStep s j).sequence, st.InOrder := by
  obtain ⟨⟨_, hrange, _⟩, hq, _, _, _, hseq, _⟩ := he
  intro st' hst
  obtain ⟨st, hs⟩ := Option.isSome_iff_exists.1
    ((outcomeStep_sequence_isSome h).symm.trans (Option.isSome_of_mem hst))
  obtain ⟨w, hw⟩ := Option.isSome_iff_exists.1 (hq.symm.trans (Option.isSome_of_mem hs))
  rw [outcomeStep_sequence h hw hs] at hst
  obtain rfl := Option.mem_some_iff.1 hst
  split
  · exact learn_inOrder (hrange w hw) (h.fits w hw st hs) (hseq w hw st hs) (ho st hs)
  · exact ho st hs

end

theorem judgeFrame_sound {e : StreamEntry} (he : e.Sound) (s : Half) (bytes : Nat) (arrival : Ticks) :
    (judgeFrame e s bytes arrival).entry.Sound :=
  outcomeStep_sound he (findings_against he s bytes arrival)

theorem judgeFrame_inOrder {e : StreamEntry} (he : e.Sound) (ho : ∀ st ∈ e.sequence, st.InOrder) (s : Half)
    (bytes : Nat) (arrival : Ticks) : ∀ st ∈ (judgeFrame e s bytes arrival).entry.sequence, st.InOrder :=
  outcomeStep_inOrder he (findings_against he s bytes arrival) ho

/-! ## The record stands (R21) -/

theorem Judging.andThen_record {j : Judging} {step : Judging → Judging}
    (h : ∀ j : Judging, (step j).entry.record = j.entry.record) : (j.andThen step).entry.record = j.entry.record := by
  unfold Judging.andThen
  split
  · rfl
  · exact h j

theorem stateStep_record (j : Judging) : (stateStep j).entry.record = j.entry.record := by
  unfold stateStep
  split <;> rfl

theorem sequenceStep_record (s : Half) (j : Judging) : (sequenceStep s j).entry.record = j.entry.record := by
  unfold sequenceStep
  dsimp only
  repeat' split
  all_goals rfl

theorem cadenceStep_record (arrival : Ticks) (j : Judging) :
    (cadenceStep arrival j).entry.record = j.entry.record := by
  unfold cadenceStep
  dsimp only
  repeat' split
  all_goals rfl

theorem meterStep_record (bytes : Nat) (arrival : Ticks) (j : Judging) :
    (meterStep bytes arrival j).entry.record = j.entry.record := by
  unfold meterStep
  dsimp only
  repeat' split
  all_goals rfl

/-- A judged frame leaves the record, and with it the key, as it is. -/
theorem judgeFrame_record (e : StreamEntry) (s : Half) (bytes : Nat) (arrival : Ticks) :
    (judgeFrame e s bytes arrival).entry.record = e.record := by
  show (findings e s bytes arrival).entry.record = e.record
  rw [findings, Judging.andThen_record (meterStep_record _ _), Judging.andThen_record (cadenceStep_record _),
    Judging.andThen_record (sequenceStep_record _), stateStep_record]

/-! STREAM_STATE sets the state of an entry that is not TRIPPED; ENABLED renews a TRIPPED one, BLOCKED sets its score to 0
(R32). -/

theorem StreamEntry.withState_of_ne (e : StreamEntry) (w : WrittenState) (now : Ticks) (h : e.state ≠ .tripped) :
    e.withState w now = { e with state := w.toEntry } := by
  unfold StreamEntry.withState
  split
  · rename_i ht; exact absurd ht h
  · rename_i ht; exact absurd ht h
  · rfl

theorem StreamEntry.withState_enabled (e : StreamEntry) (now : Ticks) (h : e.state = .tripped) :
    e.withState .enabled now = e.renew now := by
  simp [StreamEntry.withState, h]

theorem StreamEntry.withState_blocked (e : StreamEntry) (now : Ticks) (h : e.state = .tripped) :
    e.withState .blocked now = { e with state := .blocked, score := e.score.map fun _ => 0 } := by
  simp [StreamEntry.withState, h]

theorem StreamEntry.withState_record (e : StreamEntry) (w : WrittenState) (now : Ticks) :
    (e.withState w now).record = e.record := by
  unfold StreamEntry.withState
  split <;> rfl

/-! ## Requests keep an entry sound (R28, R29, R32, R60) -/

/-- The fresh state of a check is within its laws (R28). -/
theorem fresh_laws {r : StreamRecord} (hr : r.InRange) (now : Ticks) :
    (∀ w ∈ r.sequence, ∀ st ∈ freshSequence r, st.Sound w)
      ∧ (∀ m ∈ r.meter, ∀ st ∈ freshMeter r now, st.tokens ≤ m.depth)
      ∧ ∀ l ∈ r.trip, ∀ sc ∈ freshScore r, sc < l := by
  obtain ⟨_, _, _, _, htrip⟩ := hr
  refine ⟨fun w hw st hst => ?_, fun m hm st hst => ?_, fun l hl sc hsc => ?_⟩
  · simp only [freshSequence, Option.mem_def.1 hw, Option.map_some, Option.mem_def, Option.some_inj] at hst
    subst hst; exact SequenceState.sound_fresh w
  · simp only [freshMeter, Option.mem_def.1 hm, Option.map_some, Option.mem_def, Option.some_inj] at hst
    subst hst; exact le_rfl
  · simp only [freshScore, Option.mem_def.1 hl, Option.map_some, Option.mem_def, Option.some_inj] at hsc
    have := (htrip l hl).1
    omega

theorem freshSequence_inOrder (r : StreamRecord) : ∀ st ∈ freshSequence r, st.InOrder := by
  intro st hst
  obtain ⟨_, _, rfl⟩ := Option.map_eq_some_iff.1 (Option.mem_def.1 hst)
  exact SequenceState.inOrder_fresh

theorem StreamEntry.Sound.renew {e : StreamEntry} (he : e.Sound) (now : Ticks) : (e.renew now).Sound := by
  obtain ⟨hr, _⟩ := he
  obtain ⟨hseq, htok, hscore⟩ := fresh_laws hr now
  have hstate : (e.renew now).state ≠ .tripped := by
    simp only [StreamEntry.renew]
    split
    · decide
    · assumption
  refine ⟨hr, ?_, ?_, ?_, ?_, hseq, htok, fun l hl sc hsc => ?_, fun _ => hstate⟩
  · simp [StreamEntry.renew, freshSequence]
  · simp [StreamEntry.renew, freshCadence]
  · simp [StreamEntry.renew, freshMeter]
  · simp [StreamEntry.renew, freshScore]
  · have := hscore l hl sc hsc
    exact ⟨by omega, iff_of_false hstate (by omega)⟩

/-- Setting a written state keeps an entry sound where its score is below the limit. -/
theorem StreamEntry.Sound.setState {e : StreamEntry} (he : e.Sound) (w : WrittenState) (x : Option Nat)
    (hx : x.isSome = e.score.isSome) (hlt : ∀ l ∈ e.record.trip, ∀ sc ∈ x, sc < l) :
    ({ e with state := w.toEntry, score := x } : StreamEntry).Sound := by
  obtain ⟨hr, hq, hc, hm, hsc, hseq, htok, _, _⟩ := he
  have hstate : w.toEntry ≠ .tripped := by cases w <;> decide
  refine ⟨hr, hq, hc, hm, hx.trans hsc, hseq, htok, fun l hl sc h => ?_, fun _ => hstate⟩
  have := hlt l hl sc h
  exact ⟨by omega, iff_of_false hstate (by omega)⟩

theorem StreamEntry.Sound.withState {e : StreamEntry} (he : e.Sound) (w : WrittenState) (now : Ticks) :
    (e.withState w now).Sound := by
  have hscore : ∀ l ∈ e.record.trip, ∀ sc ∈ e.score, sc ≤ l ∧ (e.state = .tripped ↔ sc = l) := he.2.2.2.2.2.2.2.1
  have hlim : ∀ l ∈ e.record.trip, 1 ≤ l ∧ l ≤ 255 := he.1.2.2.2.2
  by_cases ht : e.state = .tripped
  · cases w with
    | enabled => rw [e.withState_enabled now ht]; exact he.renew now
    | blocked =>
      rw [e.withState_blocked now ht]
      refine he.setState .blocked _ (by simp) fun l hl sc hsc => ?_
      obtain ⟨_, _, rfl⟩ := Option.map_eq_some_iff.1 (Option.mem_def.1 hsc)
      exact (hlim l hl).1
  · rw [e.withState_of_ne w now ht]
    refine he.setState w _ rfl fun l hl sc hsc => ?_
    obtain ⟨hle, hiff⟩ := hscore l hl sc hsc
    have : sc ≠ l := fun h => ht (hiff.2 h)
    omega

/-- A set state leaves the accepted set, or makes it fresh. -/
theorem StreamEntry.withState_inOrder {e : StreamEntry} (ho : ∀ st ∈ e.sequence, st.InOrder) (w : WrittenState)
    (now : Ticks) : ∀ st ∈ (e.withState w now).sequence, st.InOrder := by
  unfold StreamEntry.withState
  split
  · exact freshSequence_inOrder _
  · exact ho
  · exact ho

theorem freshEntry_sound {r : StreamRecord} (hr : r.InRange) (now : Ticks) : (freshEntry r now).Sound := by
  obtain ⟨hseq, htok, hscore⟩ := fresh_laws hr now
  have hstate : r.state.toEntry ≠ .tripped := by cases r.state <;> decide
  refine ⟨hr, ?_, ?_, ?_, ?_, hseq, htok, fun l hl sc hsc => ?_, fun _ => hstate⟩
  · simp [freshEntry, freshSequence]
  · simp [freshEntry, freshCadence]
  · simp [freshEntry, freshMeter]
  · simp [freshEntry, freshScore]
  · have := hscore l hl sc hsc
    exact ⟨by omega, iff_of_false hstate (by omega)⟩

/-! The state of each check after a write with keep-state: carried where both records have it, else fresh (R29). -/

theorem carriedEntry_sequence (old : StreamEntry) (r : StreamRecord) (now : Ticks) :
    (carriedEntry old r now).sequence = r.sequence.map fun w => (old.sequence.map (narrow w)).getD ⟨none, []⟩ := by
  cases hr : r.sequence <;> cases ho : old.sequence <;> simp [carriedEntry, freshSequence, hr, ho]

theorem carriedEntry_cadence (old : StreamEntry) (r : StreamRecord) (now : Ticks) :
    (carriedEntry old r now).cadence = r.cadence.map fun _ => old.cadence.getD ⟨none⟩ := by
  cases hr : r.cadence <;> cases ho : old.cadence <;> simp [carriedEntry, freshCadence, hr, ho]

theorem carriedEntry_meter (old : StreamEntry) (r : StreamRecord) (now : Ticks) :
    (carriedEntry old r now).meter =
      r.meter.map fun m => (old.meter.map fun st => ⟨min st.tokens m.depth, st.lastUpdate⟩).getD ⟨m.depth, now⟩ := by
  cases hr : r.meter <;> cases ho : old.meter <;> simp [carriedEntry, freshMeter, hr, ho]

theorem carriedEntry_score (old : StreamEntry) (r : StreamRecord) (now : Ticks) :
    (carriedEntry old r now).score =
      r.trip.map fun l => if old.state = .tripped then 0 else min (old.score.getD 0) (l - 1) := by
  cases hr : r.trip <;> cases ho : old.score <;> simp [carriedEntry, freshScore, hr, ho]

theorem carriedEntry_sound {old : StreamEntry} (ho : old.Sound) {r : StreamRecord} (hr : r.InRange) (now : Ticks) :
    (carriedEntry old r now).Sound := by
  obtain ⟨_, hq, _, _, _, hseq, _⟩ := ho
  obtain ⟨_, hrange, _, _, htrip⟩ := id hr
  have hstate : r.state.toEntry ≠ .tripped := by cases r.state <;> decide
  have hrec : (carriedEntry old r now).record = r := rfl
  simp only [StreamEntry.Sound, hrec, carriedEntry_sequence, carriedEntry_cadence, carriedEntry_meter,
    carriedEntry_score]
  refine ⟨hr, by simp, by simp, by simp, by simp, fun w hw st hst => ?_, fun m hm st hst => ?_, fun l hl sc hsc => ?_,
    fun _ => hstate⟩
  · simp only [Option.mem_def.1 hw, Option.map_some, Option.mem_def, Option.some_inj] at hst
    subst hst
    cases hs : old.sequence with
    | none => exact SequenceState.sound_fresh w
    | some st =>
      obtain ⟨v, hv⟩ := Option.isSome_iff_exists.1 (hq ▸ hs ▸ rfl : old.record.sequence.isSome = true)
      exact narrow_sound (hrange w hw).1 (hseq v hv st hs)
  · simp only [Option.mem_def.1 hm, Option.map_some, Option.mem_def, Option.some_inj] at hst
    subst hst
    cases old.meter with
    | none => exact le_rfl
    | some st => exact Nat.min_le_right _ _
  · simp only [Option.mem_def.1 hl, Option.map_some, Option.mem_def, Option.some_inj] at hsc
    have h1 := (htrip l hl).1
    have hlt : sc < l := by subst hsc; split <;> omega
    exact ⟨hlt.le, iff_of_false hstate hlt.ne⟩

theorem carriedEntry_inOrder {old : StreamEntry} (ho : ∀ st ∈ old.sequence, st.InOrder) (r : StreamRecord)
    (now : Ticks) : ∀ st ∈ (carriedEntry old r now).sequence, st.InOrder := by
  intro st hst
  rw [carriedEntry_sequence] at hst
  obtain ⟨w, _, rfl⟩ := Option.map_eq_some_iff.1 (Option.mem_def.1 hst)
  cases hs : old.sequence with
  | none => exact SequenceState.inOrder_fresh
  | some st => exact narrow_inOrder (ho st hs)

/-! ## The laws of the table -/

/-- R22 of a table. -/
def KeysUniqueIn (T : StreamTable) : Prop :=
  ∀ i j : StreamIndex, ∀ e f : StreamEntry, T[i] = some e → T[j] = some f → e.record.key = f.record.key → i = j

/-- R21, R42, R51, R57 and R58 of a table. -/
def EntriesSoundIn (T : StreamTable) : Prop := ∀ i : StreamIndex, ∀ e ∈ T[i], e.Sound

/-- R33 of a table. -/
def SequencesInOrderIn (T : StreamTable) : Prop := ∀ i : StreamIndex, ∀ e ∈ T[i], ∀ st ∈ e.sequence, st.InOrder

/-- An index of a table after a write to one. -/
theorem StreamTable.set_get (T : StreamTable) (i j : StreamIndex) (x : Option StreamEntry) :
    (T.set i x)[j] = if j = i then x else T[j] := by
  by_cases h : j = i
  · subst h; simp
  · have : i.val ≠ j.val := fun he => h (Fin.ext he.symm)
    simp [h, this]

/-- A rewriting keeps the key of its index or brings one that no other index has. -/
theorem Rewrites.key {T : StreamTable} {i : StreamIndex} {e : StreamEntry} (h : Rewrites T i (some e)) :
    (∃ old, T[i] = some old ∧ old.record.key = e.record.key)
      ∨ ∀ j : StreamIndex, ∀ f : StreamEntry, j ≠ i → T[j] = some f → f.record.key ≠ e.record.key := by
  cases h with
  | judged h => exact .inl ⟨_, h, by rw [judgeFrame_record]⟩
  | moved h => exact .inl ⟨_, h, by rw [StreamEntry.withState_record]⟩
  | renewed h => exact .inl ⟨_, h, rfl⟩
  | cleared h => exact .inl ⟨_, h, rfl⟩
  | fresh _ hk => exact .inr hk
  | carried _ _ hk => exact .inr hk

theorem keysUnique_law : TableLaw KeysUniqueIn where
  empty := fun i j e f he => by simp at he
  rewrite := by
    intro T i x h hx
    -- the key at `i` after the rewriting is at no other index
    have hnew : ∀ e, x = some e → ∀ j : StreamIndex, ∀ f : StreamEntry, j ≠ i → T[j] = some f →
        f.record.key ≠ e.record.key := by
      rintro e rfl j f hj hf hkey
      obtain ⟨old, ho, hk⟩ | hk := hx.key
      · exact hj (h j i f old hf ho (hkey.trans hk.symm))
      · exact hk j f hj hf hkey
    intro j k e f he hf hkey
    rw [StreamTable.set_get] at he hf
    by_cases hj : j = i <;> by_cases hk : k = i
    · rw [hj, hk]
    · rw [if_pos hj] at he; rw [if_neg hk] at hf
      exact absurd hkey.symm (hnew e he k f hk hf)
    · rw [if_neg hj] at he; rw [if_pos hk] at hf
      exact absurd hkey (hnew f hf j e hj he)
    · rw [if_neg hj] at he; rw [if_neg hk] at hf
      exact h j k e f he hf hkey

/-- A rewriting of a sound entry, or by a record in range, puts a sound entry. -/
theorem Rewrites.sound {T : StreamTable} {i : StreamIndex} {e : StreamEntry} (hT : EntriesSoundIn T)
    (h : Rewrites T i (some e)) : e.Sound := by
  cases h with
  | judged h => exact judgeFrame_sound (hT i _ h) _ _ _
  | moved h => exact (hT i _ h).withState _ _
  | renewed h => exact (hT i _ h).renew _
  | cleared h =>
    have he := hT i _ h
    exact he
  | fresh hr => exact freshEntry_sound (recordOf_inRange hr) _
  | carried h hr => exact carriedEntry_sound (hT i _ h) (recordOf_inRange hr) _

/-- And one whose accepted set is in its order. -/
theorem Rewrites.inOrder {T : StreamTable} {i : StreamIndex} {e : StreamEntry} (hT : EntriesSoundIn T)
    (ho : SequencesInOrderIn T) (h : Rewrites T i (some e)) : ∀ st ∈ e.sequence, st.InOrder := by
  cases h with
  | judged h => exact judgeFrame_inOrder (hT i _ h) (ho i _ h) _ _ _
  | moved h => exact StreamEntry.withState_inOrder (ho i _ h) _ _
  | renewed h => exact freshSequence_inOrder _
  | cleared h =>
    have he := ho i _ h
    exact he
  | fresh hr => exact freshSequence_inOrder _
  | carried h hr => exact carriedEntry_inOrder (ho i _ h) _ _

/-- Soundness of the entries is a law of the table: a rewriting puts a sound entry or none. -/
theorem entriesSound_law : TableLaw EntriesSoundIn where
  empty := fun i e he => by simp at he
  rewrite := by
    intro T i x h hx j e he
    rw [StreamTable.set_get] at he
    split at he
    · obtain rfl := Option.mem_def.1 he
      exact hx.sound h
    · exact h j e he

theorem sequencesInOrder_law : TableLaw fun T => EntriesSoundIn T ∧ SequencesInOrderIn T where
  empty := ⟨entriesSound_law.empty, fun i e he => by simp at he⟩
  rewrite := by
    rintro T i x ⟨h, ho⟩ hx
    refine ⟨entriesSound_law.rewrite h hx, fun j e he => ?_⟩
    rw [StreamTable.set_get] at he
    split at he
    · obtain rfl := Option.mem_def.1 he
      exact hx.inOrder h ho
    · exact ho j e he

/-- Settles O4: unique keys are a law of the table, because a rewriting keeps its entry's key or brings one that no other
index has (R22, R27). -/
theorem everyStepKeepsKeysUnique : Obligations.EveryStepKeepsKeysUnique :=
  fun _ _ h ht => keysUnique_law.step h ht

/-- Settles O5: soundness of the entries, and with it the order of the accepted sets, are laws of the table. -/
theorem everyStepKeepsEntriesSound : Obligations.EveryStepKeepsEntriesSound :=
  ⟨fun _ _ h ht => entriesSound_law.step h ht, fun _ _ h ho ht => (sequencesInOrder_law.step ⟨h, ho⟩ ht).2⟩

end Sys2Proof.Machine
end

section
/-! SUPPORT. DATA frames at the Stream Table: a hit is judged whole (R23, R39, O27), a miss follows the unlisted policy
(R24, O28). -/

namespace Sys2Proof.Machine

/-! ## Lookup (R23) -/

/-- With unique keys the lookup finds the one entry that has the key. -/
theorem State.find_some {s : State} (hu : s.KeysUnique) {i : StreamIndex} {e : StreamEntry} {k : StreamKey}
    (he : s.entry i = some e) (hk : e.record.key = k) : s.find k = some i := by
  have hi : s.hasKey k i = true := (s.hasKey_iff k i).2 ⟨e, he, hk⟩
  cases hf : s.find k with
  | none => exact absurd hi (List.find?_eq_none.1 hf i (List.mem_finRange i))
  | some j =>
    obtain ⟨g, hg, hgk⟩ := (s.hasKey_iff k j).1 (List.find?_some hf)
    rw [hu i j e g he hg (hk.trans hgk.symm)]

theorem State.find_none {s : State} {k : StreamKey} (h : ∀ i e, s.entry i = some e → e.record.key ≠ k) :
    s.find k = none := by
  refine List.find?_eq_none.2 fun i _ hi => ?_
  obtain ⟨e, he, hk⟩ := (s.hasKey_iff k i).1 hi
  exact h i e he hk

theorem State.classify_hit {s : State} (hu : s.KeysUnique) {p : Port} {f : Frame} {i : StreamIndex} {e : StreamEntry}
    (he : s.entry i = some e) (hk : e.record.key = ⟨p, f.src, f.tag⟩) (arrival : Ticks) :
    s.classify p f arrival = s.hit p f arrival i e := by
  simp only [State.classify, State.find_some hu he hk, he]

theorem State.classify_miss {s : State} {p : Port} {f : Frame}
    (h : ∀ i e, s.entry i = some e → e.record.key ≠ ⟨p, f.src, f.tag⟩) (arrival : Ticks) :
    s.classify p f arrival = s.miss p f := by
  simp only [State.classify, State.find_none h]

/-- A DATA frame that is not for the device goes to the table (R13, R23). -/
theorem State.route_data {s : State} {p : Port} {f : Frame} (hk : f.kind = .data) (hd : f.dest ≠ s.station)
    (arrival : Ticks) : s.route p f arrival = s.classify p f arrival := by
  simp only [State.route, hk, if_neg hd]

/-! ## The received frame -/

theorem State.received_entry (s : State) (p : Port) (i : StreamIndex) : (s.received p).entry i = s.entry i := by
  cases p <;> rfl
theorem State.received_pool (s : State) (p : Port) : (s.received p).pool = s.pool := State.modPort_pool _ _ _
theorem State.received_station (s : State) (p : Port) : (s.received p).station = s.station :=
  State.modPort_station _ _ _
theorem State.received_unlisted (s : State) (p : Port) : ((s.received p).port p).unlisted = (s.port p).unlisted := by
  cases p <;> rfl

/-- Counting a draw only sends. -/
theorem State.freeCount_onlySending (s : State) (n : Nat) : s.OnlySending { s with freeCount := n } :=
  ⟨rfl, rfl, rfl, rfl, rfl, rfl, rfl, rfl, rfl, rfl, rfl, rfl, rfl, .refl _, .refl _⟩

/-- Two orders of things that only send only send. -/
theorem eitherOrder_onlySending {f g : State → State} (s : State) (hf : ∀ x : State, x.OnlySending (f x))
    (hg : ∀ x : State, x.OnlySending (g x)) : s.OnlySending (eitherOrder f g s) :=
  eitherOrder_preserves (P := s.OnlySending)
    (((s.freeCount_onlySending _).trans (hf _)).trans (hg _)) (((s.freeCount_onlySending _).trans (hg _)).trans (hf _))

/-! ## A hit (R23, R54, R58) -/

theorem State.carryOut_onlySending (s : State) (p : Port) (f : Frame) (r : StreamRecord) (x : Fate) :
    s.OnlySending (s.carryOut p f r x) := by
  cases x with
  | passed => exact s.offerFrame_onlySending _ _ _ _
  | demoted q => exact s.offerFrame_onlySending _ _ _ _
  | discarded _ => exact s.returnBlocks_onlySending _

theorem State.carryOut_engine (s : State) (p : Port) (f : Frame) (r : StreamRecord) (x : Fate)
    (h : s.engine.state ≠ .resetting) : (s.carryOut p f r x).engine = s.engine := by
  cases x with
  | passed => exact s.offerFrame_engine _ _ _ _ h
  | demoted q => exact s.offerFrame_engine _ _ _ _ h
  | discarded _ => rfl

/-- A frame that does not trip its entry has its fate carried out after the entry has taken the verdict. -/
theorem State.hit_kept {s : State} {p : Port} {f : Frame} {arrival : Ticks} {i : StreamIndex} {e : StreamEntry}
    {v : Verdict} (hv : v = judgeFrame e f.seq f.size arrival) (ht : v.tripped = false) :
    s.hit p f arrival i e = (s.setEntry i (some v.entry)).carryOut p f e.record v.fate := by
  subst hv
  simp [State.hit, ht]

/-- One that trips it has STREAM_TRIPPED raised as well, in one order or the other. -/
theorem State.hit_trips {s : State} {p : Port} {f : Frame} {arrival : Ticks} {i : StreamIndex} {e : StreamEntry}
    {v : Verdict} (hv : v = judgeFrame e f.seq f.size arrival) (ht : v.tripped = true) :
    s.hit p f arrival i e =
      eitherOrder (fun x => x.carryOut p f e.record v.fate) (fun x => x.raise (.streamTripped i))
        (s.setEntry i (some v.entry)) := by
  subst hv
  simp [State.hit, ht]

section
variable {s : State} {p : Port} {f : Frame} {arrival : Ticks} {i : StreamIndex} {e : StreamEntry} {v : Verdict}
  (hv : v = judgeFrame e f.seq f.size arrival)
include hv

theorem State.hit_onlySending : (s.setEntry i (some v.entry)).OnlySending (s.hit p f arrival i e) := by
  cases ht : v.tripped
  · rw [State.hit_kept hv ht]
    exact State.carryOut_onlySending _ _ _ _ _
  · rw [State.hit_trips hv ht]
    exact eitherOrder_onlySending _ (fun x => x.carryOut_onlySending _ _ _ _) fun x => x.raise_onlySending _

theorem State.hit_engine (h : s.engine.state ≠ .resetting) : (s.hit p f arrival i e).engine = s.engine := by
  have hcarry := fun (x : State) (hx : x.engine = s.engine) =>
    (x.carryOut_engine p f e.record v.fate (by rwa [hx])).trans hx
  have hraise := fun (x : State) (hx : x.engine = s.engine) =>
    (x.raise_engine (.streamTripped i) (by rwa [hx])).trans hx
  cases ht : v.tripped
  · rw [State.hit_kept hv ht]
    exact hcarry _ rfl
  · rw [State.hit_trips hv ht]
    exact eitherOrder_preserves (P := fun t => t.engine = s.engine) (hraise _ (hcarry _ rfl)) (hcarry _ (hraise _ rfl))

end

/-- A forwarded frame is offered to the record's queue, or to the demote queue, of the other port (R54, R52). -/
theorem State.carryOut_forwarded (s : State) (p : Port) (f : Frame) (r : StreamRecord) {x : Fate} {q : QueueNo}
    (h : x = .passed ∧ q = dataQueue r.queue ∨ ∃ d, x = .demoted d ∧ q = dataQueue d) :
    s.carryOut p f r x = s.offerFrame p.other q f .forwarded := by
  obtain ⟨rfl, rfl⟩ | ⟨d, rfl, rfl⟩ := h <;> rfl

/-- Settles O27: the event is the hit of the one entry that has the key, split by fate and by trip. -/
theorem hitsAreJudgedWhole : Obligations.HitsAreJudgedWhole := by
  intro s p bytes f i e v h hk hd hu he hkey hv
  have hroute : (s.received p).route p f s.localTime = (s.received p).hit p f s.localTime i e := by
    rw [State.route_data hk (by rwa [State.received_station]), State.classify_hit ?_ ?_ hkey]
    · intro a b x y hx hy
      rw [State.received_entry] at hx hy
      exact hu a b x y hx hy
    · rwa [State.received_entry]
  have heng := State.hit_engine (s := s.received p) (p := p) (i := i) hv
    (by rw [State.received_engine]; exact h.plain.notResetting)
  refine ⟨_, h.routed hroute (by rw [heng, State.received_engine]), State.hit_onlySending hv, fun reason hfate => ?_,
    fun q hq => ?_⟩
  · refine ⟨fun ht => ?_, fun ht => ?_⟩
    · rw [State.hit_kept hv ht, hfate, ← s.received_pool p]; rfl
    · rw [State.hit_trips hv ht, hfate]
      exact eitherOrder_spec _ _ _
  · refine ⟨fun ht => ?_, fun ht => ?_, fun ht hup hbusy hroom => ?_⟩
    · rw [State.hit_kept hv ht, State.carryOut_forwarded _ _ _ _ hq]
    · simp only [State.hit_trips hv ht, State.carryOut_forwarded _ _ _ _ hq]
      exact eitherOrder_spec _ _ _
    · rw [State.hit_kept hv ht, State.carryOut_forwarded _ _ _ _ hq]
      refine (State.offerFrame_busy _ _ _ _ _ ?_ ?_ ?_).trans ?_
      · cases p <;> exact hup
      · cases p <;> exact hbusy
      · cases p <;> exact hroom
      · cases p <;> rfl

/-! ## A miss (R24) -/

theorem State.unlisted_discard {s : State} {p : Port} (f : Frame) (h : (s.port p).unlisted = .discard) :
    s.unlisted p f =
      ({ s with pool := s.pool + f.blocks } : State).countPort p fun c =>
        { c with unlistedDiscarded := countUp c.unlistedDiscarded } := by
  rw [State.unlisted, h]; rfl

theorem State.unlisted_forward {s : State} {p : Port} (f : Frame) {q : DataQueueNo}
    (h : (s.port p).unlisted = .forward q) :
    s.unlisted p f =
      (s.countPort p fun c => { c with unlistedForwarded := countUp c.unlistedForwarded }).offerFrame p.other
        (dataQueue q) f .forwarded := by
  rw [State.unlisted, h]

/-- The same count at a port makes two states that differ by sending differ by sending. -/
theorem State.OnlySending.countPort {s t : State} (h : s.OnlySending t) (p : Port) (g : PortCounters → PortCounters) :
    (s.countPort p g).OnlySending (t.countPort p g) := by
  have hport : ∀ {P Q : PortState}, P.OnlySending Q →
      ({ P with counters := g P.counters } : PortState).OnlySending { Q with counters := g Q.counters } :=
    fun k => { k with counters := congrArg g k.counters }
  cases p
  · exact { h with portU := hport h.portU }
  · exact { h with portD := hport h.portD }

theorem State.unlisted_engine (s : State) (p : Port) (f : Frame) (h : s.engine.state ≠ .resetting) :
    (s.unlisted p f).engine = s.engine := by
  unfold State.unlisted
  split
  · rw [State.offerFrame_engine _ _ _ _ _ (by rwa [State.countPort_engine]), State.countPort_engine]
  · rw [State.countPort_engine]; rfl

theorem State.miss_engine (s : State) (p : Port) (f : Frame) (h : s.engine.state ≠ .resetting) :
    (s.miss p f).engine = s.engine := by
  have hpolicy := fun (x : State) (hx : x.engine = s.engine) => (x.unlisted_engine p f (by rwa [hx])).trans hx
  have hraise := fun (x : State) (hx : x.engine = s.engine) =>
    (x.raise_engine (.unlistedSeen p) (by rwa [hx])).trans hx
  exact eitherOrder_preserves (P := fun t => t.engine = s.engine) (hraise _ (hpolicy _ rfl)) (hpolicy _ (hraise _ rfl))

/-- What the policy comes to in every state that differs by sending is done before or after UNLISTED_SEEN. -/
theorem State.miss_eitherOrder {s : State} {p : Port} {f : Frame} {policy : State → State}
    (h : ∀ x : State, s.OnlySending x → x.unlisted p f = policy x) :
    s.EitherOrder policy (fun x => x.raise (.unlistedSeen p)) (s.miss p f) := by
  have hdraw := s.freeCount_onlySending (s.freeCount + 1)
  obtain ho | ho := eitherOrder_spec (fun x => x.unlisted p f) (fun x => x.raise (.unlistedSeen p)) s
  · exact .inl (ho.trans (congrArg (fun x : State => x.raise (.unlistedSeen p)) (h _ hdraw)))
  · exact .inr (ho.trans (h _ (hdraw.trans (State.raise_onlySending _ _))))

/-- If the policy is the count `g` and sending, so is the miss. -/
theorem State.miss_onlySending {s : State} {p : Port} {f : Frame} {g : PortCounters → PortCounters}
    (h : ∀ x : State, s.OnlySending x → (s.countPort p g).OnlySending (x.unlisted p f)) :
    (s.countPort p g).OnlySending (s.miss p f) :=
  eitherOrder_preserves (P := (s.countPort p g).OnlySending)
    ((h _ (s.freeCount_onlySending _)).trans (State.raise_onlySending _ _))
    (h _ ((s.freeCount_onlySending _).trans (State.raise_onlySending _ _)))

/-- With the master enable off nothing is listed and nothing sent (R150, R152). -/
theorem State.raise_masterOff (s : State) (e : Event) (h : s.notice.settings.master = false) : s.raise e = s := by
  have hl : s.listEvent e = s := by simp [State.listEvent, NoticeUnit.judge, h]
  rw [State.raise, hl, State.trySend]
  simp [h]

/-- With the master enable off both orders of a miss come to the policy alone. -/
theorem State.EitherOrder.masterOff {s t : State} {policy : State → State} {e : Event}
    (h : s.EitherOrder policy (fun x => x.raise e) t) (hm : s.notice.settings.master = false)
    (hp : (policy { s with freeCount := s.freeCount + 1 }).notice = s.notice) :
    t = policy { s with freeCount := s.freeCount + 1 } := by
  obtain h | h := h
  · exact h.trans (State.raise_masterOff _ _ (by rwa [hp]))
  · exact h.trans (congrArg policy (State.raise_masterOff _ _ hm))

/-- Settles O28: the event is the miss, whose policy is read at the ingress port in either order. -/
theorem missesFollowThePolicy : Obligations.MissesFollowThePolicy := by
  intro s p bytes f h hk hd hnone
  have hroute : (s.received p).route p f s.localTime = (s.received p).miss p f := by
    rw [State.route_data hk (by rwa [State.received_station]), State.classify_miss]
    intro i e he
    rw [State.received_entry] at he
    exact hnone i e he
  have heng := (s.received p).miss_engine p f (by rw [State.received_engine]; exact h.plain.notResetting)
  -- the policy stands through sending, so it can be read at the ingress port of `s`
  have hread : ∀ {x : State}, (s.received p).OnlySending x → (x.port p).unlisted = (s.port p).unlisted :=
    fun hx => ((hx.port p).unlisted).trans (s.received_unlisted p)
  have hdiscard : (s.port p).unlisted = .discard → _ := fun hu => State.miss_eitherOrder (p := p) (f := f) fun x hx =>
    State.unlisted_discard f ((hread hx).trans hu)
  have hforward : ∀ q, (s.port p).unlisted = .forward q → _ := fun q hu =>
    State.miss_eitherOrder (p := p) (f := f) fun x hx => State.unlisted_forward f ((hread hx).trans hu)
  refine ⟨_, h.routed hroute (by rw [heng, State.received_engine]), State.miss_onlySending fun x hx => ?_, hdiscard,
    hforward, fun hm hu => ?_, fun q hm hu hup hbusy hroom => ?_⟩
  · cases hu : (s.port p).unlisted with
    | discard =>
      rw [State.unlisted_discard f ((hread hx).trans hu)]
      exact (hx.trans (x.pool_onlySending _)).countPort p _
    | forward q =>
      rw [State.unlisted_forward f ((hread hx).trans hu)]
      exact (hx.countPort p _).trans (State.offerFrame_onlySending _ _ _ _ _)
  · rw [(hdiscard hu).masterOff (by rwa [State.received, State.modPort_notice])
      (by rw [State.countPort_notice])]
    cases p <;> rfl
  · have hoffer := State.offerFrame_busy
      (({ s.received p with freeCount := (s.received p).freeCount + 1 } : State).countPort p fun c =>
        { c with unlistedForwarded := countUp c.unlistedForwarded }) p.other (dataQueue q) f .forwarded
      (by cases p <;> exact hup) (by cases p <;> exact hbusy) (by cases p <;> exact hroom)
    rw [(hforward q hu).masterOff (by rwa [State.received, State.modPort_notice])
      (by rw [hoffer, State.modQueue_notice, State.countPort_notice]), hoffer]
    cases p <;> rfl

end Sys2Proof.Machine
end

section
/-! SUPPORT. What sends a frame does not look at the engine outside RESETTING (R126), so an answer given at the end of a
purge walk is the answer that R125 gives (R37). -/

namespace Sys2Proof.Machine

/-- The device with this engine. -/
def State.withEngine (s : State) (e : Engine) : State := { s with engine := e }

theorem State.withEngine_port (s : State) (e : Engine) (p : Port) : (s.withEngine e).port p = s.port p := by
  cases p <;> rfl
theorem State.withEngine_queue (s : State) (e : Engine) (p : Port) (q : QueueNo) :
    (s.withEngine e).queue p q = s.queue p q := by
  rw [State.queue, State.withEngine_port]; rfl
theorem State.withEngine_modPort (s : State) (e : Engine) (p : Port) (f : PortState → PortState) :
    (s.withEngine e).modPort p f = (s.modPort p f).withEngine e := by
  cases p <;> rfl
theorem State.withEngine_modQueue (s : State) (e : Engine) (p : Port) (q : QueueNo) (f : Queue → Queue) :
    (s.withEngine e).modQueue p q f = (s.modQueue p q f).withEngine e :=
  s.withEngine_modPort e p _

theorem State.withEngine_judgeOffer (s : State) (e : Engine) (p : Port) (q : QueueNo) (f : Frame) :
    (s.withEngine e).judgeOffer p q f = s.judgeOffer p q f := by
  simp only [State.judgeOffer, State.withEngine_port, State.withEngine_queue]

theorem State.withEngine_headFits (s : State) (e : Engine) (p : Port) :
    (s.withEngine e).headFits p = s.headFits p := by
  funext q
  simp only [State.headFits, State.queueOpen, State.timeRemaining, State.withEngine_port, State.withEngine_queue]
  rfl

/-- An admission puts the frame at the tail, and a selection is tried if its queue is open (R69, R113). -/
theorem State.enqueue_eq (s : State) (p : Port) (q : QueueNo) (f : Frame) (o : Origin) :
    s.enqueue p q f o =
      if (s.plans.activePlan p).opens (s.port p).gate.window q = true then
        (s.modQueue p q fun Q => Q.enqueued f s.timer.index o).trySelect p
      else s.modQueue p q fun Q => Q.enqueued f s.timer.index o := by
  have hopen : ∀ g, (s.modQueue p q g).queueOpen p q = (s.plans.activePlan p).opens (s.port p).gate.window q := by
    intro g
    rw [State.queueOpen, State.modQueue_plans, State.modQueue_port]
  simp only [State.enqueue, hopen]
  rfl

section
variable (s : State) (e : Engine) (hs : s.engine.state ≠ .resetting) (he : e.state ≠ .resetting)
include hs he

theorem State.withEngine_reportDeparture (o : Origin) :
    (s.withEngine e).reportDeparture o = (s.reportDeparture o).withEngine e := by
  rw [State.reportDeparture_eq _ _ hs, State.reportDeparture_eq _ _ he]

theorem State.withEngine_sendHead (p : Port) (q : QueueNo) :
    (s.withEngine e).sendHead p q = (s.sendHead p q).withEngine e := by
  unfold State.sendHead
  rw [State.withEngine_queue]
  split
  · rfl
  · rw [State.withEngine_modQueue, State.setTransmitter, State.withEngine_modPort,
      State.withEngine_reportDeparture _ _ (by simpa using hs) he]
    rfl

theorem State.withEngine_trySelect (p : Port) : (s.withEngine e).trySelect p = (s.trySelect p).withEngine e := by
  unfold State.trySelect State.canSend State.selected
  rw [State.withEngine_port, State.withEngine_headFits]
  split
  · split
    · exact s.withEngine_sendHead e hs he p _
    · rfl
  · rfl

theorem State.withEngine_enqueue (p : Port) (q : QueueNo) (f : Frame) (o : Origin) :
    (s.withEngine e).enqueue p q f o = (s.enqueue p q f o).withEngine e := by
  have hplans : (s.withEngine e).plans = s.plans := rfl
  have htimer : (s.withEngine e).timer = s.timer := rfl
  rw [State.enqueue_eq, State.enqueue_eq, State.withEngine_port, hplans, htimer, State.withEngine_modQueue]
  split
  · exact State.withEngine_trySelect _ e (by rwa [State.modQueue_engine]) he p
  · rfl

theorem State.withEngine_offer (p : Port) (q : QueueNo) (f : Frame) (o : Origin) :
    (s.withEngine e).offer p q f o = (s.offer p q f o).withEngine e := by
  have hcount : ∀ g, ((s.withEngine e).returnBlocks f.blocks).countQueue p q g =
      ((s.returnBlocks f.blocks).countQueue p q g).withEngine e := fun g =>
    State.withEngine_modQueue (s.returnBlocks f.blocks) e p q _
  unfold State.offer
  rw [State.withEngine_judgeOffer]
  split
  · exact hcount _
  · rw [hcount, State.withEngine_reportDeparture _ e (by simpa using hs) he]
  · exact s.withEngine_enqueue e hs he p q f o

theorem State.withEngine_offerNotice (p : Port) (f : Frame) :
    (s.withEngine e).offerNotice p f = (s.offerNotice p f).withEngine e := by
  unfold State.offerNotice
  rw [State.withEngine_judgeOffer, s.withEngine_offer e hs he]
  split <;> rfl

theorem State.withEngine_firstSend (dest : Requester) (x : NoticeEntry) :
    (s.withEngine e).firstSend dest x = (s.firstSend dest x).withEngine e := by
  unfold State.firstSend
  obtain ⟨hb, hs'⟩ | ⟨hb, hs'⟩ := s.takeBlocks_spec noticeBlocks
  · obtain ⟨_, he'⟩ | ⟨hb', _⟩ := (s.withEngine e).takeBlocks_spec noticeBlocks
    · rw [hs', he']
      dsimp only
      symm
      refine (State.withEngine_offerNotice _ e ?_ he _ _).symm
      exact hs
    · exact absurd hb (Nat.not_le_of_lt hb')
  · obtain ⟨hb', _⟩ | ⟨_, he'⟩ := (s.withEngine e).takeBlocks_spec noticeBlocks
    · exact absurd hb' (Nat.not_le_of_lt hb)
    · rw [hs', he']; rfl

theorem State.withEngine_trySend : (s.withEngine e).trySend = s.trySend.withEngine e := by
  have hn : (s.withEngine e).notice = s.notice := rfl
  unfold State.trySend
  rw [hn]
  split
  · rfl
  · split
    · rw [State.withEngine_port]
      split
      · exact s.withEngine_firstSend e hs he _ _
      · rfl
    · rfl

/-- Handing an event to the Notice Unit does not look at the engine. -/
theorem State.withEngine_raise (x : Event) : (s.withEngine e).raise x = (s.raise x).withEngine e :=
  State.withEngine_trySend (s.listEvent x) e hs he

/-- Offering a frame does not look at the engine. -/
theorem State.withEngine_offerFrame (p : Port) (q : QueueNo) (f : Frame) (o : Origin) :
    (s.withEngine e).offerFrame p q f o = (s.offerFrame p q f o).withEngine e := by
  unfold State.offerFrame
  rw [State.withEngine_judgeOffer, s.withEngine_offer e hs he]
  split
  · exact State.withEngine_raise _ e (by rw [s.offer_engine _ _ _ _ hs]; exact hs) he _
  · rfl

end

/-- A reply sent in EXECUTING is the reply sent in any other engine state outside RESETTING (R125). -/
theorem State.Replied.of_executing {u t : State} {r : Request} {payload : List Byte}
    (hu : u.engine.state ≠ .resetting)
    (h : State.Replied { u with engine := { u.engine with state := .executing } } r payload t) :
    u.Replied r payload t where
  sending := (u.engine_onlySending { u.engine with state := .executing } rfl rfl).trans h.sending
  idle := h.idle
  counted := h.counted
  dropped := h.dropped
  offered := by
    rintro hc w rfl
    rw [h.offered hc _ rfl]
    have hcomm := State.withEngine_offerFrame
      (({ u with pool := u.pool - (u.replyFrame r payload).blocks } : State).countManagement fun c => c.replied true)
      { u.engine with state := .executing, counters := u.engine.counters.replied true } hu (by simp)
      r.requester.port 3 (u.replyFrame r payload) (.reply false)
    have heng := State.offerFrame_engine
      (({ u with pool := u.pool - (u.replyFrame r payload).blocks } : State).countManagement fun c => c.replied true)
      r.requester.port 3 (u.replyFrame r payload) (.reply false) hu
    rw [heng]
    exact congrArg (fun w : State => { w with engine := { w.engine with state := .idle } }) hcomm
  queued := h.queued

/-- An answer given in EXECUTING answers from any other engine state outside RESETTING (R125). -/
theorem State.answered_of_executing {u : State} (hu : u.engine.state ≠ .resetting) (r : Request) (a : Answer) :
    u.Answered r a.status a.results
      ((({ u with engine := { u.engine with state := .executing } } : State).answer r a).endTake) :=
  State.Replied.of_executing (u := u.storeReply r (replyBytes r a.status a.results)) hu
    (State.answer_answered { u with engine := { u.engine with state := .executing } } r a rfl)

end Sys2Proof.Machine
end

section
/-! SUPPORT. The requests of the Stream Table that change an entry's state (O53), the purge walk (O54), and the settings
(O55). -/

namespace Sys2Proof.Machine

/-! ## Step 6 of a take (R120, R138): what the take leaves as it was -/

section
variable (s : State) (r : Request) (rest : List Request)

@[simp] theorem State.atStep6_table : (s.atStep6 r rest).table = s.table := State.renewLease_table _ _
@[simp] theorem State.atStep6_localTime : (s.atStep6 r rest).localTime = s.localTime := State.renewLease_localTime _ _
@[simp] theorem State.atStep6_timer : (s.atStep6 r rest).timer = s.timer := State.renewLease_timer _ _
@[simp] theorem State.atStep6_beat : (s.atStep6 r rest).beat = s.beat := State.renewLease_beat _ _
@[simp] theorem State.atStep6_plans : (s.atStep6 r rest).plans = s.plans := State.renewLease_plans _ _
@[simp] theorem State.atStep6_entry (i : StreamIndex) : (s.atStep6 r rest).entry i = s.entry i := by
  rw [State.entry, State.atStep6_table]; rfl
@[simp] theorem State.atStep6_port (p : Port) : (s.atStep6 r rest).port p = s.port p := by
  cases p
  · exact State.renewLease_portU _ _
  · exact State.renewLease_portD _ _
@[simp] theorem State.atStep6_queue (p : Port) (q : QueueNo) : (s.atStep6 r rest).queue p q = s.queue p q := by
  rw [State.queue, State.atStep6_port]; rfl

/-- The state byte of an entry at step 6 is that before the take. -/
theorem State.atStep6_stateByte (i : StreamIndex) :
    (s.atStep6 r rest).stateByte i = entryStateByte ((s.entry i).map StreamEntry.state) := by
  rw [State.stateByte, State.atStep6_entry]

end

/-- A change of the table leaves the engine in EXECUTING. -/
theorem State.atStep6_setEntry_state (s : State) (r : Request) (rest : List Request) (i : StreamIndex)
    (x : Option StreamEntry) : ((s.atStep6 r rest).setEntry i x).engine.state = .executing := by
  rw [State.setEntry_engine, State.atStep6_state]

/-! ## STREAM_CLEAR, STREAM_STATE and STREAM_RESET (R31, R32, R60) -/

theorem flagOf_iff (b : Byte) : flagOf b = true ↔ b ≠ 0 := bne_iff_ne

/-- The state byte of an entry that is not FREE (section 11.2). -/
theorem entryStateByte_some (x : EntryState) :
    entryStateByte (some x) =
      match x with
      | .enabled => 0x01
      | .blocked => 0x02
      | .tripped => 0x03 := by
  cases x <;> rfl

/-- An entry after its check state has been renewed (R60). -/
theorem StreamEntry.renew_eq (e : StreamEntry) (now : Ticks) :
    e.renew now =
      { e with
        state := if e.state = .blocked then .blocked else .enabled
        sequence := e.record.sequence.map fun _ => ⟨none, []⟩
        cadence := e.record.cadence.map fun _ => ⟨none⟩
        meter := e.record.meter.map fun m => ⟨m.depth, now⟩
        score := e.record.trip.map fun _ => 0 } := by
  unfold StreamEntry.renew
  cases hs : e.state <;> rfl

/-- An entry after STREAM_STATE has requested BLOCKED: the score of a TRIPPED one is set to 0 (R32). -/
theorem StreamEntry.withState_blocked_eq (e : StreamEntry) (now : Ticks) :
    e.withState .blocked now =
      { e with
        state := .blocked
        score := if e.state = .tripped then e.score.map fun _ => 0 else e.score } := by
  by_cases h : e.state = .tripped
  · rw [e.withState_blocked now h, if_pos h]
  · rw [e.withState_of_ne .blocked now h, if_neg h]; rfl

/-- An entry after STREAM_STATE has requested ENABLED: a TRIPPED one is renewed (R32). -/
theorem StreamEntry.withState_enabled_eq (e : StreamEntry) (now : Ticks) :
    e.withState .enabled now =
      if e.state = .tripped then
        { e with
          state := .enabled
          sequence := e.record.sequence.map fun _ => ⟨none, []⟩
          cadence := e.record.cadence.map fun _ => ⟨none⟩
          meter := e.record.meter.map fun m => ⟨m.depth, now⟩
          score := e.record.trip.map fun _ => 0 }
      else { e with state := .enabled } := by
  by_cases h : e.state = .tripped
  · rw [e.withState_enabled now h, if_pos h, e.renew_eq, h]; rfl
  · rw [e.withState_of_ne .enabled now h, if_neg h]; rfl

section
variable {s : State} {r : Request} {rest : List Request} {i : StreamIndex} (hi : i = (byteAt r.operands 0).toFin)
include hi

theorem serveStreamState_free (h : s.entry i = none) {w : WrittenState} (hw : byteAt r.operands 1 = w.code) :
    serveStreamState r (s.atStep6 r rest) = (s.atStep6 r rest, some ⟨.notFound, []⟩) := by
  subst hi
  simp only [serveStreamState, writtenStateOf_eq_some.2 hw, indexOf, State.atStep6_entry, h]

theorem serveStreamState_entry {e : StreamEntry} (h : s.entry i = some e) {w : WrittenState}
    (hw : byteAt r.operands 1 = w.code) :
    serveStreamState r (s.atStep6 r rest) =
      ((s.atStep6 r rest).setEntry i (some (e.withState w s.localTime)),
        some ⟨.ok, [entryStateByte (some e.state)]⟩) := by
  subst hi
  simp only [serveStreamState, writtenStateOf_eq_some.2 hw, indexOf, State.atStep6_entry, h,
    State.atStep6_localTime, State.atStep6_stateByte, Option.map_some]

theorem serveStreamReset_free (h : s.entry i = none) :
    serveStreamReset r (s.atStep6 r rest) = (s.atStep6 r rest, some ⟨.notFound, []⟩) := by
  subst hi
  simp only [serveStreamReset, indexOf, State.atStep6_entry, h]

theorem serveStreamReset_entry {e : StreamEntry} (h : s.entry i = some e) :
    serveStreamReset r (s.atStep6 r rest) =
      ((s.atStep6 r rest).setEntry i (some
          { e.renew s.localTime with
            counters := if byteAt r.operands 1 = 0 then e.counters else StreamCounters.zero }),
        some ⟨.ok, [entryStateByte (some e.state)]⟩) := by
  subst hi
  simp only [serveStreamReset, indexOf, State.atStep6_entry, h, State.atStep6_localTime, State.atStep6_stateByte,
    Option.map_some]
  by_cases hf : byteAt r.operands 1 = 0
  · rw [if_neg fun h => (flagOf_iff _).1 h hf, if_pos hf]; rfl
  · rw [if_pos ((flagOf_iff _).2 hf), if_neg hf]

end

/-- Settles O53: step 6 of each of the three requests, by the operand and the entry. -/
theorem streamStatesChange : Obligations.StreamStatesChange := by
  intro s r rest i hi
  have hx := fun x => s.atStep6_setEntry_state r rest i x
  have hx0 := s.atStep6_state r rest
  refine ⟨fun h => ?_, fun h => ⟨fun h1 h2 => ?_, fun hb he => ?_, fun e he hb => ?_, fun e he hb => ?_⟩,
    fun h => ⟨fun he => ?_, fun e he => ?_⟩⟩
  · have hs : serveStreamClear r (s.atStep6 r rest) =
        ((s.atStep6 r rest).setEntry i none, some ⟨.ok, [entryStateByte ((s.entry i).map StreamEntry.state)]⟩) := by
      rw [hi, serveStreamClear, State.atStep6_stateByte]; rfl
    exact h.event hs (hx none)
  · have hs : serveStreamState r (s.atStep6 r rest) = (s.atStep6 r rest, some ⟨.badValue, []⟩) := by
      simp only [serveStreamState, writtenStateOf_eq_none.2 ⟨h1, h2⟩]
    exact h.event hs hx0
  · obtain hb | hb := hb
    · exact h.event (serveStreamState_free hi he (w := .enabled) hb) hx0
    · exact h.event (serveStreamState_free hi he (w := .blocked) hb) hx0
  · have hs := serveStreamState_entry (rest := rest) hi he (w := .enabled) hb
    rw [e.withState_enabled_eq, entryStateByte_some] at hs
    exact h.event hs (hx _)
  · have hs := serveStreamState_entry (rest := rest) hi he (w := .blocked) hb
    rw [e.withState_blocked_eq, entryStateByte_some] at hs
    exact h.event hs (hx _)
  · exact h.event (serveStreamReset_free hi he) hx0
  · have hs := serveStreamReset_entry (rest := rest) hi he
    rw [e.renew_eq, entryStateByte_some] at hs
    exact h.event hs (hx _)

/-! ## The purge walk (R35, R37) -/

/-- A take whose step 6 leaves the request unanswered and the engine neither EXECUTING nor due for a unit reset ends with
its effect (R124). -/
theorem State.Taking.event_unanswered {s u : State} {o : Op} {r : Request} {rest : List Request}
    {serve : Request → State → Served} (h : s.Taking o r rest) (hs : serve r (s.atStep6 r rest) = (u, none))
    (hx : u.engine.state ≠ .executing) (hd : u.engine.state ≠ .resetDue) :
    runEvent s (fun s => s.takeRequest (some o) serve) = .next u := by
  have hs' : serve r ((s.takeHead r rest).renewLease r.requester) = (u, none) := hs
  have hc := h.screened
  rw [h.code] at hc
  have ht : s.takeRequest (some o) serve = u := by
    unfold State.takeRequest
    rw [h.idle, h.head]
    simp only [h.code, if_true]
    unfold State.handle
    rw [hc]
    simp only [hs']
    exact if_neg hx
  rw [runEvent_running _ _ h.running, ht, State.settle_eq _ hd]

/-- The table after a visit: the entry is FREE if it holds the purged source (R35). -/
def State.visited (s : State) (source : Half) (i : StreamIndex) : State :=
  if s.hasSource source i then s.setEntry i none else s

theorem State.visited_engine (s : State) (source : Half) (i : StreamIndex) :
    (s.visited source i).engine = s.engine := by
  unfold State.visited
  split <;> rfl

section
variable {s : State} {r : Request} {source : Half} {i : StreamIndex} {n : Nat} {taken : Ticks}
  (h : s.engine.state = .purging r source i n taken)
include h

/-- A visit before the last goes on to the next entry. -/
theorem State.visitNext_next {j : StreamIndex} (hj : i.val + 1 = j.val) :
    s.visitNext =
      { s.visited source i with
        engine :=
          { s.engine with
            state := .purging r source j (if s.hasSource source i then n + 1 else n) taken } } := by
  have hlt : i.val + 1 < 256 := hj ▸ j.isLt
  have he : (⟨i.val + 1, hlt⟩ : StreamIndex) = j := Fin.ext hj
  rw [← s.visited_engine source i, ← he]
  simp only [State.visitNext, h, hlt, dif_pos]
  rfl

/-- The visit of entry 255 completes the walk with its reply (R37). -/
theorem State.visitNext_last (hi : i = 255) :
    s.visitNext =
      (({ s.visited source i with engine := { (s.visited source i).engine with state := .executing } } : State).answer r
        ⟨.ok, beBytes 2 (if s.hasSource source i then n + 1 else n)⟩).endTake := by
  have hge : ¬ i.val + 1 < 256 := by rw [hi]; decide
  simp only [State.visitNext, h, hge, dif_neg, not_false_eq_true]
  rfl

end

/-- A visit while no walk runs is no event (log entry 8). -/
theorem State.visitNext_none (s : State) (h : ∀ r source i n taken, s.engine.state ≠ .purging r source i n taken) :
    s.visitNext = s := by
  unfold State.visitNext
  split
  · rename_i hp; exact absurd hp (h _ _ _ _ _)
  · rfl

/-- Settles O54: the take by its source, and each visit by whether it is the last. -/
theorem purgesWalkTheTable : Obligations.PurgesWalkTheTable := by
  refine ⟨fun s r rest h => ⟨fun hb => ?_, fun h0 hF => ?_⟩,
    fun s hp => ⟨fun r source i n taken h => ⟨fun j hj => ?_, fun hi => ?_⟩, fun hno => ?_⟩⟩
  · have hsrc : isStation (fieldAt r.operands 0 2) = false := by rw [isStation_eq_false]; omega
    have hs : serveStreamPurge r (s.atStep6 r rest) = (s.atStep6 r rest, some ⟨.badValue, []⟩) := by
      simp [serveStreamPurge, hsrc]
    exact h.event hs (s.atStep6_state r rest)
  · have hlt := fieldAt_two_lt r.operands 0
    have hsrc : isStation (fieldAt r.operands 0 2) = true := by rw [isStation_iff]; omega
    refine h.event_unanswered ?_ ?_ ?_
    · simp only [serveStreamPurge, hsrc, if_true, State.atStep6_localTime]
    · simp
    · simp
  · have hv := State.visitNext_next h hj
    have hev : exec .purgeVisit s = .next s.visitNext := by
      show runEvent s State.visitNext = _
      rw [runEvent_running _ _ hp.running, State.settle_eq _ (by rw [hv]; simp)]
    rw [hev, hv]
    unfold State.visited
    split <;> rfl
  · have hu : (s.visited source i).engine.state ≠ .resetting := by rw [State.visited_engine]; exact hp.notResetting
    have ha := State.answered_of_executing hu r
      ⟨.ok, beBytes 2 (if s.hasSource source i then n + 1 else n)⟩
    rw [← State.visitNext_last h hi] at ha
    refine ⟨s.visitNext, ?_, ha⟩
    show runEvent s State.visitNext = _
    rw [runEvent_running _ _ hp.running, State.settle_eq _ (by rw [ha.idle]; decide)]
  · exact (hp.event (effect := State.visitNext) (by rw [s.visitNext_none hno])).trans (by rw [s.visitNext_none hno])

/-! ## UNLISTED_SET, QUEUE_SET and BEAT_SET (R38, R77, R93) -/

/-- The bytes that name an unlisted policy: DISCARD's queue byte is not read (R38, R172). -/
theorem unlistedOf_eq_some {b q : Byte} {x : UnlistedPolicy} :
    unlistedOf b q = some x ↔
      b = 0x01 ∧ x = .discard ∨ b = 0x00 ∧ ∃ k : DataQueueNo, q.toNat = k.val ∧ x = .forward k := by
  unfold unlistedOf
  split_ifs with h0 h1
  · simp only [h0, Option.map_eq_some_iff, dataQueueOf_eq_some]
    simp [eq_comm]
  · simp [h1, eq_comm]
  · simp only [false_iff]
    rintro (⟨hb, _⟩ | ⟨hb, _⟩)
    · exact h1 hb
    · exact h0 hb

theorem unlistedOf_eq_none {b q : Byte} : unlistedOf b q = none ↔ 1 < b.toNat ∨ b = 0x00 ∧ 2 < q.toNat := by
  have hb0 : b = 0 ↔ b.toNat = 0 := byte_eq_iff _ _
  have hb1 : b = 1 ↔ b.toNat = 1 := byte_eq_iff _ _
  unfold unlistedOf
  simp only [hb0, hb1]
  split_ifs with h0 h1
  · simp [h0, dataQueueOf_eq_none]
  · simp [h1]
  · simp only [true_iff]; omega

/-- The bytes that name a source of BEAT_SET (R93). -/
theorem sourceOf_eq_some {b : Byte} {x : Option Port} :
    sourceOf b = some x ↔ b = 0xFF ∧ x = none ∨ ∃ p, b = portByte p ∧ x = some p := by
  unfold sourceOf
  split_ifs with h
  · have hp : ∀ p, b ≠ portByte p := by
      rintro p rfl
      cases p <;> exact absurd h (by decide)
    constructor
    · exact fun hx => .inl ⟨h, (Option.some_inj.1 hx).symm⟩
    · rintro (⟨_, rfl⟩ | ⟨p, hb, _⟩)
      · rfl
      · exact absurd hb (hp p)
  · rw [Option.map_eq_some_iff]
    simp only [portOf_eq_some]
    constructor
    · rintro ⟨p, hb, rfl⟩; exact .inr ⟨p, hb, rfl⟩
    · rintro (⟨hb, _⟩ | ⟨p, hb, rfl⟩)
      · exact absurd hb h
      · exact ⟨p, hb, rfl⟩

theorem sourceOf_eq_none {b : Byte} : sourceOf b = none ↔ 2 ≤ b.toNat ∧ b.toNat ≤ 254 := by
  have hb : b = 0xFF ↔ b.toNat = 255 := byte_eq_iff _ _
  have := b.isLt
  unfold sourceOf
  simp only [hb]
  split_ifs with h
  · simp [h]
  · simp only [Option.map_eq_none_iff, portOf_eq_none]; omega

theorem State.acceptsTolerance_iff (s : State) (tb : Nat) :
    s.acceptsTolerance tb = true ↔
      100 ≤ tb ∧ tb ≤ 100000 ∧ 4 * tb ≤ s.timer.length
        ∧ (s.plans.commitPending = true → 4 * tb ≤ (s.plans.stagedPlan .u).cycleLength) := by
  cases h : s.plans.commitPending <;> simp [State.acceptsTolerance, h, and_assoc]

section
variable {s : State} {r : Request} {rest : List Request}

theorem serveUnlistedSet_set {p : Port} {x : UnlistedPolicy} (hp : byteAt r.operands 0 = portByte p)
    (hx : unlistedOf (byteAt r.operands 1) (byteAt r.operands 2) = some x) :
    serveUnlistedSet r (s.atStep6 r rest) =
      ((s.atStep6 r rest).modPort p fun P => { P with unlisted := x },
        some ⟨.ok, (s.port p).unlisted.bytes ++ x.bytes⟩) := by
  simp only [serveUnlistedSet, portOf_eq_some.2 hp, hx, State.atStep6_port]

theorem serveUnlistedSet_refused
    (h : portOf (byteAt r.operands 0) = none ∨ unlistedOf (byteAt r.operands 1) (byteAt r.operands 2) = none) :
    serveUnlistedSet r s = (s, some ⟨.badValue, []⟩) := by
  unfold serveUnlistedSet
  split
  · rename_i hp hx
    simp [hp, hx] at h
  · rfl

theorem serveQueueSet_set {p : Port} {q : QueueNo} {limit age : Nat} (hlimit : fieldAt r.operands 2 2 = limit)
    (hage : fieldAt r.operands 4 2 = age) (hp : byteAt r.operands 0 = portByte p)
    (hq : (byteAt r.operands 1).toNat = q.val) (h1 : 1 ≤ limit) (h2 : limit ≤ 512) (h3 : age ≤ 1000) :
    serveQueueSet r (s.atStep6 r rest) =
      ((s.atStep6 r rest).modQueue p q fun Q => { Q with limit := limit, ageLimit := age },
        some ⟨.ok, beBytes 2 (s.queue p q).limit ++ beBytes 2 (s.queue p q).ageLimit⟩) := by
  simp only [serveQueueSet, portOf_eq_some.2 hp, queueOf_eq_some.2 hq, hlimit, hage, State.atStep6_queue]
  rw [if_pos]
  simp [h1, h2, h3]

theorem serveQueueSet_refused
    (h : portOf (byteAt r.operands 0) = none ∨ queueOf (byteAt r.operands 1) = none ∨ fieldAt r.operands 2 2 = 0
      ∨ 512 < fieldAt r.operands 2 2 ∨ 1000 < fieldAt r.operands 4 2) :
    serveQueueSet r s = (s, some ⟨.badValue, []⟩) := by
  unfold serveQueueSet
  dsimp only
  split
  · rename_i hp hq
    rw [hp, hq] at h
    simp only [reduceCtorEq, false_or] at h
    rw [if_neg]
    simp only [Bool.and_eq_true, decide_eq_true_eq]
    omega
  · rfl

theorem serveBeatSet_set {source : Option Port} {tb : Nat} (htb : fieldAt r.operands 1 4 = tb)
    (hsrc : sourceOf (byteAt r.operands 0) = some source) (hacc : s.acceptsTolerance tb = true) :
    serveBeatSet r (s.atStep6 r rest) =
      ({ s.atStep6 r rest with beat := s.beat.set source tb },
        some ⟨.ok, [portOrNone s.beat.source] ++ beBytes 4 s.beat.tolerance ++ [s.beat.state.code]⟩) := by
  have hacc' : (s.atStep6 r rest).acceptsTolerance tb = true := by
    rw [State.acceptsTolerance_iff] at hacc ⊢
    simpa using hacc
  simp only [serveBeatSet, hsrc, htb, hacc', if_true, State.atStep6_beat]

theorem serveBeatSet_refused {tb : Nat} (htb : fieldAt r.operands 1 4 = tb)
    (h : sourceOf (byteAt r.operands 0) = none ∨ s.acceptsTolerance tb = false) :
    serveBeatSet r (s.atStep6 r rest) = (s.atStep6 r rest, some ⟨.badValue, []⟩) := by
  have hacc : (s.atStep6 r rest).acceptsTolerance tb = s.acceptsTolerance tb := by
    simp [State.acceptsTolerance]
  simp only [serveBeatSet, htb, hacc]
  split
  · rename_i hsrc
    rw [hsrc] at h
    simp only [reduceCtorEq, false_or] at h
    simp [h]
  · rfl

end

/-- Settles O55: each of the three settings is set or refused by its operands' ranges. -/
theorem settingsAreReplaced : Obligations.SettingsAreReplaced := by
  intro s r rest
  have hx0 := s.atStep6_state r rest
  refine ⟨fun h => ⟨fun p x hp hx => ?_, fun hbad => ?_⟩,
    fun h limit age hlimit hage => ⟨fun p q hp hq h1 h2 h3 => ?_, fun hbad => ?_⟩,
    fun h tb htb => ⟨fun source hsrc h1 h2 h3 h4 => ?_, fun hbad => ?_⟩⟩
  · exact h.event (serveUnlistedSet_set hp (unlistedOf_eq_some.2 hx)) (by rw [State.modPort_engine, hx0])
  · refine h.event (serveUnlistedSet_refused ?_) hx0
    rwa [portOf_eq_none, unlistedOf_eq_none]
  · exact h.event (serveQueueSet_set hlimit hage hp hq h1 h2 h3) (by rw [State.modQueue_engine, hx0])
  · refine h.event (serveQueueSet_refused ?_) hx0
    rwa [portOf_eq_none, queueOf_eq_none, hlimit, hage]
  · have hs := serveBeatSet_set (s := s) (rest := rest) htb (sourceOf_eq_some.2 hsrc)
      ((s.acceptsTolerance_iff tb).2 ⟨h1, h2, h3, h4⟩)
    have hset : s.beat.set source tb =
        { s.beat with
          state := if source = none then .free else .seeking
          source := source
          tolerance := tb
          faultCount := 0
          missCount := 0
          lastError := none } := by
      cases source <;> rfl
    rw [hset] at hs
    exact h.event hs hx0
  · refine h.event (serveBeatSet_refused htb ?_) hx0
    rw [sourceOf_eq_none, ← Bool.not_eq_true, State.acceptsTolerance_iff]
    cases hc : s.plans.commitPending
    · simp only [hc, Bool.false_eq_true, false_and, false_implies, or_false, and_true] at hbad ⊢
      omega
    · simp only [hc, true_and, forall_const] at hbad ⊢
      omega

end Sys2Proof.Machine
end

section
/-! SUPPORT. The record layout both ways (R173), the reads of the Stream Table (O49), and STREAM_WRITE (O52). -/

namespace Sys2Proof.Machine

/-! ## The bytes of a record are read as that record (R21, R173) -/

/-- The bytes of the sequence part. -/
def sequenceBytes : Option Nat → List Byte
  | some w => [BitVec.ofNat 8 w]
  | none => []

/-- The bytes of the cadence part. -/
def cadenceBytes : Option CadencePart → List Byte
  | some c => beBytes 4 c.interval ++ beBytes 4 c.tolerance ++ [c.early.code]
  | none => []

/-- The bytes of the meter part. -/
def meterBytes : Option MeterPart → List Byte
  | some m => [BitVec.ofNat 8 m.fill] ++ beBytes 2 m.depth ++ m.action.bytes
  | none => []

/-- The bytes of the trip part. -/
def tripBytes : Option Nat → List Byte
  | some l => [BitVec.ofNat 8 l]
  | none => []

/-! The fixed part of a record's bytes, in the order of section 11.2, and the optional parts behind it. -/

section
variable (x : StreamRecord)

theorem StreamRecord.bytes_state : byteAt x.bytes 0 = x.state.code := rfl
theorem StreamRecord.bytes_port : byteAt x.bytes 1 = portByte x.key.port := rfl
theorem StreamRecord.bytes_source : fieldAt x.bytes 2 2 = x.key.source.toNat := natOfBytes_half _
theorem StreamRecord.bytes_tag : fieldAt x.bytes 4 2 = x.key.tag.toNat := natOfBytes_half _
theorem StreamRecord.bytes_queue : byteAt x.bytes 6 = BitVec.ofNat 8 x.queue.val := rfl
theorem StreamRecord.bytes_marks :
    byteAt x.bytes 7 = marksByte x.sequence.isSome x.cadence.isSome x.meter.isSome x.trip.isSome := rfl
theorem StreamRecord.bytes_parts :
    x.bytes.drop 8 =
      sequenceBytes x.sequence ++ (cadenceBytes x.cadence ++ (meterBytes x.meter ++ tripBytes x.trip)) := by
  rw [← List.append_assoc, ← List.append_assoc]; rfl

end

/-- Each mark is the bit of its part, and the upper four are clear (section 11.2). -/
theorem marksByte_bits (a b c d : Bool) :
    (marksByte a b c d).getLsbD 0 = a ∧ (marksByte a b c d).getLsbD 1 = b ∧ (marksByte a b c d).getLsbD 2 = c
      ∧ (marksByte a b c d).getLsbD 3 = d ∧ (marksByte a b c d).toNat < 16 := by
  revert a b c d; decide

theorem byte_toNat_of_lt {n : Nat} (h : n < 256) : (BitVec.ofNat 8 n).toNat = n := by
  rw [BitVec.toNat_ofNat]; exact Nat.mod_eq_of_lt h

/-! Each part's bytes, whatever stands behind them, are read as that part, and as many as its presence says. -/

theorem sequenceBytes_length (x : Option Nat) : (sequenceBytes x).length = if x.isSome then 1 else 0 := by
  cases x <;> rfl
theorem cadenceBytes_length (x : Option CadencePart) : (cadenceBytes x).length = if x.isSome then 9 else 0 := by
  cases x <;> rfl
theorem meterBytes_length (x : Option MeterPart) : (meterBytes x).length = if x.isSome then 5 else 0 := by
  cases x with
  | none => rfl
  | some m => cases h : m.action <;> simp [meterBytes, beBytes_length, MeterAction.bytes, h]

theorem sequencePartOf_bytes {w : Nat} (h : 1 ≤ w ∧ w ≤ 32) (rest : List Byte) :
    sequencePartOf (sequenceBytes (some w) ++ rest) = some w :=
  sequencePartOf_eq_some.2 ⟨byte_toNat_of_lt (by omega), h⟩

theorem cadencePartOf_bytes {c : CadencePart}
    (h : 1000 ≤ c.interval ∧ c.interval ≤ 10000000 ∧ c.tolerance ≤ c.interval / 2) (rest : List Byte) :
    cadencePartOf (cadenceBytes (some c) ++ rest) = some c := by
  have hi : natOfBytes (beBytes 4 c.interval) = c.interval := by rw [natOfBytes_beBytes]; omega
  have ht : natOfBytes (beBytes 4 c.tolerance) = c.tolerance := by rw [natOfBytes_beBytes]; omega
  exact cadencePartOf_eq_some.2 ⟨hi, ht, rfl, h⟩

theorem meterPartOf_bytes {m : MeterPart} (h : 1 ≤ m.fill ∧ m.fill ≤ 128 ∧ 16 ≤ m.depth ∧ m.depth ≤ 65535)
    (rest : List Byte) : meterPartOf (meterBytes (some m) ++ rest) = some m := by
  obtain ⟨h1, h2, h3, h4⟩ := h
  have hd : natOfBytes (beBytes 2 m.depth) = m.depth := by rw [natOfBytes_beBytes]; omega
  refine meterPartOf_eq_some.2 ⟨byte_toNat_of_lt (by omega), hd, meterActionOf_eq_some.2 ?_, h1, h2, h3⟩
  obtain ⟨fill, depth, action⟩ := m
  cases action with
  | discard => rfl
  | demote q => exact ⟨rfl, byte_toNat_of_lt (by omega)⟩

theorem tripPartOf_bytes {l : Nat} (h : 1 ≤ l ∧ l ≤ 255) (rest : List Byte) :
    tripPartOf (tripBytes (some l) ++ rest) = some l :=
  tripPartOf_eq_some.2 ⟨byte_toNat_of_lt (by omega), h.1⟩

/-- The bytes of a record in range are read as that record. -/
theorem recordOf_bytes {x : StreamRecord} (h : x.InRange) : recordOf x.bytes = some x := by
  obtain ⟨⟨hs1, hs2, htag⟩, hseq, hcad, hmet, htrip⟩ := h
  obtain ⟨b0, b1, b2, b3, hmarks⟩ :=
    marksByte_bits x.sequence.isSome x.cadence.isSome x.meter.isSome x.trip.isSome
  -- where the parts stand, by the lengths of those before
  have hc : x.bytes.drop (8 + if x.sequence.isSome then 1 else 0) =
      cadenceBytes x.cadence ++ (meterBytes x.meter ++ tripBytes x.trip) := by
    rw [← List.drop_drop, x.bytes_parts, ← sequenceBytes_length, List.drop_left]
  have hm : x.bytes.drop ((8 + if x.sequence.isSome then 1 else 0) + if x.cadence.isSome then 9 else 0) =
      meterBytes x.meter ++ tripBytes x.trip := by
    rw [← List.drop_drop, hc, ← cadenceBytes_length, List.drop_left]
  have hl : x.bytes.drop (((8 + if x.sequence.isSome then 1 else 0) + if x.cadence.isSome then 9 else 0)
      + if x.meter.isSome then 5 else 0) = tripBytes x.trip := by
    rw [← List.drop_drop, hm, ← meterBytes_length, List.drop_left]
  refine (recordOf_eq_some rfl rfl rfl).2 ⟨?_, ?_, ?_, ?_, ?_, ?_, ?_, ?_⟩
  · exact writtenStateOf_eq_some.2 x.bytes_state
  · rw [x.bytes_source, x.bytes_tag]
    exact keyOf_eq_some.2 ⟨x.bytes_port, rfl, rfl, hs1, hs2, htag⟩
  · rw [x.bytes_queue]
    exact dataQueueOf_eq_some.2 (byte_toNat_of_lt (by omega))
  all_goals rw [x.bytes_marks]
  · rw [b0, x.bytes_parts]
    exact partOf_eq_some.2 ⟨rfl, fun w hw => by rw [hw]; exact sequencePartOf_bytes (hseq w hw) _⟩
  · rw [b0, b1, hc]
    exact partOf_eq_some.2 ⟨rfl, fun c hy => by rw [hy]; exact cadencePartOf_bytes (hcad c hy) _⟩
  · rw [b0, b1, b2, hm]
    exact partOf_eq_some.2 ⟨rfl, fun m hy => by rw [hy]; exact meterPartOf_bytes (hmet m hy) _⟩
  · rw [b0, b1, b2, b3, hl, ← List.append_nil (tripBytes x.trip)]
    exact partOf_eq_some.2 ⟨rfl, fun l hy => by rw [hy]; exact tripPartOf_bytes (htrip l hy) _⟩
  · exact hmarks

/-! ## The order of the accepted set (R33) -/

/-- The distance below H as a number. -/
theorem distance_toNat (h m : Half) : (h - m).toNat = (h.toNat + 65536 - m.toNat) % 65536 := by bv_omega

/-- A sound set in its order has H first, because only H has distance 0. -/
theorem SequenceState.head_eq {w : Nat} {h : Half} {l : List Half} (hs : SequenceState.Sound w ⟨some h, l⟩)
    (ho : SequenceState.InOrder ⟨some h, l⟩) : ∃ below, l = h :: below := by
  obtain ⟨hmem, _⟩ := hs
  have hord := ho h rfl
  cases l with
  | nil => cases hmem
  | cons a below =>
    obtain rfl | hin := List.mem_cons.1 hmem
    · exact ⟨below, rfl⟩
    · have hlt := (List.pairwise_cons.1 hord).1 h hin
      rw [distance_self] at hlt
      omega

/-- Behind H the members follow by ascending distance, each within the window. -/
theorem SequenceState.below_ascends {w : Nat} {h : Half} {below : List Half}
    (hs : SequenceState.Sound w ⟨some h, h :: below⟩) (ho : SequenceState.InOrder ⟨some h, h :: below⟩) :
    below.length < w
      ∧ ∀ (before : List Half) (m : Half) (after : List Half), below = before ++ m :: after →
          0 < (h - m).toNat ∧ (h - m).toNat < w ∧ ∀ n ∈ after, (h - m).toNat < (h - n).toNat := by
  obtain ⟨_, _, hlen, hwin⟩ := hs
  obtain ⟨hfirst, hrest⟩ := List.pairwise_cons.1 (ho h rfl)
  refine ⟨by simpa using hlen, ?_⟩
  rintro before m after rfl
  have hm : m ∈ before ++ m :: after := List.mem_append_right _ List.mem_cons_self
  have hpos := hfirst m hm
  rw [distance_self] at hpos
  exact ⟨hpos, hwin m (List.mem_cons_of_mem _ hm),
    (List.pairwise_cons.1 (List.pairwise_append.1 hrest).2.1).1⟩

/-! ## STREAM_READ and STREAM_FIND (R33, R34) -/

/-- H in the layout of STREAM_READ: presence byte, then the value, zeros when absent (R173). -/
theorem optionBytes_half (x : Option Half) :
    optionBytes 2 (x.map BitVec.toNat) =
      match x with
      | some h => 0x01 :: beBytes 2 h.toNat
      | none => [0x00, 0x00, 0x00] := by
  cases x <;> rfl

/-- A take with its results written in another way. -/
theorem State.Taking.event_results {s u : State} {o : Op} {r : Request} {rest : List Request} {status : Status}
    {results shown : List Byte} {serve : Request → State → Served} (h : s.Taking o r rest)
    (hs : serve r (s.atStep6 r rest) = (u, some ⟨status, results⟩)) (hu : u.engine.state = .executing)
    (hshown : results = shown) :
    ∃ t, runEvent s (fun s => s.takeRequest (some o) serve) = .next t ∧ u.Answered r status shown t :=
  hshown ▸ h.event hs hu

section
variable {s : State} {r : Request} {rest : List Request}

theorem serveStreamRead_eq :
    serveStreamRead r (s.atStep6 r rest) =
      (s.atStep6 r rest, some ⟨.ok, readResults (s.entry (byteAt r.operands 0).toFin)⟩) := by
  rw [serveStreamRead, State.atStep6_entry]; rfl

theorem State.atStep6_find (k : StreamKey) : (s.atStep6 r rest).find k = s.find k := by
  have hk : (s.atStep6 r rest).hasKey k = s.hasKey k := by
    funext i
    simp only [State.hasKey, State.atStep6_entry]
  rw [State.find, hk]; rfl

theorem serveStreamFind_refused
    (h : keyOf (byteAt r.operands 0) (fieldAt r.operands 1 2) (fieldAt r.operands 3 2) = none) :
    serveStreamFind r s = (s, some ⟨.badValue, []⟩) := by
  simp only [serveStreamFind, h]

variable {k : StreamKey} (hk : keyOf (byteAt r.operands 0) (fieldAt r.operands 1 2) (fieldAt r.operands 3 2) = some k)
include hk

theorem serveStreamFind_found {i : StreamIndex} {e : StreamEntry} (hf : s.find k = some i) (he : s.entry i = some e) :
    serveStreamFind r (s.atStep6 r rest) =
      (s.atStep6 r rest, some ⟨.ok, [BitVec.ofNat 8 i.val, entryStateByte (some e.state)]⟩) := by
  simp only [serveStreamFind, hk, State.atStep6_find, hf, State.atStep6_stateByte, he, Option.map_some]

theorem serveStreamFind_missing (hf : s.find k = none) :
    serveStreamFind r (s.atStep6 r rest) = (s.atStep6 r rest, some ⟨.notFound, (s.port k.port).unlisted.bytes⟩) := by
  simp only [serveStreamFind, hk, State.atStep6_find, hf, State.atStep6_port]

end

/-- Settles O49: the record by its layout, the set by its order, and step 6 of the two requests. -/
theorem streamReadsReport : Obligations.StreamReadsReport := by
  refine ⟨fun x hx => recordOf_bytes hx, fun e w st he hw hst => ?_, fun s r rest => ?_⟩
  · obtain ⟨_, _, _, _, _, hseq, _⟩ := he
    have hs := hseq w hw st hst
    obtain ⟨highest, l⟩ := st
    refine ⟨fun hn => ?_, fun h hh ho => ?_⟩
    · obtain rfl : highest = none := hn
      exact hs
    · obtain rfl : highest = some h := hh
      obtain ⟨below, rfl⟩ := SequenceState.head_eq hs ho
      obtain ⟨hlen, hasc⟩ := SequenceState.below_ascends hs ho
      simp only [distance_toNat] at hasc
      exact ⟨below, rfl, hlen, hasc⟩
  · have hx0 := s.atStep6_state r rest
    refine ⟨fun h => ⟨fun he => ?_, fun e he => ?_⟩,
      fun h => ⟨fun hbad => ?_, fun k hp hsrc htag h1 h2 h3 => ?_⟩⟩
    · have hs := serveStreamRead_eq (s := s) (r := r) (rest := rest)
      rw [he] at hs
      exact h.event hs hx0
    · have hs := serveStreamRead_eq (s := s) (r := r) (rest := rest)
      rw [he] at hs
      refine h.event_results hs hx0 ?_
      simp only [readResults, entryStateByte_some, StreamEntry.dynamicBytes, counterBytes, StreamCounters.members,
        List.flatMap_cons, List.flatMap_nil, List.append_nil, List.append_assoc, optionBytes_half] <;> rfl
    · refine h.event (serveStreamFind_refused ?_) hx0
      rwa [keyOf_eq_none (fieldAt_two_lt _ _)]
    · have hkey := keyOf_eq_some.2 ⟨hp, hsrc, htag, hsrc ▸ h1, hsrc ▸ h2, htag ▸ h3⟩
      refine ⟨fun i e hu he hk => ?_, fun hno => ?_⟩
      · have hs := serveStreamFind_found (rest := rest) hkey (State.find_some hu he hk) he
        rw [entryStateByte_some] at hs
        exact h.event hs hx0
      · exact h.event (serveStreamFind_missing (rest := rest) hkey (State.find_none hno)) hx0

end Sys2Proof.Machine
end

section
/-! SUPPORT. STREAM_WRITE (R27 to R30, O52): which bytes are refused, where each field is read from, and what the write
makes of its entry. -/

namespace Sys2Proof.Machine

/-! ## The bytes of a record operand (R21, R172) -/

section
variable {bs : List Byte} {c m l : Nat} (hc : c = 8 + (if (byteAt bs 7).getLsbD 0 then 1 else 0))
  (hm : m = c + (if (byteAt bs 7).getLsbD 1 then 9 else 0)) (hl : l = m + (if (byteAt bs 7).getLsbD 2 then 5 else 0))
include hc hm hl

/-- The bytes that are refused, field by field. -/
theorem recordOf_refuses :
    recordOf bs = none ↔
      byteAt bs 0 ≠ 0x01 ∧ byteAt bs 0 ≠ 0x02
        ∨ 1 < (byteAt bs 1).toNat
        ∨ fieldAt bs 2 2 = 0 ∨ fieldAt bs 2 2 = 0xFFFF ∨ 4095 < fieldAt bs 4 2
        ∨ 2 < (byteAt bs 6).toNat
        ∨ 15 < (byteAt bs 7).toNat
        ∨ (byteAt bs 7).getLsbD 0 = true ∧ (byteAt bs 8 = 0 ∨ 32 < (byteAt bs 8).toNat)
        ∨ (byteAt bs 7).getLsbD 1 = true ∧ (fieldAt bs c 4 < 1000 ∨ 10000000 < fieldAt bs c 4
          ∨ fieldAt bs c 4 / 2 < fieldAt bs (c + 4) 4 ∨ 1 < (byteAt bs (c + 8)).toNat)
        ∨ (byteAt bs 7).getLsbD 2 = true ∧ (byteAt bs m = 0 ∨ 128 < (byteAt bs m).toNat ∨ fieldAt bs (m + 1) 2 < 16
          ∨ 1 < (byteAt bs (m + 3)).toNat ∨ byteAt bs (m + 3) = 1 ∧ 2 < (byteAt bs (m + 4)).toNat)
        ∨ (byteAt bs 7).getLsbD 3 = true ∧ byteAt bs l = 0 := by
  rw [recordOf_eq_none hc hm hl, writtenStateOf_eq_none, keyOf_eq_none (fieldAt_two_lt _ _), dataQueueOf_eq_none]
  simp only [partOf_eq_none, sequencePartOf_eq_none, cadencePartOf_eq_none, meterPartOf_eq_none, tripPartOf_eq_none,
    byteAt_drop, fieldAt_drop, Nat.add_zero, or_assoc]

/-- Where each field of a record is read from. -/
theorem recordOf_reads {x : StreamRecord} (h : recordOf bs = some x) :
    byteAt bs 0 = (if x.state = .enabled then 0x01 else 0x02) ∧ byteAt bs 1 = portByte x.key.port
      ∧ fieldAt bs 2 2 = x.key.source.toNat ∧ fieldAt bs 4 2 = x.key.tag.toNat ∧ (byteAt bs 6).toNat = x.queue.val
      ∧ (byteAt bs 7).getLsbD 0 = x.sequence.isSome ∧ (byteAt bs 7).getLsbD 1 = x.cadence.isSome
      ∧ (byteAt bs 7).getLsbD 2 = x.meter.isSome ∧ (byteAt bs 7).getLsbD 3 = x.trip.isSome
      ∧ (∀ w, x.sequence = some w → w = (byteAt bs 8).toNat)
      ∧ (∀ y, x.cadence = some y → y.interval = fieldAt bs c 4 ∧ y.tolerance = fieldAt bs (c + 4) 4
          ∧ byteAt bs (c + 8) = if y.early = .count then 0x00 else 0x01)
      ∧ (∀ y, x.meter = some y → y.fill = (byteAt bs m).toNat ∧ y.depth = fieldAt bs (m + 1) 2
          ∧ match y.action with
            | .discard => byteAt bs (m + 3) = 0x00
            | .demote q => byteAt bs (m + 3) = 0x01 ∧ (byteAt bs (m + 4)).toNat = q.val)
      ∧ ∀ y, x.trip = some y → y = (byteAt bs l).toNat := by
  obtain ⟨hstate, hkey, hqueue, hseq, hcad, hmet, htrip, _⟩ := (recordOf_eq_some hc hm hl).1 h
  obtain ⟨hport, hsrc, htag, _⟩ := keyOf_eq_some.1 hkey
  obtain ⟨hseq0, hseq⟩ := partOf_eq_some.1 hseq
  obtain ⟨hcad0, hcad⟩ := partOf_eq_some.1 hcad
  obtain ⟨hmet0, hmet⟩ := partOf_eq_some.1 hmet
  obtain ⟨htrip0, htrip⟩ := partOf_eq_some.1 htrip
  refine ⟨?_, hport, hsrc, htag, dataQueueOf_eq_some.1 hqueue, hseq0, hcad0, hmet0, htrip0, fun w hw => ?_,
    fun y hy => ?_, fun y hy => ?_, fun y hy => ?_⟩
  · rw [writtenStateOf_eq_some.1 hstate]
    cases x.state <;> rfl
  · rw [← (sequencePartOf_eq_some.1 (hseq w hw)).1, byteAt_drop]
  · obtain ⟨hi, ht, he, _⟩ := cadencePartOf_eq_some.1 (hcad y hy)
    rw [fieldAt_drop] at hi ht
    rw [byteAt_drop] at he
    refine ⟨hi.symm, ht.symm, he.trans ?_⟩
    cases y.early <;> rfl
  · obtain ⟨hf, hd, ha, _⟩ := meterPartOf_eq_some.1 (hmet y hy)
    rw [byteAt_drop] at hf
    rw [fieldAt_drop] at hd
    rw [byteAt_drop, byteAt_drop, meterActionOf_eq_some] at ha
    exact ⟨hf.symm, hd.symm, ha⟩
  · rw [← (tripPartOf_eq_some.1 (htrip y hy)).1, byteAt_drop]; rfl

end

/-! ## The entry that a write makes (R28, R29, R30) -/

theorem WrittenState.toEntry_eq (w : WrittenState) : w.toEntry = if w = .enabled then .enabled else .blocked := by
  cases w <;> rfl

/-- The entry of a write without keep-state: fresh checks and counters 0 (R28). -/
theorem freshEntry_eq (x : StreamRecord) (now : Ticks) :
    freshEntry x now =
      { state := if x.state = .enabled then .enabled else .blocked
        record := x
        sequence := x.sequence.map fun _ => ⟨none, []⟩
        cadence := x.cadence.map fun _ => ⟨none⟩
        meter := x.meter.map fun m => ⟨m.depth, now⟩
        score := x.trip.map fun _ => 0
        counters := ⟨0, 0, 0, 0, 0, 0, 0, 0, 0⟩ } := by
  rw [freshEntry, WrittenState.toEntry_eq]; rfl

/-- The old state is kept where the flag is set, the entry not FREE and its key the new one (R29). -/
theorem keptEntry_eq_some {keep : Bool} {old : StreamEntry} {r : StreamRecord} (hkeep : keep = true)
    (hk : old.record.key = r.key) : keptEntry keep (some old) r = some old := by
  simp [keptEntry, hkeep, hk]

theorem keptEntry_eq_none {keep : Bool} {entry : Option StreamEntry} {r : StreamRecord}
    (h : keep = false ∨ entry = none ∨ ∃ old, entry = some old ∧ old.record.key ≠ r.key) :
    keptEntry keep entry r = none := by
  obtain rfl | rfl | ⟨old, rfl, hk⟩ := h
  · cases entry <;> simp [keptEntry]
  · rfl
  · simp [keptEntry, hk]

/-- A narrowed set keeps H, and those members that lie in the new window (R29). -/
theorem narrow_spec (w : Nat) (st : SequenceState) :
    ∃ l, narrow w st = ⟨st.highest, l⟩ ∧ l.Sublist st.accepted
      ∧ ∀ m, m ∈ l ↔ m ∈ st.accepted ∧ ∀ h, st.highest = some h → (h.toNat + 65536 - m.toNat) % 65536 < w := by
  obtain ⟨highest, l⟩ := st
  cases highest with
  | none => exact ⟨l, rfl, .refl _, fun m => by simp⟩
  | some h =>
    refine ⟨withinWindow w h l, rfl, List.filter_sublist, fun m => ?_⟩
    simp only [withinWindow, List.mem_filter, decide_eq_true_eq, distance_toNat, Option.some_inj]
    exact and_congr_right fun _ => ⟨fun hlt _ hh => hh ▸ hlt, fun hall => hall h rfl⟩

theorem marksByte_eq (a b c d : Bool) :
    marksByte a b c d =
      BitVec.ofNat 8 ((if a then 1 else 0) + (if b then 2 else 0) + (if c then 4 else 0) + (if d then 8 else 0)) := by
  revert a b c d; decide

/-- The carried-checks byte: one bit for each check that both records have, the trip check's only if the entry was not
TRIPPED (R30, log entry 13). -/
theorem carriedByte_eq (old : StreamEntry) (x : StreamRecord) :
    carriedByte old x =
      BitVec.ofNat 8 ((if old.sequence.isSome ∧ x.sequence.isSome then 1 else 0)
        + (if old.cadence.isSome ∧ x.cadence.isSome then 2 else 0)
        + (if old.meter.isSome ∧ x.meter.isSome then 4 else 0)
        + (if old.score.isSome ∧ x.trip.isSome ∧ old.state ≠ .tripped then 8 else 0)) := by
  rw [carriedByte, marksByte_eq]
  simp only [carriesScore, Bool.and_eq_true, bne_iff_ne, ne_eq, and_assoc]

/-! ## Step 6 of STREAM_WRITE (R27) -/

section
variable {s : State} {r : Request} {rest : List Request} {i : StreamIndex} (hi : i = (byteAt r.operands 0).toFin)

theorem serveStreamWrite_refused (h : recordOf (r.operands.drop 2) = none) :
    serveStreamWrite r s = (s, some ⟨.badValue, []⟩) := by
  simp only [serveStreamWrite, h]

variable {x : StreamRecord} (hx : recordOf (r.operands.drop 2) = some x)
include hi hx

theorem serveStreamWrite_duplicate (hd : ∃ j e, j ≠ i ∧ s.entry j = some e ∧ e.record.key = x.key) :
    serveStreamWrite r (s.atStep6 r rest) = (s.atStep6 r rest, some ⟨.duplicateKey, []⟩) := by
  subst hi
  have hk : (s.atStep6 r rest).keyElsewhere (indexOf (byteAt r.operands 0)) x.key = true := by
    rw [State.keyElsewhere_iff]
    simpa only [State.atStep6_entry, indexOf] using hd
  simp only [serveStreamWrite, hx, hk, if_true]

variable (hd : ∀ j e, j ≠ i → s.entry j = some e → e.record.key ≠ x.key)
include hd

omit hx in
/-- Where no other index has the key, none has it at step 6. -/
theorem State.atStep6_keyElsewhere : (s.atStep6 r rest).keyElsewhere (indexOf (byteAt r.operands 0)) x.key = false := by
  subst hi
  rw [State.keyElsewhere_eq_false]
  simpa only [State.atStep6_entry, indexOf] using hd

theorem serveStreamWrite_fresh (hk : keptEntry (flagOf (byteAt r.operands 1)) (s.entry i) x = none) :
    serveStreamWrite r (s.atStep6 r rest) =
      ((s.atStep6 r rest).setEntry i (some (freshEntry x s.localTime)),
        some ⟨.ok, [byteAt r.operands 0, 0x00, 0x00]⟩) := by
  have hno := State.atStep6_keyElsewhere (rest := rest) hi hd
  subst hi
  simp only [serveStreamWrite, hx, hno, Bool.false_eq_true, if_false, State.atStep6_entry, State.atStep6_localTime]
  simp only [indexOf, hk]

theorem serveStreamWrite_carried {old : StreamEntry}
    (hk : keptEntry (flagOf (byteAt r.operands 1)) (s.entry i) x = some old) :
    serveStreamWrite r (s.atStep6 r rest) =
      ((s.atStep6 r rest).setEntry i (some (carriedEntry old x s.localTime)),
        some ⟨.ok, [byteAt r.operands 0, 0x01, carriedByte old x]⟩) := by
  have hno := State.atStep6_keyElsewhere (rest := rest) hi hd
  subst hi
  simp only [serveStreamWrite, hx, hno, Bool.false_eq_true, if_false, State.atStep6_entry, State.atStep6_localTime]
  simp only [indexOf, hk]

end

/-- Settles O52: the record operand field by field, then step 6 by its two refusals and by whether the old state is
kept. -/
theorem streamWritesReplaceTheEntry : Obligations.StreamWritesReplaceTheEntry := by
  refine ⟨fun bs c m l hc hm hl => ⟨recordOf_refuses hc hm hl, fun x hx =>
    ⟨recordOf_inRange hx, recordOf_reads hc hm hl hx⟩⟩, fun s r rest i h hi => ?_⟩
  have hset := fun e => s.atStep6_setEntry_state r rest i e
  refine ⟨fun hbad => h.event (serveStreamWrite_refused hbad) (s.atStep6_state r rest), fun x hx =>
    ⟨fun hdup => h.event (serveStreamWrite_duplicate hi hx hdup) (s.atStep6_state r rest), fun hnew =>
      ⟨fun hfresh => ?_, fun hflag old hold hkey => ?_⟩⟩⟩
  · have hk : keptEntry (flagOf (byteAt r.operands 1)) (s.entry i) x = none :=
      keptEntry_eq_none (hfresh.imp_left fun h0 => by rw [h0]; rfl)
    have hs := serveStreamWrite_fresh (rest := rest) hi hx hnew hk
    rw [freshEntry_eq] at hs
    exact h.event hs (hset _)
  · have hk : keptEntry (flagOf (byteAt r.operands 1)) (s.entry i) x = some old :=
      hold ▸ keptEntry_eq_some ((flagOf_iff _).2 hflag) hkey
    have hs := serveStreamWrite_carried (rest := rest) hi hx hnew hk
    rw [carriedByte_eq] at hs
    obtain ⟨t, ht, ha⟩ := h.event hs (hset _)
    refine ⟨t, carriedEntry old x s.localTime, ht, ha, rfl, rfl, x.state.toEntry_eq, fun w st hw hst => ?_,
      fun w hw hst => ?_, fun hw => ?_, carriedEntry_cadence _ _ _, fun m st hm hst => ?_, fun m hm hst => ?_,
      fun hm => ?_, carriedEntry_score _ _ _⟩
    · obtain ⟨l, hl, hsub, hmem⟩ := narrow_spec w st
      refine ⟨l, ?_, hsub, hmem⟩
      rw [carriedEntry_sequence, hw, hst, ← hl]; rfl
    · rw [carriedEntry_sequence, hw, hst]; rfl
    · rw [carriedEntry_sequence, hw]; rfl
    · rw [carriedEntry_meter, hm, hst]; rfl
    · rw [carriedEntry_meter, hm, hst]; rfl
    · rw [carriedEntry_meter, hm]; rfl

end Sys2Proof.Machine
end

section
/-! SUPPORT. The conformance checks step by step (chapter 3): what each step of the series finds and what it leaves of the
entry (R39 to R59; O29 to O32). -/

namespace Sys2Proof.Machine

/-! ## The sequence step (R43) -/

section
variable {e : StreamEntry} {f : Findings} {s h : Half} {w : Nat} {st : SequenceState}
  (hw : e.record.sequence = some w) (hst : e.sequence = some st)
include hw hst

theorem sequenceStep_first (hh : st.highest = none) :
    sequenceStep s ⟨e, f⟩ = ⟨e, { f with case := .first }⟩ := by
  simp only [sequenceStep, hw, hst, hh]

variable (hh : st.highest = some h)
include hh

theorem sequenceStep_duplicate (hin : inWindow w (distance s h) = true) (hold : s ∈ st.accepted) :
    sequenceStep s ⟨e, f⟩ = ⟨e, { f with fate := some (.discarded .duplicate) }⟩ := by
  simp only [sequenceStep, hw, hst, hh, hin, hold, if_true, Judging.discard, Bool.or_false]

theorem sequenceStep_outOfOrder (hin : inWindow w (distance s h) = true) (hnew : s ∉ st.accepted) :
    sequenceStep s ⟨e, f⟩ = ⟨e, { f with case := .outOfOrder }⟩ := by
  simp only [sequenceStep, hw, hst, hh, hin, hnew, if_true, if_false]

theorem sequenceStep_ahead (hout : inWindow w (distance s h) = false) (hd : distance s h ≤ 32767) :
    sequenceStep s ⟨e, f⟩ = ⟨e, { f with case := .ahead (distance s h) }⟩ := by
  simp only [sequenceStep, hw, hst, hh, hout, hd, Bool.false_eq_true, if_true, if_false]

theorem sequenceStep_late (hout : inWindow w (distance s h) = false) (hd : ¬ distance s h ≤ 32767) :
    sequenceStep s ⟨e, f⟩ = ⟨e, { f with fate := some (.discarded .late), violation := true }⟩ := by
  simp only [sequenceStep, hw, hst, hh, hout, hd, Bool.false_eq_true, if_false, Judging.discard, Bool.or_true]

end

/-- The case that the sequence step finds says what learning needs to know of the state (R43, R55). -/
theorem sequenceStep_fits {e : StreamEntry} {s : Half} {w : Nat} {st : SequenceState}
    (hw : e.record.sequence = some w) (hst : e.sequence = some st) (hr : 1 ≤ w ∧ w ≤ 32) :
    (sequenceStep s ⟨e, Findings.start⟩).found.case.Fits w s st := by
  cases hh : st.highest with
  | none => rw [sequenceStep_first hw hst hh]; exact hh
  | some h =>
    have hwin := inWindow_iff hr s h
    cases hin : inWindow w (distance s h) with
    | true =>
      by_cases hold : s ∈ st.accepted
      · rw [sequenceStep_duplicate hw hst hh hin hold]; trivial
      · rw [sequenceStep_outOfOrder hw hst hh hin hold]
        exact ⟨h, hh, hwin.1 hin, hold⟩
    | false =>
      by_cases hd : distance s h ≤ 32767
      · rw [sequenceStep_ahead hw hst hh hin hd]
        exact ⟨h, hh, rfl, hd, Nat.le_of_not_lt fun hlt => by simp [hwin.2 hlt] at hin⟩
      · rw [sequenceStep_late hw hst hh hin hd]; trivial

/-! ## The cadence step (R47 to R49) -/

section
variable {e : StreamEntry} {f : Findings} {part : CadencePart} {st : CadenceState} {now : Ticks}
  (hpart : e.record.cadence = some part) (hst : e.cadence = some st)
include hpart hst

theorem cadenceStep_onTime (ht : isEarly part st now = false) :
    cadenceStep now ⟨e, f⟩ = ⟨{ e with cadence := some ⟨some now⟩ }, f⟩ := by
  simp only [cadenceStep, hpart, hst, ht, Bool.false_eq_true, if_false]

theorem cadenceStep_early (ht : isEarly part st now = true) :
    cadenceStep now ⟨e, f⟩ = ⟨{ e with cadence := some ⟨some now⟩ },
      if part.early = .discard then { f with fate := some (.discarded .early), violation := true }
      else { f with violation := true }⟩ := by
  simp only [cadenceStep, hpart, hst, ht, if_true, Judging.discard]
  cases part.early <;> simp

end

/-- R47: early is less than I - T after a last arrival that is present. -/
theorem isEarly_iff {part : CadencePart} {st : CadenceState} {now : Ticks} :
    isEarly part st now = true ↔ ∃ last, st.lastArrival = some last ∧ now - last < part.interval - part.tolerance := by
  unfold isEarly
  cases st.lastArrival <;> simp

/-! ## The meter step (R50 to R53) -/

/-- The multiples of 1,024 after one time and not after another are the difference of the two quotients. -/
theorem multiplesAfter_length (last now : Nat) :
    ((List.range (now + 1)).filter fun t => t % 1024 = 0 ∧ last < t).length = now / 1024 - last / 1024 := by
  induction now with
  | zero => simp
  | succ n ih =>
    rw [List.range_succ, List.filter_append, List.length_append, ih, List.filter_singleton]
    by_cases hm : (n + 1) % 1024 = 0 ∧ last < n + 1
    · simp only [hm, and_self, decide_true, cond_true, List.length_singleton]
      omega
    · simp only [hm, decide_false, cond_false, List.length_nil]
      omega

/-- Accrual earns the fill once for each of these multiples (R50). -/
theorem accrue_eq (part : MeterPart) (st : MeterState) (now : Ticks) :
    accrue part st now = min part.depth
      (st.tokens + part.fill * ((List.range (now + 1)).filter fun t => t % 1024 = 0 ∧ st.lastUpdate < t).length) := by
  rw [multiplesAfter_length, accrue]

section
variable {e : StreamEntry} {f : Findings} {part : MeterPart} {st : MeterState} {bytes now : Nat}
  (hpart : e.record.meter = some part) (hst : e.meter = some st)
include hpart hst

theorem meterStep_conforming (hle : bytes ≤ accrue part st now) :
    meterStep bytes now ⟨e, f⟩ = ⟨{ e with meter := some ⟨accrue part st now - bytes, now⟩ }, f⟩ := by
  simp only [meterStep, hpart, hst, hle, if_true]

variable (hlt : accrue part st now < bytes)
include hlt

theorem meterStep_demote {q : DataQueueNo} (ha : part.action = .demote q) :
    meterStep bytes now ⟨e, f⟩ = ⟨{ e with meter := some ⟨accrue part st now, now⟩ },
      { f with fate := some (.demoted q), violation := true }⟩ := by
  simp only [meterStep, hpart, hst, Nat.not_le.2 hlt, if_false, ha]

theorem meterStep_discard (ha : part.action = .discard) :
    meterStep bytes now ⟨e, f⟩ = ⟨{ e with meter := some ⟨accrue part st now, now⟩ },
      { f with fate := some (.discarded .meter), violation := true }⟩ := by
  simp only [meterStep, hpart, hst, Nat.not_le.2 hlt, if_false, ha, Judging.discard, Bool.or_true]

end

/-! ## What the steps leave of the entry (R39) -/

theorem stateStep_entry (j : Judging) : (stateStep j).entry = j.entry := by
  unfold stateStep
  split <;> rfl

theorem sequenceStep_entry (s : Half) (j : Judging) : (sequenceStep s j).entry = j.entry := by
  unfold sequenceStep
  dsimp only
  repeat' split
  all_goals rfl

theorem cadenceStep_entry (now : Ticks) (j : Judging) :
    ∃ c, (cadenceStep now j).entry = { j.entry with cadence := c } := by
  unfold cadenceStep
  dsimp only
  repeat' split
  all_goals exact ⟨_, rfl⟩

theorem meterStep_entry (bytes : Nat) (now : Ticks) (j : Judging) :
    ∃ m, (meterStep bytes now j).entry = { j.entry with meter := m } := by
  unfold meterStep
  dsimp only
  repeat' split
  all_goals exact ⟨_, rfl⟩

theorem Judging.andThen_discarded {j : Judging} {r : DiscardReason} (h : j.found.fate = some (.discarded r))
    (step : Judging → Judging) : j.andThen step = j := by
  simp only [Judging.andThen, h]

theorem Judging.andThen_goingOn {j : Judging} (h : j.GoingOn) (step : Judging → Judging) :
    j.andThen step = step j := by
  unfold Judging.andThen
  split
  · rename_i r hr; exact absurd hr (h r)
  · rfl

theorem Judging.discarded_or_goingOn (j : Judging) : (∃ r, j.found.fate = some (.discarded r)) ∨ j.GoingOn := by
  by_cases h : ∃ r, j.found.fate = some (.discarded r)
  · exact .inl h
  · exact .inr fun r hr => h ⟨r, hr⟩

/-- The two clauses of R39 name the judging after a step: a discard stands, and otherwise the step is taken. -/
theorem Judging.eq_andThen {j k : Judging} {step : Judging → Judging}
    (hcut : ∀ r, j.found.fate = some (.discarded r) → k = j) (hgo : j.GoingOn → k = step j) : k = j.andThen step := by
  obtain ⟨r, hr⟩ | hg := j.discarded_or_goingOn
  · rw [hcut r hr, Judging.andThen_discarded hr]
  · rw [hgo hg, Judging.andThen_goingOn hg]

theorem Judging.andThen_entry {P : StreamEntry → Prop} {j : Judging} {step : Judging → Judging} (hcut : P j.entry)
    (hgo : P (step j).entry) : P (j.andThen step).entry := by
  obtain ⟨r, hr⟩ | hg := j.discarded_or_goingOn
  · rwa [Judging.andThen_discarded hr]
  · rwa [Judging.andThen_goingOn hg]

/-- The steps before the outcome step change nothing of the entry but its cadence state and its meter state. -/
theorem findings_entry (e : StreamEntry) (s : Half) (bytes : Nat) (now : Ticks) :
    ∃ c m, (findings e s bytes now).entry = { e with cadence := c, meter := m } := by
  have hsort : ((stateStep ⟨e, Findings.start⟩).andThen (sequenceStep s)).entry = e :=
    Judging.andThen_entry (P := (· = e)) (stateStep_entry _) ((sequenceStep_entry s _).trans (stateStep_entry _))
  have hcad : ∀ j : Judging, ∃ c, (j.andThen (cadenceStep now)).entry = { j.entry with cadence := c } := fun j =>
    j.andThen_entry (P := fun x => ∃ c, x = { j.entry with cadence := c }) ⟨_, rfl⟩ (cadenceStep_entry now j)
  have hmet : ∀ j : Judging, ∃ m, (j.andThen (meterStep bytes now)).entry = { j.entry with meter := m } := fun j =>
    j.andThen_entry (P := fun x => ∃ m, x = { j.entry with meter := m }) ⟨_, rfl⟩ (meterStep_entry bytes now j)
  obtain ⟨c, hc⟩ := hcad ((stateStep ⟨e, Findings.start⟩).andThen (sequenceStep s))
  obtain ⟨m, hm⟩ := hmet (((stateStep ⟨e, Findings.start⟩).andThen (sequenceStep s)).andThen (cadenceStep now))
  exact ⟨c, m, by rw [findings, hm, hc, hsort]⟩

/-! ## The outcome step (R54 to R59) -/

@[simp] theorem StreamCounters.countFate_gap (c : StreamCounters) (x : Fate) : (c.countFate x).gap = c.gap := by
  rcases x with _ | _ | r
  · rfl
  · rfl
  · cases r <;> rfl

section
variable {s : Half} {j : Judging}

theorem outcomeStep_gap_forwarded (hf : j.found.outcome.isForwarded = true) :
    (outcomeStep s j).counters.gap = countBy j.entry.counters.gap (gapOf j.found.case) := by
  simp only [outcomeStep, hf, if_true, StreamCounters.countFate_gap]

theorem outcomeStep_gap_discarded (hf : j.found.outcome.isForwarded = false) :
    (outcomeStep s j).counters.gap = j.entry.counters.gap := by
  simp only [outcomeStep, hf, Bool.false_eq_true, if_false, StreamCounters.countFate_gap]

/-- But for the gap, the outcome step counts the frame's fate alone (R59). -/
theorem outcomeStep_counters_exceptGap (g : Nat) :
    { (outcomeStep s j).counters with gap := g } = { j.entry.counters.countFate j.found.outcome with gap := g } := by
  simp only [outcomeStep]
  split <;> rfl

theorem outcomeStep_sequence_discarded (hf : j.found.outcome.isForwarded = false) :
    (outcomeStep s j).sequence = j.entry.sequence := by
  simp only [outcomeStep, hf, Bool.false_eq_true, if_false]

theorem outcomeStep_sequence_forwarded (hf : j.found.outcome.isForwarded = true) {w : Nat} {st : SequenceState}
    (hw : j.entry.record.sequence = some w) (hst : j.entry.sequence = some st) :
    (outcomeStep s j).sequence = some (learn w s j.found.case st) := by
  simp only [outcomeStep, hf, if_true, hw, hst]

theorem outcomeStep_sequence_none (h : j.entry.sequence = none) : (outcomeStep s j).sequence = none := by
  simp [outcomeStep, h]

theorem outcomeStep_scored {limit score : Nat} (hl : j.entry.record.trip = some limit)
    (hsc : j.entry.score = some score) : (outcomeStep s j).score = some (scoreAfter limit score j.found) := by
  simp only [outcomeStep, hl, hsc]

theorem outcomeStep_unscored (hl : j.entry.record.trip = none) : (outcomeStep s j).score = j.entry.score := by
  simp only [outcomeStep, hl]

theorem outcomeStep_state_eq : (outcomeStep s j).state = if trips j.entry j.found then .tripped else j.entry.state := rfl

end

/-- A sound sequence state holds at most W members (R42). -/
theorem SequenceState.Sound.length_le {w : Nat} {st : SequenceState} (hs : st.Sound w) : st.accepted.length ≤ w := by
  cases hh : st.highest with
  | none => simp only [SequenceState.Sound, hh] at hs; simp [hs]
  | some h =>
    simp only [SequenceState.Sound, hh] at hs
    obtain ⟨_, _, hlen, _⟩ := hs
    exact hlen

/-- What holds of the state that a frame finds and of the one it teaches holds of what the outcome step leaves. -/
theorem outcomeStep_sequence_of {P : SequenceState → Prop} {s : Half} {j : Judging} {w : Nat}
    {st after : SequenceState} (hw : j.entry.record.sequence = some w) (hst : j.entry.sequence = some st) (hkept : P st)
    (htaught : P (learn w s j.found.case st)) (ha : (outcomeStep s j).sequence = some after) : P after := by
  cases hf : j.found.outcome.isForwarded with
  | false =>
    rw [outcomeStep_sequence_discarded hf, hst] at ha
    exact Option.some.inj ha ▸ hkept
  | true =>
    rw [outcomeStep_sequence_forwarded hf hw hst] at ha
    exact Option.some.inj ha ▸ htaught

theorem scoreAfter_violation {limit score : Nat} {f : Findings} (hlt : score < limit) (hv : f.violation = true) :
    scoreAfter limit score f = score + 1 := by
  simp only [scoreAfter, hv, if_true]
  omega

theorem scoreAfter_clean {limit score : Nat} {f : Findings} (hv : f.violation = false) :
    scoreAfter limit score f = if f.outcome.isForwarded then score - 1 else score := by
  simp only [scoreAfter, hv, Bool.false_eq_true, if_false]

theorem Findings.outcome_discarded {f : Findings} {r : DiscardReason} (h : f.fate = some (.discarded r)) :
    f.outcome.isForwarded = false := by
  simp only [Findings.outcome, h, Option.getD_some, Fate.isForwarded]

theorem trips_without {e : StreamEntry} (h : e.record.trip = none) (f : Findings) : trips e f = false := by
  simp only [trips, h]

theorem trips_clean (e : StreamEntry) {f : Findings} (h : f.violation = false) : trips e f = false := by
  unfold trips
  split
  · rw [h, Bool.false_and, Bool.false_and]
  · rfl

/-- A violation trips an ENABLED entry whose score stands one below its limit (R58). -/
theorem trips_violation {e : StreamEntry} {f : Findings} {limit score : Nat} (hl : e.record.trip = some limit)
    (hsc : e.score = some score) (he : e.state = .enabled) (hlt : score < limit) (hv : f.violation = true) :
    trips e f = true ↔ score + 1 = limit := by
  simp only [trips, hl, hsc, he, hv, beq_self_eq_true, Bool.true_and, decide_eq_true_eq]
  omega

/-- A frame discarded without violation is counted, and the outcome step changes nothing else (R41). -/
theorem outcomeStep_counts {s : Half} {e : StreamEntry} {f : Findings} {r : DiscardReason}
    (hd : f.fate = some (.discarded r)) (hv : f.violation = false) :
    outcomeStep s ⟨e, f⟩ = { e with counters := e.counters.countFate (.discarded r) } := by
  have hf := Findings.outcome_discarded hd
  have hscore : (outcomeStep s ⟨e, f⟩).score = e.score := by
    cases hl : e.record.trip with
    | none => exact outcomeStep_unscored hl
    | some limit =>
      cases hsc : e.score with
      | none => simp only [outcomeStep, hl, hsc]
      | some score => simp [outcomeStep_scored (j := ⟨e, f⟩) hl hsc, scoreAfter, hv, hf]
  have hstate : (outcomeStep s ⟨e, f⟩).state = e.state := by
    rw [outcomeStep_state_eq, trips_clean e hv]; rfl
  have hcount : (outcomeStep s ⟨e, f⟩).counters = e.counters.countFate (.discarded r) := by
    simp only [outcomeStep, Findings.outcome, hd, Option.getD_some, Fate.isForwarded, Bool.false_eq_true, if_false]
  calc outcomeStep s ⟨e, f⟩
      = { e with
          counters := (outcomeStep s ⟨e, f⟩).counters, sequence := (outcomeStep s ⟨e, f⟩).sequence
          score := (outcomeStep s ⟨e, f⟩).score, state := (outcomeStep s ⟨e, f⟩).state } := rfl
    _ = _ := by rw [hcount, outcomeStep_sequence_discarded hf, hscore, hstate]

/-! ## The whole series (R39, R41) -/

/-- A frame that the state step discards goes through no other check (R41). -/
theorem judgeFrame_halted {e : StreamEntry} {r : DiscardReason}
    (h : stateStep ⟨e, Findings.start⟩ = ⟨e, ⟨some (.discarded r), .none, false⟩⟩) (s : Half) (bytes now : Nat) :
    judgeFrame e s bytes now = ⟨{ e with counters := e.counters.countFate (.discarded r) }, .discarded r, false⟩ := by
  have hj : findings e s bytes now = ⟨e, ⟨some (.discarded r), .none, false⟩⟩ := by
    simp only [findings, h, Judging.andThen]
  have hout := outcomeStep_counts (s := s) (e := e) (f := ⟨some (.discarded r), .none, false⟩) rfl rfl
  simp only [judgeFrame, hj, hout, trips_clean, Findings.outcome, Option.getD_some]

theorem judgeFrame_blocked {e : StreamEntry} (h : e.state = .blocked) (s : Half) (bytes now : Nat) :
    judgeFrame e s bytes now =
      ⟨{ e with counters := e.counters.countFate (.discarded .blocked) }, .discarded .blocked, false⟩ :=
  judgeFrame_halted (by simp [stateStep, h, Judging.discard, Findings.start]) s bytes now

theorem judgeFrame_tripped {e : StreamEntry} (h : e.state = .tripped) (s : Half) (bytes now : Nat) :
    judgeFrame e s bytes now =
      ⟨{ e with counters := e.counters.countFate (.discarded .tripped) }, .discarded .tripped, false⟩ :=
  judgeFrame_halted (by simp [stateStep, h, Judging.discard, Findings.start]) s bytes now

/-- Against an ENABLED entry the series starts with the sequence step. -/
theorem findings_enabled {e : StreamEntry} (h : e.state = .enabled) (s : Half) (bytes now : Nat) :
    findings e s bytes now =
      ((sequenceStep s ⟨e, Findings.start⟩).andThen (cadenceStep now)).andThen (meterStep bytes now) := by
  have hgo : (stateStep ⟨e, Findings.start⟩).andThen (sequenceStep s) = sequenceStep s ⟨e, Findings.start⟩ := by
    simp only [stateStep, h, Judging.andThen, Findings.start]
  rw [findings, hgo]

/-- And it reports a trip exactly if the entry is then TRIPPED. -/
theorem judgeFrame_trips_iff {e : StreamEntry} (h : e.state = .enabled) (s : Half) (bytes now : Nat) :
    (judgeFrame e s bytes now).tripped = true ↔ (judgeFrame e s bytes now).entry.state = .tripped := by
  obtain ⟨c, m, hj⟩ := findings_entry e s bytes now
  have hen : (findings e s bytes now).entry.state = .enabled := by rw [hj]; exact h
  simp only [judgeFrame, outcomeStep_state_eq, hen]
  split <;> simp_all

/-- Without a trip part the series gives no score and never trips (R57, R58). -/
theorem judgeFrame_without_trip {e : StreamEntry} (h : e.record.trip = none) (s : Half) (bytes now : Nat) :
    (judgeFrame e s bytes now).tripped = false ∧ (judgeFrame e s bytes now).entry.score = e.score
      ∧ (judgeFrame e s bytes now).entry.state = e.state := by
  obtain ⟨c, m, hj⟩ := findings_entry e s bytes now
  have hno : (findings e s bytes now).entry.record.trip = none := by rw [hj]; exact h
  have ht := trips_without hno (findings e s bytes now).found
  refine ⟨ht, (outcomeStep_unscored hno).trans (by rw [hj]), ?_⟩
  show (outcomeStep s (findings e s bytes now)).state = e.state
  rw [outcomeStep_state_eq, ht, hj]; rfl

/-! ## The statements -/

/-- Settles O29, by the case lemmas of the sequence step at d, and by what the later steps leave. -/
theorem sequenceStepSorts : Obligations.SequenceStepSorts := by
  intro e f s w st hw hst h1 h32
  refine ⟨sequenceStep_first hw hst, fun h d hh hd => ?_, fun bytes now => ?_, fun r hr => ?_⟩
  · obtain rfl : distance s h = d := (distance_toNat s h).trans hd.symm
    have hin : inWindow w (distance s h) = true ↔ distance s h = 0 ∨ 65536 - w + 1 ≤ distance s h := by
      simp only [inWindow, Bool.or_eq_true, beq_iff_eq, decide_eq_true_eq]
    have hout : ¬ (distance s h = 0 ∨ 65536 - w + 1 ≤ distance s h) → inWindow w (distance s h) = false :=
      fun hno => Bool.eq_false_iff.2 fun ht => hno (hin.1 ht)
    refine ⟨fun hd hold => sequenceStep_duplicate hw hst hh (hin.2 hd) hold,
      fun hd hnew => sequenceStep_outOfOrder hw hst hh (hin.2 hd) hnew,
      fun hlo hhi => sequenceStep_ahead hw hst hh (hout (by omega)) hhi,
      fun hlo hhi => sequenceStep_late hw hst hh (hout (by omega)) (by omega), ?_⟩
    rintro rfl hmem
    exact sequenceStep_duplicate hw hst hh (hin.2 (.inl (distance_self s))) hmem
  · obtain ⟨c, hc⟩ := cadenceStep_entry now ⟨e, f⟩
    obtain ⟨m, hm⟩ := meterStep_entry bytes now ⟨e, f⟩
    rw [hc, hm]
    exact ⟨hst, rfl, hst, rfl⟩
  · have hf := Findings.outcome_discarded hr
    exact ⟨(outcomeStep_sequence_discarded hf).trans hst, outcomeStep_gap_discarded hf⟩

/-- Settles O30, by whether the frame is early, and by whether the tokens cover it. -/
theorem cadenceAndMeterStepsJudge : Obligations.CadenceAndMeterStepsJudge := by
  refine ⟨fun e f part st now hpart hst => ⟨?_, fun hlate => ?_, fun last hlast hlt => ?_⟩,
    fun e f part st bytes now tokens hpart hst _ htok => ?_⟩
  · cases ht : isEarly part st now with
    | false => rw [cadenceStep_onTime hpart hst ht]
    | true => rw [cadenceStep_early hpart hst ht]
  · have ht : isEarly part st now = false := Bool.eq_false_iff.2 fun ht => by
      obtain ⟨last, hlast, hlt⟩ := isEarly_iff.1 ht
      exact absurd hlt (Nat.not_lt.2 (hlate last hlast))
    rw [cadenceStep_onTime hpart hst ht]
  · rw [cadenceStep_early hpart hst (isEarly_iff.2 ⟨last, hlast, hlt⟩)]
  · obtain rfl : tokens = accrue part st now := htok.trans (accrue_eq part st now).symm
    exact ⟨meterStep_conforming hpart hst, fun hlt _ ha => meterStep_demote hpart hst hlt ha,
      meterStep_discard hpart hst⟩

/-- Settles O31: `learn` case by case; its size and order by its laws, for the case that the sequence step found. -/
theorem forwardedFramesTeach : Obligations.ForwardedFramesTeach := by
  refine ⟨fun e f s w st hw hst => ?_, fun e f s h => outcomeStep_sequence_none (j := ⟨e, f⟩) h⟩
  have hlearn := fun hf : f.outcome.isForwarded = true =>
    outcomeStep_sequence_forwarded (s := s) (j := ⟨e, f⟩) hf hw hst
  have hfits : 1 ≤ w → w ≤ 32 → f.case = (sequenceStep s ⟨e, Findings.start⟩).found.case → f.case.Fits w s st :=
    fun h1 h32 hc => hc ▸ sequenceStep_fits hw hst ⟨h1, h32⟩
  refine ⟨fun hf hc => ?_, fun hf hc h hh => ?_, fun hf d hc => ?_, fun hf => ?_, fun hs h1 h32 hc after ha => ?_,
    fun hs h1 h32 ho hc after ha => ?_⟩
  · rw [hlearn hf, hc, learn]
  · refine ⟨insertBelow h s st.accepted, ?_, fun m => (insertBelow_perm h s _).mem_iff.trans List.mem_cons⟩
    simp only [hlearn hf, hc, learn, hh]
  · refine ⟨s :: withinWindow w s st.accepted, by rw [hlearn hf, hc, learn], fun m => ?_⟩
    simp only [List.mem_cons, withinWindow, List.mem_filter, decide_eq_true_eq, distance_toNat]
  · exact (outcomeStep_sequence_discarded hf).trans hst
  · exact (outcomeStep_sequence_of (P := fun x => x.Sound w) hw hst hs
      (learn_sound ⟨h1, h32⟩ (hfits h1 h32 hc) hs) ha).length_le
  · exact outcomeStep_sequence_of (P := SequenceState.InOrder) hw hst ho
      (learn_inOrder ⟨h1, h32⟩ (hfits h1 h32 hc) hs ho) ha

/-- Settles O32: the score and the state by violation and fate, the gap by the sequence case, and the series by the state
of the entry. -/
theorem outcomeStepScores : Obligations.OutcomeStepScores := by
  refine ⟨fun e f s limit score hl hsc he hlt => ?_, fun e f s => ?_, fun e s bytes now => ?_⟩
  · have hscore := outcomeStep_scored (s := s) (j := ⟨e, f⟩) hl hsc
    have hclean : f.violation = false → (outcomeStep s ⟨e, f⟩).state = .enabled := fun hv => by
      rw [outcomeStep_state_eq, trips_clean e hv]; exact he
    refine ⟨fun hv => ⟨?_, ?_⟩, fun hv hf => ⟨?_, hclean hv⟩, fun hv hf => ⟨?_, hclean hv⟩⟩
    · rw [hscore, scoreAfter_violation hlt hv]
    · simp only [outcomeStep_state_eq, trips_violation hl hsc he hlt hv, he]
    · rw [hscore, scoreAfter_clean hv, if_pos hf]
    · rw [hscore, scoreAfter_clean hv, hf]; rfl
  · refine ⟨fun d hc hf => ?_, fun hno hle => ?_, rfl, rfl, rfl, fun hl => ⟨outcomeStep_unscored hl, ?_, fun bytes now =>
      judgeFrame_without_trip hl s bytes now⟩⟩
    · rw [outcomeStep_gap_forwarded hf, hc]; rfl
    · cases hf : f.outcome.isForwarded with
      | false => exact outcomeStep_gap_discarded hf
      | true =>
        have hgap : gapOf f.case = 0 := by
          cases hc : f.case with
          | ahead d => exact absurd hc (hno.resolve_left (by simp [hf]) d)
          | _ => rfl
        rw [outcomeStep_gap_forwarded hf, hgap]
        exact Nat.min_eq_left hle
    · rw [outcomeStep_state_eq, trips_without hl]; rfl
  · refine ⟨fun hb => judgeFrame_blocked hb s bytes now, fun ht => judgeFrame_tripped ht s bytes now, ?_, fun f =>
      ⟨fun h => ?_, fun h => ?_, fun h => ?_, ?_⟩⟩
    · rintro j1 j2 j3 he rfl hcut2 hgo2 hcut3 hgo3
      obtain rfl := Judging.eq_andThen hcut2 hgo2
      obtain rfl := Judging.eq_andThen hcut3 hgo3
      have hj := findings_enabled he s bytes now
      refine ⟨congrArg (outcomeStep s) hj, congrArg (fun j => j.found.outcome) hj, ?_⟩
      rw [judgeFrame_trips_iff he]
      exact Eq.congr_left (congrArg (fun j => (outcomeStep s j).state) hj)
    · simp only [sequenceStep, h]
    · simp only [cadenceStep, h]
    · simp only [meterStep, h]
    · rw [outcomeStep_counters_exceptGap]
      obtain ⟨_ | _ | _ | r, _, _⟩ := f
      · rfl
      · rfl
      · rfl
      · cases r <;> rfl

end Sys2Proof.Machine
end

section
/-! SUPPORT. Lists of frames and requests in blocks, and the ageing of a queue (R74, O34). -/

namespace Sys2Proof.Machine

/-! ## Lists of queued frames and requests -/

@[simp] theorem blocksOf_nil : blocksOf [] = 0 := rfl

@[simp] theorem blocksOf_cons (f : QueuedFrame) (fs : List QueuedFrame) :
    blocksOf (f :: fs) = f.frame.blocks + blocksOf fs := by simp [blocksOf]

@[simp] theorem blocksOf_append (fs gs : List QueuedFrame) : blocksOf (fs ++ gs) = blocksOf fs + blocksOf gs := by
  simp [blocksOf]

@[simp] theorem requestBlocks_nil : requestBlocks [] = 0 := rfl

@[simp] theorem requestBlocks_cons (r : Request) (l : List Request) :
    requestBlocks (r :: l) = r.blocks + requestBlocks l := by simp [requestBlocks]

@[simp] theorem requestBlocks_append (l m : List Request) :
    requestBlocks (l ++ m) = requestBlocks l + requestBlocks m := by simp [requestBlocks]

/-- The frames that age out and those that stay are all the frames (R74). -/
theorem agedFrames_append_youngFrames (a : Nat) (c : CycleIndex) (fs : List QueuedFrame) :
    agedFrames a c fs ++ youngFrames a c fs = fs := List.takeWhile_append_dropWhile

/-! ## Ageing (R74) -/

/-- A frame's age as a number: the cycle indices since it was queued, which wrap at 32 bits. -/
theorem age_toNat (c e : CycleIndex) : (c - e).toNat = (c.toNat + 4294967296 - e.toNat) % 4294967296 := by bv_omega

section
variable {a : Nat} {c : CycleIndex} {old young : List QueuedFrame}
  (hold : ∀ f ∈ old, a ≤ (c.toNat + 4294967296 - f.enqueueIndex.toNat) % 4294967296)
  (hyoung : ∀ f ∈ young.head?, (c.toNat + 4294967296 - f.enqueueIndex.toNat) % 4294967296 < a)
include hold hyoung

/-- Old frames at the head, up to a first that is younger, are the frames that age out. -/
theorem agedFrames_of_split : agedFrames a c (old ++ young) = old := by
  unfold agedFrames
  rw [List.takeWhile_append_of_pos fun f hf => decide_eq_true (age_toNat c _ ▸ hold f hf)]
  cases young with
  | nil => simp
  | cons f fs =>
    have hf : ¬ a ≤ (c - f.enqueueIndex).toNat := by rw [age_toNat]; exact Nat.not_le.2 (hyoung f rfl)
    rw [List.takeWhile_cons_of_neg (by simpa only [decide_eq_true_eq] using hf), List.append_nil]

theorem youngFrames_of_split : youngFrames a c (old ++ young) = young := by
  have h := agedFrames_append_youngFrames a c (old ++ young)
  rw [agedFrames_of_split hold hyoung] at h
  exact List.append_cancel_left h

end

/-- A queue that a cycle start ages: the frames that age out counted as *aged* (R74). -/
def Queue.agedAt (Q : Queue) (c : CycleIndex) : Queue :=
  { Q with
    frames := youngFrames Q.ageLimit c Q.frames
    counters :=
      { Q.counters with aged := countBy Q.counters.aged (agedFrames Q.ageLimit c Q.frames).length } }

/-- A change of a queue is told by what it makes of that queue. -/
theorem State.modQueue_congr {s : State} {p : Port} {q : QueueNo} {f g : Queue → Queue}
    (h : f (s.queue p q) = g (s.queue p q)) : s.modQueue p q f = s.modQueue p q g := by
  have h' : f (s.port p).queues[q] = g (s.port p).queues[q] := h
  cases p <;> simp only [State.modQueue, State.modPort, State.port] at h' ⊢ <;> rw [h']

theorem State.ageQueue_zero {s : State} {p : Port} {q : QueueNo} (h : (s.queue p q).ageLimit = 0) :
    s.ageQueue p q = s := if_pos h

/-- A queue with an age limit loses the frames that age out; their blocks return and they depart (R74, R72). -/
theorem State.ageQueue_pos {s : State} {p : Port} {q : QueueNo} (h : (s.queue p q).ageLimit ≠ 0) :
    s.ageQueue p q =
      { s.modQueue p q fun Q => Q.agedAt s.timer.index with
        pool := s.pool + blocksOf (agedFrames (s.queue p q).ageLimit s.timer.index (s.queue p q).frames)
        engine :=
          s.engine.departs (agedFrames (s.queue p q).ageLimit s.timer.index (s.queue p q).frames) } := by
  unfold State.ageQueue
  rw [if_neg h, State.reportDepartures_eq]
  cases p <;> rfl

/-- Settles O34: the frames that age out are the old ones at the head, and in a plain engine no departure is awaited. -/
theorem ageingRemovesOldHeads : Obligations.AgeingRemovesOldHeads := by
  intro s p q old young hs
  refine ⟨State.ageQueue_zero, fun ha hq hold hyoung => ?_⟩
  have hgone : agedFrames (s.queue p q).ageLimit s.timer.index (s.queue p q).frames = old := by
    rw [hq]; exact agedFrames_of_split hold hyoung
  have hstay : youngFrames (s.queue p q).ageLimit s.timer.index (s.queue p q).frames = young := by
    rw [hq]; exact youngFrames_of_split hold hyoung
  rw [State.ageQueue_pos (by omega), hgone, Engine.departs_eq _ _ hs.notResetting]
  have hqueue : (s.modQueue p q fun Q => Q.agedAt s.timer.index) = s.modQueue p q fun Q =>
      { Q with
        frames := young
        counters := { Q.counters with aged := countBy Q.counters.aged old.length } } :=
    State.modQueue_congr (by simp only [Queue.agedAt, hgone, hstay])
  rw [hqueue]
  cases p <;> rfl

end Sys2Proof.Machine
end

section
/-! SUPPORT. The sum of all blocks (R63) through the updates of the state, selections, offers, notices, ageing, cycle starts,
beats and the unit reset: each operation that takes up a frame's blocks adds them to the sum, and no other changes it. -/

namespace Sys2Proof.Machine

/-! ## Blocks at a port -/

@[simp] theorem Receiver.blocks_idle : Receiver.idle.blocks = 0 := rfl
@[simp] theorem Receiver.blocks_receiving (bytes : List Byte) :
    (Receiver.receiving bytes).blocks = receptionBlocks bytes := rfl
@[simp] theorem Receiver.blocks_discarding : Receiver.discarding.blocks = 0 := rfl
@[simp] theorem Transmitter.blocks_idle : Transmitter.idle.blocks = 0 := rfl
@[simp] theorem Transmitter.blocks_sending (q : QueueNo) (f : Frame) (c : Ticks) :
    (Transmitter.sending q f c).blocks = f.blocks := rfl

/-- Changing one queue changes the blocks in the queues by that queue's. -/
theorem PortState.queueBlocks_set (P : PortState) (q : QueueNo) (Q : Queue) :
    ({ P with queues := P.queues.set q Q } : PortState).queueBlocks + P.queues[q].blocks = P.queueBlocks + Q.blocks := by
  simp only [PortState.queueBlocks, vector4_toList, List.map_cons, List.map_nil, List.sum_cons, List.sum_nil]
  fin_cases q <;> simp <;> omega

theorem Queue.flushed_blocks (Q : Queue) : Q.flushed.blocks = 0 := rfl

theorem PortState.heldBlocks_dropped (P : PortState) : P.dropped.heldBlocks = 0 := by
  simp [PortState.heldBlocks, PortState.dropped, PortState.queueBlocks, vector4_toList, Queue.flushed_blocks]

theorem Queue.freshAll_blocks (P : PortState) : ({ P with queues := Queue.freshAll } : PortState).queueBlocks = 0 := by
  simp [PortState.queueBlocks, Queue.freshAll, vector4_toList, Queue.fresh, Queue.blocks]

/-- A unit reset returns the blocks of the queues; reception and transmission go on (R133). -/
theorem PortState.heldBlocks_unitReset (P : PortState) (now : Ticks) :
    (P.unitReset now).heldBlocks + P.queueBlocks = P.heldBlocks := by
  have h : (P.unitReset now).heldBlocks = P.receiver.blocks + 0 + P.transmitter.blocks :=
    congrArg (P.receiver.blocks + · + P.transmitter.blocks) (Queue.freshAll_blocks P)
  rw [h, PortState.heldBlocks]
  omega

/-! ## The sum of all blocks -/

/-- The blocks in the pool, in reception, in the queues, in transmission and in the request queue (R63). -/
def State.totalBlocks (s : State) : Nat :=
  s.pool + s.portU.heldBlocks + s.portD.heldBlocks + requestBlocks s.engine.queue

/-- R63 says that the sum is 512. -/
theorem State.blocksConserved_iff (s : State) : s.BlocksConserved ↔ s.totalBlocks = Config.poolBlocks := .rfl

theorem State.totalBlocks_modPort (s : State) (p : Port) (f : PortState → PortState) :
    (s.modPort p f).totalBlocks + (s.port p).heldBlocks = s.totalBlocks + (f (s.port p)).heldBlocks := by
  cases p <;> simp only [State.totalBlocks, State.modPort, State.port] <;> omega

/-- A change of a port that leaves it as many blocks keeps the sum. -/
theorem State.totalBlocks_modPort_of {s : State} {p : Port} {f : PortState → PortState}
    (h : (f (s.port p)).heldBlocks = (s.port p).heldBlocks) : (s.modPort p f).totalBlocks = s.totalBlocks := by
  have := s.totalBlocks_modPort p f
  omega

theorem State.totalBlocks_modQueue (s : State) (p : Port) (q : QueueNo) (f : Queue → Queue) :
    (s.modQueue p q f).totalBlocks + (s.queue p q).blocks = s.totalBlocks + (f (s.queue p q)).blocks := by
  have hp := s.totalBlocks_modPort p fun P => { P with queues := P.queues.set q (f P.queues[q]) }
  have hq := (s.port p).queueBlocks_set q (f (s.queue p q))
  simp only [PortState.heldBlocks] at hp
  simp only [State.modQueue, State.queue] at hp hq ⊢
  omega

/-- A change of a queue that keeps its frames keeps the sum. -/
theorem State.totalBlocks_modQueue_of {s : State} {p : Port} {q : QueueNo} {f : Queue → Queue}
    (h : (f (s.queue p q)).frames = (s.queue p q).frames) : (s.modQueue p q f).totalBlocks = s.totalBlocks := by
  have hm := s.totalBlocks_modQueue p q f
  simp only [Queue.blocks, h] at hm
  omega

theorem State.totalBlocks_setReceiver (s : State) (p : Port) (x : Receiver) :
    (s.setReceiver p x).totalBlocks + (s.port p).receiver.blocks = s.totalBlocks + x.blocks := by
  have hp := s.totalBlocks_modPort p fun P => { P with receiver := x }
  simp only [PortState.heldBlocks, PortState.queueBlocks] at hp
  unfold State.setReceiver
  omega

theorem State.totalBlocks_setTransmitter (s : State) (p : Port) (x : Transmitter) :
    (s.setTransmitter p x).totalBlocks + (s.port p).transmitter.blocks = s.totalBlocks + x.blocks := by
  have hp := s.totalBlocks_modPort p fun P => { P with transmitter := x }
  simp only [PortState.heldBlocks, PortState.queueBlocks] at hp
  unfold State.setTransmitter
  omega

/-- A granted taking lowers the sum by what it takes, until a queue or a frame holds it (R64). -/
theorem State.totalBlocks_takeBlocks {s t : State} {n : Nat} (h : s.takeBlocks n = some t) :
    t.totalBlocks + n = s.totalBlocks := by
  obtain ⟨hn, e⟩ | ⟨_, e⟩ := s.takeBlocks_spec n <;> rw [e] at h <;> cases h
  simp only [State.totalBlocks]
  omega

section
variable (s : State)

@[simp] theorem State.totalBlocks_returnBlocks (n : Nat) : (s.returnBlocks n).totalBlocks = s.totalBlocks + n := by
  simp only [State.totalBlocks, State.returnBlocks]
  omega

@[simp] theorem State.totalBlocks_countPort (p : Port) (f : PortCounters → PortCounters) :
    (s.countPort p f).totalBlocks = s.totalBlocks := State.totalBlocks_modPort_of rfl

@[simp] theorem State.totalBlocks_countQueue (p : Port) (q : QueueNo) (f : QueueCounters → QueueCounters) :
    (s.countQueue p q f).totalBlocks = s.totalBlocks := State.totalBlocks_modQueue_of rfl

@[simp] theorem State.totalBlocks_countManagement (f : ManagementCounters → ManagementCounters) :
    (s.countManagement f).totalBlocks = s.totalBlocks := rfl

@[simp] theorem State.totalBlocks_setEntry (i : StreamIndex) (e : Option StreamEntry) :
    (s.setEntry i e).totalBlocks = s.totalBlocks := rfl

@[simp] theorem State.totalBlocks_listEvent (e : Event) : (s.listEvent e).totalBlocks = s.totalBlocks := rfl

@[simp] theorem State.totalBlocks_draw : s.draw.2.totalBlocks = s.totalBlocks := rfl

/-! ## Selections and offers (R69, R73, R113) -/

theorem Engine.departs_queue (e : Engine) (fs : List QueuedFrame) : (e.departs fs).queue = e.queue := by
  unfold Engine.departs
  split <;> rfl

@[simp] theorem State.totalBlocks_reportDeparture (o : Origin) : (s.reportDeparture o).totalBlocks = s.totalBlocks := by
  unfold State.reportDeparture
  split <;> rfl

/-- The head of a queue passes to an IDLE transmitter with its blocks (R73). -/
theorem State.totalBlocks_sendHead {p : Port} (q : QueueNo) (h : (s.port p).transmitter = .idle) :
    (s.sendHead p q).totalBlocks = s.totalBlocks := by
  unfold State.sendHead
  split
  · rfl
  · rename_i f rest hf
    have hqueue := s.totalBlocks_modQueue p q fun Q => { Q with frames := rest }
    have hsend := (s.modQueue p q fun Q => { Q with frames := rest }).totalBlocks_setTransmitter p
      (.sending q f.frame (s.localTime + f.frame.occupancy))
    rw [State.modQueue_port] at hsend
    simp only [Queue.blocks, hf, blocksOf_cons] at hqueue
    simp only [h, Transmitter.blocks_idle, Transmitter.blocks_sending] at hsend
    rw [State.totalBlocks_reportDeparture]
    omega

@[simp] theorem State.totalBlocks_trySelect (p : Port) : (s.trySelect p).totalBlocks = s.totalBlocks := by
  obtain e | ⟨q, _, _, hc, _, _, e⟩ := s.trySelect_spec p <;> rw [e]
  simp only [State.canSend, Bool.and_eq_true, beq_iff_eq] at hc
  exact s.totalBlocks_sendHead q hc.2

@[simp] theorem State.totalBlocks_enqueue (p : Port) (q : QueueNo) (f : Frame) (o : Origin) :
    (s.enqueue p q f o).totalBlocks = s.totalBlocks + f.blocks := by
  have hqueue : (s.modQueue p q fun Q => Q.enqueued f s.timer.index o).totalBlocks = s.totalBlocks + f.blocks := by
    have hm := s.totalBlocks_modQueue p q fun Q => Q.enqueued f s.timer.index o
    simp only [Queue.blocks, Queue.enqueued, blocksOf_append, blocksOf_cons, blocksOf_nil] at hm
    simp only [Queue.enqueued, Queue.blocks]
    omega
  rw [State.enqueue_eq]
  split
  · rw [State.totalBlocks_trySelect, hqueue]
  · exact hqueue

/-- An offered frame brings its blocks: a queue holds them, or they return to the pool (R69). -/
@[simp] theorem State.totalBlocks_offer (p : Port) (q : QueueNo) (f : Frame) (o : Origin) :
    (s.offer p q f o).totalBlocks = s.totalBlocks + f.blocks := by
  unfold State.offer
  split <;> simp

/-! ## Notices (chapter 9) -/

@[simp] theorem State.totalBlocks_offerNotice (p : Port) (f : Frame) :
    (s.offerNotice p f).totalBlocks = s.totalBlocks + f.blocks := by
  unfold State.offerNotice
  split <;> simp

/-- A notice sent holds the block that the pool granted (R153). -/
theorem State.totalBlocks_firstSend (dest : Requester) (x : NoticeEntry) :
    (s.firstSend dest x).totalBlocks = s.totalBlocks := by
  unfold State.firstSend
  split
  · rfl
  · rename_i t ht
    have hgrant := State.totalBlocks_takeBlocks ht
    simp only [State.totalBlocks_offerNotice, noticeFrame_blocks]
    exact hgrant

@[simp] theorem State.totalBlocks_trySend : s.trySend.totalBlocks = s.totalBlocks := by
  unfold State.trySend
  split
  · rfl
  · split
    · split
      · exact s.totalBlocks_firstSend _ _
      · rfl
    · rfl

@[simp] theorem State.totalBlocks_raise (e : Event) : (s.raise e).totalBlocks = s.totalBlocks := by
  simp [State.raise]

@[simp] theorem State.totalBlocks_offerFrame (p : Port) (q : QueueNo) (f : Frame) (o : Origin) :
    (s.offerFrame p q f o).totalBlocks = s.totalBlocks + f.blocks := by
  unfold State.offerFrame
  split <;> simp

@[simp] theorem State.totalBlocks_takeAck (station : Half) (payload : List Byte) :
    (s.takeAck station payload).totalBlocks = s.totalBlocks := by
  unfold State.takeAck
  dsimp only
  split
  · rfl
  · exact State.totalBlocks_trySend _

/-- A notice sent again holds the block that the pool granted (R156). -/
theorem State.totalBlocks_retryNotice (x : NoticeEntry) (attempts : Nat) :
    (s.retryNotice x attempts).totalBlocks = s.totalBlocks := by
  unfold State.retryNotice
  dsimp only
  split
  · rfl
  · split
    · rfl
    · split
      · rfl
      · rename_i t ht
        have hgrant := State.totalBlocks_takeBlocks ht
        simp only [State.totalBlocks_offerNotice, noticeFrame_blocks]
        exact hgrant

theorem State.totalBlocks_retryExpired : s.retryExpired.totalBlocks = s.totalBlocks := by
  unfold State.retryExpired
  dsimp only
  split
  · exact State.totalBlocks_trySend _
  · split
    · rfl
    · split
      · exact State.totalBlocks_retryNotice _ _ _
      · exact State.totalBlocks_trySend _

theorem State.totalBlocks_changeDestination (dest : Option Requester) :
    (s.changeDestination dest).totalBlocks = s.totalBlocks := by
  unfold State.changeDestination State.drawTieIndex
  split
  · rfl
  · dsimp only
    split <;> rfl

theorem State.totalBlocks_recomputeDestination : s.recomputeDestination.totalBlocks = s.totalBlocks := by
  unfold State.recomputeDestination
  split
  · rfl
  · exact s.totalBlocks_changeDestination _

theorem State.totalBlocks_updateDestination : s.updateDestination.totalBlocks = s.totalBlocks := by
  unfold State.updateDestination
  split
  · rfl
  · rw [State.totalBlocks_trySend, State.totalBlocks_changeDestination]

theorem State.totalBlocks_setNotices (x : NoticeSettings) : (s.setNotices x).totalBlocks = s.totalBlocks := by
  unfold State.setNotices
  rw [State.totalBlocks_trySend, State.totalBlocks_recomputeDestination]
  rfl

/-! ## Ageing, cycle starts and beats (R74, R83, R86 to R91) -/

/-- The frames that age out return their blocks (R74). -/
theorem State.totalBlocks_ageQueue (p : Port) (q : QueueNo) : (s.ageQueue p q).totalBlocks = s.totalBlocks := by
  by_cases h : (s.queue p q).ageLimit = 0
  · rw [State.ageQueue_zero h]
  · have hm := s.totalBlocks_modQueue p q fun Q => Q.agedAt s.timer.index
    have hb := congrArg blocksOf (agedFrames_append_youngFrames (s.queue p q).ageLimit s.timer.index (s.queue p q).frames)
    simp only [Queue.blocks, Queue.agedAt, blocksOf_append] at hm hb
    rw [State.ageQueue_pos h]
    simp only [State.totalBlocks, Engine.departs_queue, Queue.agedAt, State.modQueue_pool, State.modQueue_engine] at hm ⊢
    omega

theorem totalBlocks_runWork (w : Work) : (runWork w s).totalBlocks = s.totalBlocks := by
  cases w with
  | age p q => exact s.totalBlocks_ageQueue p q
  | select p => exact s.totalBlocks_trySelect p
  | raise e => exact s.totalBlocks_raise e

@[simp] theorem totalBlocks_inAnyOrder (l : List Work) : (inAnyOrder runWork l s).totalBlocks = s.totalBlocks :=
  inAnyOrder_preserves (P := fun t => t.totalBlocks = s.totalBlocks) (fun _ h => h)
    (fun w t h => (totalBlocks_runWork t w).trans h) l s rfl

theorem State.totalBlocks_scheduledStart : s.scheduledStart.totalBlocks = s.totalBlocks := totalBlocks_inAnyOrder _ _

theorem State.totalBlocks_lockingBeat (t : Ticks) : (s.lockingBeat t).totalBlocks = s.totalBlocks := by
  unfold State.lockingBeat
  split
  · exact State.totalBlocks_raise _ _
  · exact totalBlocks_inAnyOrder _ _

theorem State.totalBlocks_reAnchor (t : Ticks) : (s.reAnchor t).totalBlocks = s.totalBlocks := by
  unfold State.reAnchor
  rw [State.totalBlocks_trySelect, State.totalBlocks_trySelect]
  rfl

theorem State.totalBlocks_beatFault : s.beatFault.totalBlocks = s.totalBlocks := by
  unfold State.beatFault
  dsimp only
  split
  · exact State.totalBlocks_raise _ _
  · rfl

theorem State.totalBlocks_firstBeat (t : Ticks) : (s.firstBeat t).totalBlocks = s.totalBlocks := by
  unfold State.firstBeat
  dsimp only
  split
  · split
    · exact s.totalBlocks_reAnchor t
    · exact s.totalBlocks_beatFault
  · split
    · exact totalBlocks_inAnyOrder _ _
    · exact s.totalBlocks_beatFault

@[simp] theorem State.totalBlocks_reportBeat (t : Ticks) : (s.reportBeat t).totalBlocks = s.totalBlocks := by
  unfold State.reportBeat
  split
  · rfl
  · exact State.totalBlocks_lockingBeat _ t
  · exact State.totalBlocks_lockingBeat _ t
  · dsimp only
    split
    · rfl
    · exact State.totalBlocks_firstBeat _ t

/-! ## The unit reset (R133) -/

/-- A unit reset returns the blocks of the egress queues and of the request queue. -/
theorem State.totalBlocks_unitReset : s.unitReset.totalBlocks = s.totalBlocks := by
  have hu := s.portU.heldBlocks_unitReset s.localTime
  have hd := s.portD.heldBlocks_unitReset s.localTime
  have hnone : requestBlocks Engine.default.queue = 0 := requestBlocks_nil
  simp only [State.totalBlocks, State.unitReset, hnone]
  omega

theorem State.totalBlocks_settle : s.settle.totalBlocks = s.totalBlocks := by
  unfold State.settle
  split
  · exact s.totalBlocks_unitReset
  · rfl

end
end Sys2Proof.Machine
end

section
/-! SUPPORT. The sum of all blocks (R63) through requests, routing, reception, transmission and link events, and the step that
keeps it (O3). -/

namespace Sys2Proof.Machine

/-! ## Frame sizes (R19, R66) -/

/-- The request in a CONTROL frame holds the blocks of the frame (R66). -/
theorem requestOf_blocks {f : Frame} (h : 2 ≤ f.payload.length) (arrival : Port) :
    (requestOf f arrival).blocks = f.blocks := by
  have hl : 2 + (f.payload.drop 2).length = f.payload.length := by rw [List.length_drop]; omega
  simp only [Request.blocks, requestOf, hl, Frame.blocks, Frame.size]

/-- An accepted frame has 16 bytes or more, all of them its own (R10). -/
theorem judgeEnd_accepted {bs : List Byte} {f : Frame} (h : judgeEnd bs = .accepted f) :
    16 ≤ bs.length ∧ f.size = bs.length := by
  unfold judgeEnd at h
  split_ifs at h with hshort
  split at h <;> cases h
  rename_i hf
  unfold frameOfBytes at hf
  split at hf <;> cases hf
  simp only [Frame.size, List.length_take, List.length_drop]
  omega

/-- An accepted frame holds the blocks that its reception held: no block boundary lies among its last bytes (R7, R19). -/
theorem blocks_of_reachesEnd {old bytes : List Byte} {f : Frame} (he : reachesEnd old bytes = true)
    (hj : judgeEnd (old ++ bytes) = .accepted f) : f.blocks = receptionBlocks old := by
  obtain ⟨hlong, hsize⟩ := judgeEnd_accepted hj
  rw [List.length_append] at hlong hsize
  unfold reachesEnd at he
  split at he
  · have : old.length + bytes.length < 12 := by simpa using he
    omega
  · simp only [Bool.and_eq_true, decide_eq_true_eq] at he
    obtain ⟨_, hlast⟩ := he
    rw [Frame.blocks, hsize]
    unfold receptionBlocks blocksFor Config.blockBytes at *
    omega

/-- The byte at a boundary is the first of one more block (R7, R19). -/
theorem receptionBlocks_boundary {old bytes : List Byte} (h : reachesBoundary old bytes = true) :
    receptionBlocks (old ++ bytes) = receptionBlocks old + 1 := by
  simp only [reachesBoundary, Bool.and_eq_true, beq_iff_eq, Config.blockBytes] at h
  obtain ⟨⟨_, hb⟩, _⟩ := h
  exact receptionBlocks_eq (by rw [List.length_append]; omega) (by rw [List.length_append]; omega)

section
variable (s : State)

/-! ## Requests (chapters 7 and 8) -/

theorem State.totalBlocks_clearSet (c : CounterSet) : (s.clearSet c).totalBlocks = s.totalBlocks := by
  cases c with
  | port p => exact s.totalBlocks_countPort p _
  | queue p q => exact s.totalBlocks_countQueue p q _
  | gate p => exact State.totalBlocks_modPort_of rfl
  | stream i => exact s.totalBlocks_setEntry i _
  | beat => rfl
  | management => rfl
  | notice => rfl

/-- Step 6 of no request changes the sum: its reply is still to come (R124). -/
theorem Op.serve_totalBlocks (o : Op) (r : Request) : (o.serve r s).1.totalBlocks = s.totalBlocks := by
  cases o
  case queueSet =>
    simp only [Op.serve, serveQueueSet]
    split
    · split
      · exact State.totalBlocks_modQueue_of rfl
      · rfl
    · rfl
  case unlistedSet =>
    simp only [Op.serve, serveUnlistedSet]
    split
    · exact State.totalBlocks_modPort_of rfl
    · rfl
  case counterRead =>
    simp only [Op.serve, serveCounterRead]
    split
    · rfl
    · split
      · rfl
      · dsimp only
        split
        · exact s.totalBlocks_clearSet _
        · rfl
  case sessionOpen =>
    simp only [Op.serve, serveSessionOpen]
    split
    · rfl
    · split
      · split <;> rfl
      · exact State.totalBlocks_updateDestination _
  case sessionClose => exact State.totalBlocks_updateDestination _
  case noticeSet =>
    simp only [Op.serve, serveNoticeSet]
    split
    · exact s.totalBlocks_setNotices _
    · rfl
  all_goals
    simp only [Op.serve, serveIdentify, serveUnitReset, serveSessionKeep, serveStreamWrite, serveStreamClear,
      serveStreamState, serveStreamRead, serveStreamFind, serveStreamPurge, serveStreamReset, serveQueueRead,
      serveBeatSet, serveTimeRead, servePlanHeader, servePlanWindows, servePlanRead, servePlanRevert, servePlanCommit,
      servePlanCancel, serveNoticeRead]
    repeat' split
    all_goals rfl

theorem totalBlocks_serveOf (o : Option Op) (r : Request) : (serveOf o r s).1.totalBlocks = s.totalBlocks := by
  cases o with
  | none => rfl
  | some o => exact o.serve_totalBlocks s r

/-! ## Replies and takes (R120, R125) -/

theorem State.totalBlocks_dropReply : s.dropReply.totalBlocks = s.totalBlocks := by
  unfold State.dropReply
  dsimp only
  split <;> rfl

/-- A reply holds the blocks that the pool granted (R125). -/
theorem State.totalBlocks_sendReply (r : Request) (payload : List Byte) :
    (s.sendReply r payload).totalBlocks = s.totalBlocks := by
  unfold State.sendReply
  dsimp only
  split
  · exact s.totalBlocks_dropReply
  · split
    · exact s.totalBlocks_dropReply
    · rename_i t ht
      rw [State.totalBlocks_offerFrame, State.totalBlocks_countManagement, State.totalBlocks_takeBlocks ht]

theorem State.totalBlocks_answer (r : Request) (a : Answer) : (s.answer r a).totalBlocks = s.totalBlocks :=
  State.totalBlocks_sendReply _ _ _

theorem State.totalBlocks_renewLease (q : Requester) : (s.renewLease q).totalBlocks = s.totalBlocks := by
  simp [State.totalBlocks]

theorem State.totalBlocks_handle (o o' : Option Op) (r : Request) :
    (s.handle o (serveOf o') r).totalBlocks = s.totalBlocks := by
  unfold State.handle
  split
  · exact s.totalBlocks_answer r _
  · rw [State.totalBlocks_sendReply, State.totalBlocks_countManagement, State.totalBlocks_renewLease]
  · have hs := totalBlocks_serveOf (s.renewLease r.requester) o' r
    rw [State.totalBlocks_renewLease] at hs
    split <;> rename_i t he <;> rw [he] at hs
    · rw [State.totalBlocks_answer, hs]
    · exact hs

theorem State.totalBlocks_endTake : s.endTake.totalBlocks = s.totalBlocks := by
  unfold State.endTake
  split <;> rfl

/-- The blocks of the head request return to the pool (R66, R120). -/
theorem State.totalBlocks_takeHead {r : Request} {rest : List Request} (h : s.engine.queue = r :: rest) :
    (s.takeHead r rest).totalBlocks = s.totalBlocks := by
  simp only [State.totalBlocks, State.takeHead, h, requestBlocks_cons]
  omega

theorem State.totalBlocks_takeRequest (o : Option Op) : (s.takeRequest o (serveOf o)).totalBlocks = s.totalBlocks := by
  unfold State.takeRequest
  split
  · rename_i r rest _ hq
    split
    · rw [State.totalBlocks_endTake, State.totalBlocks_handle, s.totalBlocks_takeHead hq]
    · rfl
  · rfl

/-- A CONTROL frame offered to the request queue brings its blocks: the request holds them, or they return (R119). -/
theorem State.totalBlocks_offerRequest (f : Frame) (arrival : Port) :
    (s.offerRequest f arrival).totalBlocks = s.totalBlocks + f.blocks := by
  unfold State.offerRequest
  split
  · simp
  · rename_i hlong
    split
    · simp
    · have hr := requestOf_blocks (Nat.not_lt.1 hlong) arrival
      simp only [State.totalBlocks, requestBlocks_append, requestBlocks_cons, requestBlocks_nil, hr]
      omega

theorem State.totalBlocks_deliverRequest (f : Frame) (arrival : Port) :
    (s.deliverRequest f arrival).totalBlocks = s.totalBlocks + f.blocks := by
  have ho := s.totalBlocks_offerRequest f arrival
  unfold State.deliverRequest State.takeNext
  split
  · split
    · exact ho
    · rw [State.totalBlocks_takeRequest, ho]
  · exact ho

theorem State.totalBlocks_expireLease : s.expireLease.totalBlocks = s.totalBlocks := by
  unfold State.expireLease
  split
  · rfl
  · rw [State.totalBlocks_trySend, State.totalBlocks_listEvent, State.totalBlocks_recomputeDestination]
    rfl

theorem State.totalBlocks_visitNext : s.visitNext.totalBlocks = s.totalBlocks := by
  unfold State.visitNext
  split
  · rename_i r source i cleared takenAt _
    have hc : (if s.hasSource source i then s.setEntry i none else s).totalBlocks = s.totalBlocks := by
      split <;> rfl
    dsimp only
    split
    · exact hc
    · rw [State.totalBlocks_endTake, State.totalBlocks_answer]
      exact hc
  · rfl

/-! ## Routing (R13 to R17, R23, R24): an accepted frame brings its blocks -/

/-- Two things of one event of which the one brings a frame's blocks and the other keeps the sum. -/
theorem totalBlocks_eitherOrder {f g : State → State} {n : Nat} (hf : ∀ u, (f u).totalBlocks = u.totalBlocks + n)
    (hg : ∀ u, (g u).totalBlocks = u.totalBlocks) : (eitherOrder f g s).totalBlocks = s.totalBlocks + n := by
  refine eitherOrder_preserves (P := fun t => t.totalBlocks = s.totalBlocks + n) ?_ ?_
  · rw [hg, hf, State.totalBlocks_draw]
  · rw [hf, hg, State.totalBlocks_draw]

theorem State.totalBlocks_carryOut (p : Port) (f : Frame) (r : StreamRecord) (x : Fate) :
    (s.carryOut p f r x).totalBlocks = s.totalBlocks + f.blocks := by
  cases x with
  | passed => exact s.totalBlocks_offerFrame _ _ _ _
  | demoted q => exact s.totalBlocks_offerFrame _ _ _ _
  | discarded _ => exact s.totalBlocks_returnBlocks _

theorem State.totalBlocks_hit (p : Port) (f : Frame) (arrival : Ticks) (i : StreamIndex) (e : StreamEntry) :
    (s.hit p f arrival i e).totalBlocks = s.totalBlocks + f.blocks := by
  unfold State.hit
  dsimp only
  split
  · exact totalBlocks_eitherOrder _ (fun u => u.totalBlocks_carryOut _ _ _ _) fun u => u.totalBlocks_raise _
  · exact State.totalBlocks_carryOut _ _ _ _ _

theorem State.totalBlocks_unlisted (p : Port) (f : Frame) :
    (s.unlisted p f).totalBlocks = s.totalBlocks + f.blocks := by
  unfold State.unlisted
  split <;> simp

theorem State.totalBlocks_miss (p : Port) (f : Frame) : (s.miss p f).totalBlocks = s.totalBlocks + f.blocks :=
  totalBlocks_eitherOrder s (fun u => u.totalBlocks_unlisted p f) fun u => u.totalBlocks_raise _

theorem State.totalBlocks_classify (p : Port) (f : Frame) (arrival : Ticks) :
    (s.classify p f arrival).totalBlocks = s.totalBlocks + f.blocks := by
  unfold State.classify
  split
  · exact s.totalBlocks_miss p f
  · split
    · exact s.totalBlocks_miss p f
    · exact s.totalBlocks_hit p f arrival _ _

theorem State.totalBlocks_misaddress (p : Port) (f : Frame) :
    (s.misaddress p f).totalBlocks = s.totalBlocks + f.blocks := by
  simp [State.misaddress]

theorem State.totalBlocks_inTransit (p : Port) (f : Frame) :
    (s.inTransit p f).totalBlocks = s.totalBlocks + f.blocks := s.totalBlocks_offerFrame _ _ _ _

/-- The copy of a broadcast holds the blocks that the pool granted (R17). -/
theorem State.totalBlocks_broadcastCopy (p : Port) (f : Frame) : (s.broadcastCopy p f).totalBlocks = s.totalBlocks := by
  unfold State.broadcastCopy
  split
  · exact s.totalBlocks_countPort p _
  · rename_i t ht
    rw [State.totalBlocks_inTransit, State.totalBlocks_takeBlocks ht]

theorem State.totalBlocks_route (p : Port) (f : Frame) (arrival : Ticks) :
    (s.route p f arrival).totalBlocks = s.totalBlocks + f.blocks := by
  unfold State.route
  split
  case h_1 =>
    split
    · exact s.totalBlocks_misaddress p f
    · exact s.totalBlocks_classify p f arrival
  case h_2 =>
    unfold State.routeBeat
    split
    · exact totalBlocks_eitherOrder s (fun u => u.totalBlocks_inTransit p f) fun u => u.totalBlocks_reportBeat arrival
    · exact s.totalBlocks_inTransit p f
  case h_3 =>
    unfold State.routeControl
    split
    · exact totalBlocks_eitherOrder s (fun u => u.totalBlocks_deliverRequest f p) fun u => u.totalBlocks_broadcastCopy p f
    · split
      · exact s.totalBlocks_deliverRequest f p
      · exact s.totalBlocks_inTransit p f
  case h_6 =>
    unfold State.routeAck
    split
    · rw [State.totalBlocks_takeAck, State.totalBlocks_returnBlocks]
    · exact s.totalBlocks_inTransit p f
  all_goals
    split
    · exact s.totalBlocks_misaddress p f
    · exact s.totalBlocks_inTransit p f

/-! ## Reception (R6 to R10) -/

/-- The blocks of a frame in reception return (R8). -/
theorem State.totalBlocks_abandon {p : Port} {old bytes : List Byte} (f : PortCounters → PortCounters)
    (hr : (s.port p).receiver = .receiving old) (hb : receptionBlocks bytes = receptionBlocks old) :
    (s.abandon p bytes f).totalBlocks = s.totalBlocks := by
  have hset := ((s.returnBlocks (receptionBlocks old)).countPort p f).totalBlocks_setReceiver p .discarding
  have hp : (((s.returnBlocks (receptionBlocks old)).countPort p f).port p).receiver = .receiving old := by
    rw [← hr]; cases p <;> rfl
  rw [State.abandon, hb]
  simpa [hp] using hset

theorem State.totalBlocks_startFrame (p : Port) : (s.startFrame p).totalBlocks = s.totalBlocks := by
  unfold State.startFrame
  split
  · rename_i hc
    obtain ⟨_, hi⟩ := hc
    split
    · rename_i t ht
      have hgrant := State.totalBlocks_takeBlocks ht
      have hset := t.totalBlocks_setReceiver p (.receiving [])
      have hone : receptionBlocks [] = 1 := rfl
      rw [((State.takeBlocks_onlySending ht).port p).receiver, hi] at hset
      simp only [Receiver.blocks_idle, Receiver.blocks_receiving, hone] at hset
      omega
    · have hset := (s.countPort p PortCounters.countNoBuffer).totalBlocks_setReceiver p .discarding
      have hp : ((s.countPort p PortCounters.countNoBuffer).port p).receiver = .idle := by
        rw [← hi]; cases p <;> rfl
      simpa [hp] using hset
  · rfl

theorem State.totalBlocks_completeHeader (p : Port) (bytes : List Byte) :
    (s.completeHeader p bytes).totalBlocks = s.totalBlocks := by
  unfold State.completeHeader
  split
  · rename_i hr
    split
    · rfl
    · rename_i hlen
      have hb : receptionBlocks bytes = receptionBlocks [] := by
        rw [receptionBlocks_eq (k := 1) (by omega) (by omega)]; rfl
      split
      · exact s.totalBlocks_abandon _ hr hb
      · split
        · exact s.totalBlocks_abandon _ hr hb
        · have hset := s.totalBlocks_setReceiver p (.receiving bytes)
          simpa [hr, hb] using hset
  · rfl

theorem State.totalBlocks_crossBoundary (p : Port) (bytes : List Byte) :
    (s.crossBoundary p bytes).totalBlocks = s.totalBlocks := by
  unfold State.crossBoundary
  split
  · rename_i old hr
    split
    · rename_i hreach
      split
      · rename_i hg
        have hpool : 1 ≤ s.pool := by
          unfold State.grantsBlock at hg
          split at hg <;> simp only [decide_eq_true_eq] at hg <;> omega
        have hset := ({ s with pool := s.pool - 1 } : State).totalBlocks_setReceiver p (.receiving (old ++ bytes))
        have hp : (({ s with pool := s.pool - 1 } : State).port p).receiver = .receiving old := by
          rw [← hr]; cases p <;> rfl
        rw [hp, Receiver.blocks_receiving, Receiver.blocks_receiving, receptionBlocks_boundary hreach] at hset
        have hgrant : ({ s with pool := s.pool - 1 } : State).totalBlocks + 1 = s.totalBlocks := by
          simp only [State.totalBlocks]; omega
        omega
      · exact s.totalBlocks_abandon _ hr rfl
    · rfl
  · rfl

theorem State.totalBlocks_takeSurplus (p : Port) (bytes : List Byte) :
    (s.takeSurplus p bytes).totalBlocks = s.totalBlocks := by
  unfold State.takeSurplus
  split
  · rename_i old hr
    split
    · exact s.totalBlocks_abandon _ hr rfl
    · rfl
  · rfl

/-- At the end of a frame the blocks of its reception return, or pass to the accepted frame (R10). -/
theorem State.totalBlocks_endReception {p : Port} {old bytes : List Byte} (hr : (s.port p).receiver = .receiving old)
    (he : reachesEnd old bytes = true) : (s.endReception p old (old ++ bytes)).totalBlocks = s.totalBlocks := by
  have hidle : (s.setReceiver p .idle).totalBlocks + receptionBlocks old = s.totalBlocks := by
    simpa [hr] using s.totalBlocks_setReceiver p .idle
  unfold State.endReception
  dsimp only
  split
  · rw [State.totalBlocks_countPort, State.totalBlocks_returnBlocks, hidle]
  · rw [State.totalBlocks_countPort, State.totalBlocks_returnBlocks, hidle]
  · rename_i f hj
    rw [State.totalBlocks_route, State.totalBlocks_countPort, blocks_of_reachesEnd he hj, hidle]

theorem State.totalBlocks_endFrame (p : Port) (bytes : List Byte) : (s.endFrame p bytes).totalBlocks = s.totalBlocks := by
  unfold State.endFrame
  split
  · rfl
  · rename_i hr
    simpa [hr] using s.totalBlocks_setReceiver p .idle
  · rename_i old hr
    split
    · rename_i he
      exact s.totalBlocks_endReception hr he
    · rfl

/-! ## Transmission, windows and links (R18, R110, R2, R3) -/

/-- The blocks of a frame on the line return at its completion (R18). -/
theorem State.totalBlocks_completeTransmission (p : Port) : (s.completeTransmission p).totalBlocks = s.totalBlocks := by
  unfold State.completeTransmission
  split
  · rfl
  · rename_i q f c ht
    have hset := ((s.returnBlocks f.blocks).countQueue p q fun c =>
      { c with transmitted := countUp c.transmitted }).totalBlocks_setTransmitter p .idle
    have hp : (((s.returnBlocks f.blocks).countQueue p q fun c =>
        { c with transmitted := countUp c.transmitted }).port p).transmitter = .sending q f c := by
      rw [← ht]; cases p <;> rfl
    rw [State.totalBlocks_trySelect]
    simpa [hp] using hset

theorem State.totalBlocks_changeWindow (p : Port) : (s.changeWindow p).totalBlocks = s.totalBlocks := by
  unfold State.changeWindow
  rw [State.totalBlocks_trySelect]
  exact State.totalBlocks_modPort_of rfl

theorem State.totalBlocks_raiseLink (p : Port) : (s.raiseLink p).totalBlocks = s.totalBlocks := by
  have hup : (s.modPort p fun P => { P with link := .up, linkPinHigh := false }).totalBlocks = s.totalBlocks :=
    State.totalBlocks_modPort_of rfl
  unfold State.raiseLink State.noticeLinkUp
  split
  · split
    · rw [State.totalBlocks_trySend, State.totalBlocks_trySelect, hup]
    · rw [State.totalBlocks_trySelect, hup]
  · rfl

/-- A dropped port returns every block it held (R3, R4). -/
theorem State.totalBlocks_dropLink (p : Port) : (s.dropLink p).totalBlocks = s.totalBlocks := by
  cases hl : (s.port p).link with
  | down => rw [s.dropLink_down p hl]
  | up =>
    have hm := s.totalBlocks_modPort p PortState.dropped
    rw [PortState.heldBlocks_dropped] at hm
    rw [s.dropLink_eq p hl]
    simp only [State.totalBlocks, Engine.departs_queue, State.modPort_pool, State.modPort_engine] at hm ⊢
    omega

end

/-! ## Every event and every step -/

theorem State.Effect.totalBlocks {s u : State} (h : s.Effect u) : u.totalBlocks = s.totalBlocks := by
  cases h with
  | nothing => rfl
  | linkUp p => exact s.totalBlocks_raiseLink p
  | linkDown p => exact s.totalBlocks_dropLink p
  | frameStart p => exact s.totalBlocks_startFrame p
  | headerCompletion p bytes => exact s.totalBlocks_completeHeader p bytes
  | blockBoundary p bytes => exact s.totalBlocks_crossBoundary p bytes
  | surplusByte p bytes => exact s.totalBlocks_takeSurplus p bytes
  | endOfFrame p bytes => exact s.totalBlocks_endFrame p bytes
  | completion p t => exact State.totalBlocks_completeTransmission _ p
  | scheduledStart t => exact State.totalBlocks_scheduledStart _
  | windowChange p t => exact State.totalBlocks_changeWindow _ p
  | leaseExpiry t => exact State.totalBlocks_expireLease _
  | retryExpiry t => exact State.totalBlocks_retryExpired _
  | purgeVisit => exact s.totalBlocks_visitNext
  | take o => exact s.totalBlocks_takeRequest o

/-- The device right after a cold reset has all its blocks in the pool (R63). -/
theorem State.totalBlocks_coldReset (station : Half) : (State.coldReset station).totalBlocks = Config.poolBlocks := by
  have hP : PortState.coldReset.heldBlocks = 0 :=
    congrArg (0 + · + 0) (Queue.freshAll_blocks PortState.coldReset)
  simp [State.totalBlocks, State.coldReset, hP, Engine.default]

theorem State.BlocksConserved.exec {s t : State} {i : Instr} (h : s.BlocksConserved) (ht : exec i s = .next t) :
    t.BlocksConserved := by
  rw [State.blocksConserved_iff] at h ⊢
  obtain ⟨station, held, rfl⟩ | rfl | ⟨u, hu, rfl⟩ := exec_spec ht
  · exact State.totalBlocks_coldReset station
  · exact h
  · rw [State.totalBlocks_settle, hu.totalBlocks, h]

/-- Settles O3: no event changes the sum of all blocks, and a cold reset puts all of them into the pool. -/
theorem everyStepConservesBlocks : Obligations.EveryStepConservesBlocks := by
  intro s t h ht
  obtain ⟨i, rest, _, e⟩ | ⟨_, e⟩ := step_spec s <;> rw [e] at ht
  · exact State.BlocksConserved.exec (s := { s with pending := rest }) h ht
  · obtain e | e | e | ⟨i, e | e⟩ := idle_spec s <;> rw [e] at ht
    · cases ht; exact h
    · cases ht; exact h
    · cases ht; exact h
    · exact h.exec ht
    · exact State.BlocksConserved.exec (s := s.draw.2) h ht

end Sys2Proof.Machine
end

section
/-! SUPPORT. The things that a cycle start leaves to be done only send frames and list notices: what their doing, in any
order, leaves of the device (R74, R83, R111, R147). -/

namespace Sys2Proof.Machine

/-! ## Ageing, selections and events raised -/

theorem State.reportDepartures_onlySending (s : State) (fs : List QueuedFrame) :
    s.OnlySending (s.reportDepartures fs) := by
  unfold State.reportDepartures
  induction fs generalizing s with
  | nil => exact .refl s
  | cons f fs ih => exact (s.reportDeparture_onlySending f.origin).trans (ih _)

theorem State.ageQueue_onlySending (s : State) (p : Port) (q : QueueNo) : s.OnlySending (s.ageQueue p q) := by
  unfold State.ageQueue
  dsimp only
  split
  · exact .refl _
  · refine .trans (.trans ?_ (State.returnBlocks_onlySending _ _)) (State.reportDepartures_onlySending _ _)
    exact s.modQueue_onlySending p q _ (fun _ => rfl) fun _ => rfl

theorem State.ageQueue_engine (s : State) (p : Port) (q : QueueNo) (h : s.engine.state ≠ .resetting) :
    (s.ageQueue p q).engine = s.engine := by
  by_cases ha : (s.queue p q).ageLimit = 0
  · rw [State.ageQueue_zero ha]
  · rw [State.ageQueue_pos ha]
    exact Engine.departs_eq _ _ h

/-! ## What an event hands on -/

/-- From `u` to `t` frames are sent and notices listed, and outside RESETTING the engine is left alone (R126). -/
structure State.HandsOn (u t : State) : Prop where
  sending : u.OnlySending t
  engine : u.engine.state ≠ .resetting → t.engine = u.engine

theorem State.HandsOn.refl (s : State) : s.HandsOn s := ⟨.refl s, fun _ => rfl⟩

theorem State.HandsOn.trans {s t u : State} (h : s.HandsOn t) (k : t.HandsOn u) : s.HandsOn u :=
  ⟨h.sending.trans k.sending, fun hr => (k.engine (by rwa [h.engine hr])).trans (h.engine hr)⟩

theorem State.freeCount_handsOn (s : State) (n : Nat) : s.HandsOn { s with freeCount := n } :=
  ⟨s.freeCount_onlySending n, fun _ => rfl⟩

theorem State.trySelect_handsOn (s : State) (p : Port) : s.HandsOn (s.trySelect p) :=
  ⟨s.trySelect_onlySending p, s.trySelect_engine p⟩

theorem State.raise_handsOn (s : State) (e : Event) : s.HandsOn (s.raise e) :=
  ⟨s.raise_onlySending e, s.raise_engine e⟩

theorem runWork_handsOn (w : Work) (s : State) : s.HandsOn (runWork w s) := by
  cases w with
  | age p q => exact ⟨s.ageQueue_onlySending p q, s.ageQueue_engine p q⟩
  | select p => exact s.trySelect_handsOn p
  | raise e => exact s.raise_handsOn e

/-! ## Things done once each -/

section
variable {s t : State} {things : Work → Prop} (h : s.EachDone things t)
include h

theorem State.EachDone.handsOn : s.HandsOn t := by
  obtain ⟨n, ws, _, _, _, rfl⟩ := h
  have hfold : ∀ (ws : List Work) (x : State), s.HandsOn x → s.HandsOn (ws.foldl (fun x w => runWork w x) x) := by
    intro ws
    induction ws with
    | nil => exact fun x hx => hx
    | cons w ws ih => exact fun x hx => ih _ (hx.trans (runWork_handsOn w x))
  exact hfold ws _ (s.freeCount_handsOn n)

/-- The things to be done, told in another way. -/
theorem State.EachDone.congr {things' : Work → Prop} (hw : ∀ w, things w ↔ things' w) : s.EachDone things' t := by
  obtain ⟨n, ws, hn, hd, hm, rfl⟩ := h
  exact ⟨n, ws, hn, hd, fun w => (hm w).trans (hw w), rfl⟩

end

theorem cycleWork_each_nodup (s : State) (realign : Bool) : (cycleWork s realign).Nodup :=
  (List.nodup_append.1 (cycleWork_nodup s realign)).1

/-! ## The scheduled cycle start (R82, R83, R92) -/

/-- A cycle counts as missed in LOCKED without its beat (R92). -/
theorem State.missed_iff (s : State) : s.missed = true ↔ s.beat.state = .locked ∧ s.timer.beatSeen = false := by
  simp [State.missed]

/-- A scheduled start loses the beat at the fourth miss (R92). -/
theorem State.lostByMiss_iff (s : State) :
    s.lostByMiss false = true ↔ s.beat.state = .locked ∧ s.timer.beatSeen = false ∧ 3 ≤ s.beat.missCount := by
  have hlimit : Config.missLimit ≤ s.beat.missCount + 1 ↔ 3 ≤ s.beat.missCount := by
    show 4 ≤ _ ↔ _
    omega
  simp [State.lostByMiss, s.missed_iff, and_assoc, hlimit]

/-- A cycle that is not missed leaves beat following as it is (R92). -/
theorem beatAtStart_kept {s : State} (h : s.missed = false) (realign : Bool) : beatAtStart s realign = s.beat := by
  simp [beatAtStart, h]

/-- A miss at a realign is counted and loses no beat (R92). -/
theorem beatAtStart_realign_missed {s : State} (h : s.missed = true) :
    beatAtStart s true =
      { s.beat with
        missCount := s.beat.missCount + 1
        counters := { s.beat.counters with misses := countUp s.beat.counters.misses } } := by
  simp [beatAtStart, h, State.lostByMiss]

/-- The scheduled start begins the new cycle and hands on what it brings. -/
theorem State.scheduledStart_eachDone (s : State) :
    (s.startCycle s.timer.scheduledEnd false).EachDone
      (fun w => s.StartBrings w
        ∨ w = .raise .beatLost ∧ s.beat.state = .locked ∧ s.timer.beatSeen = false ∧ 3 ≤ s.beat.missCount)
      s.scheduledStart :=
  (inAnyOrder_spec (cycleWork_each_nodup s false) _).congr fun w => by
    rw [mem_cycleWork_scheduled, s.lostByMiss_iff]

/-! ## Realigns (R83, R111, R117) -/

/-- The cycle that a beat starts at its arrival: the index up by 1, a pending commit swapped, the gates in window 0 of
the plans then active, an overrun counted at a SENDING port, the beat seen. -/
def State.nextCycle (s : State) (now : Ticks) : State :=
  let plans := s.plans.atCycleStart (s.timer.index + 1)
  let length := (plans.activePlan .u).cycleLength
  { s with
    timer := ⟨s.timer.index + 1, now, now + length, length, true⟩
    plans := plans
    portU := s.portU.realigned (now + (plans.activePlan .u).duration 0)
    portD := s.portD.realigned (now + (plans.activePlan .d).duration 0) }

theorem gateAtStart_realign (plan : Plan) (now : Ticks) (P : PortState) :
    gateAtStart plan now true P = P.realigned (now + plan.duration 0) := by
  unfold gateAtStart PortState.realigned PortState.isSending
  cases P.transmitter <;> simp

/-- A realign whose beat is marked starts the next cycle, and counts the miss of the cycle that ended (R83, R92). -/
theorem State.startCycle_realign (s : State) (now : Ticks) :
    (s.startCycle now true).markBeat = { s.nextCycle now with beat := beatAtStart s true } := by
  simp only [State.startCycle, gateAtStart_realign, State.markBeat, State.nextCycle]

/-! ## What a beat comes to (R86 to R91) -/

/-- A beat that locks at the instant of its cycle's start (R86). -/
def State.lockedBeat (s : State) : State :=
  { s with
    timer := { s.timer with beatSeen := true }
    beat :=
      { s.beat with
        state := .locked
        faultCount := 0
        missCount := 0
        lastError := none
        counters := { s.beat.counters with beats := countUp s.beat.counters.beats } } }

/-- A beat that realigns and locks (R86). -/
def State.realignedBeat (s : State) (now : Ticks) : State :=
  { s.nextCycle now with
    beat :=
      { s.beat with
        state := .locked
        faultCount := 0
        missCount := 0
        lastError := none
        counters :=
          { s.beat.counters with
            beats := countUp s.beat.counters.beats
            realigns := countUp s.beat.counters.realigns } } }

/-- A beat after the first of its cycle (R91). -/
def State.extraBeat (s : State) : State :=
  { s with
    beat :=
      { s.beat with
        counters :=
          { s.beat.counters with
            beats := countUp s.beat.counters.beats
            extra := countUp s.beat.counters.extra } } }

/-- A tolerated late beat re-anchors the cycle (R88, R112). -/
def State.reAnchoredBeat (s : State) (now : Ticks) (error : Int) : State :=
  { s with
    timer := { s.timer with start := now, scheduledEnd := now + s.timer.length, beatSeen := true }
    beat :=
      { s.beat with
        faultCount := 0
        missCount := 0
        lastError := some error
        counters :=
          { s.beat.counters with
            beats := countUp s.beat.counters.beats
            reAnchors := countUp s.beat.counters.reAnchors } }
    portU := gateAtReAnchor (s.plans.activePlan .u) now s.portU
    portD := gateAtReAnchor (s.plans.activePlan .d) now s.portD }

/-- A tolerated early beat starts the next cycle; the miss of the cycle that ended is counted (R89, R92). -/
def State.earlyStartedBeat (s : State) (now : Ticks) (error : Int) : State :=
  { s.nextCycle now with
    beat :=
      { s.beat with
        faultCount := 0
        missCount := 0
        lastError := some error
        counters :=
          { s.beat.counters with
            beats := countUp s.beat.counters.beats
            realigns := countUp s.beat.counters.realigns
            misses := countUp s.beat.counters.misses } } }

/-- A first beat outside the tolerance is a fault, the third of which loses the beat (R90). -/
def State.faultedBeat (s : State) : State :=
  { s with
    timer := { s.timer with beatSeen := true }
    beat :=
      { s.beat with
        state := if s.beat.faultCount < 2 then .locked else .lost
        faultCount := s.beat.faultCount + 1
        counters :=
          { s.beat.counters with
            beats := countUp s.beat.counters.beats
            faults := countUp s.beat.counters.faults
            lost := if s.beat.faultCount < 2 then s.beat.counters.lost else countUp s.beat.counters.lost } } }

/-! ## The report of a beat, case by case -/

/-- What a realign hands on does not depend on the counters of beat following. -/
theorem mem_cycleWork_counted (s : State) (f : BeatCounters → BeatCounters) (w : Work) :
    w ∈ cycleWork (s.countBeat f) true ↔ s.RealignBrings w :=
  mem_cycleWork_realign (s.countBeat f) w

section
variable {s : State} {now : Ticks}

theorem State.reportBeat_free (h : s.beat.state = .free) : s.reportBeat now = s := by
  simp only [State.reportBeat, h]

section
variable (h : s.beat.state = .seeking ∨ s.beat.state = .lost)
include h

theorem State.reportBeat_locking :
    s.reportBeat now = (s.countBeat fun c => { c with beats := countUp c.beats }).lockingBeat now := by
  unfold State.reportBeat
  rcases h with h | h <;> rw [h]

/-- At the very instant its cycle started a beat locks only (R86, log entry 18). -/
theorem State.reportBeat_locks (hn : s.timer.start = now) : s.reportBeat now = s.lockedBeat.raise .beatLocked := by
  rw [State.reportBeat_locking h]
  exact if_pos hn

/-- At any other instant it starts a new cycle and locks (R86). -/
theorem State.reportBeat_realigns (hn : s.timer.start ≠ now) :
    (s.realignedBeat now).EachDone (fun w => s.RealignBrings w ∨ w = .raise .beatLocked) (s.reportBeat now) := by
  have hmiss : ∀ f, (s.countBeat f).missed = false := by
    intro f
    rcases h with h | h <;> simp [State.missed, h]
  have hstart : ∀ f, ((s.countBeat f).startCycle now true).lock =
      { s.nextCycle now with beat := (s.countBeat f).lock.beat } := by
    intro f
    have hm := (s.countBeat f).startCycle_realign now
    rw [beatAtStart_kept (hmiss f)] at hm
    exact congrArg (fun x : State => { x with beat := x.lock.beat }) hm
  rw [State.reportBeat_locking h]
  unfold State.lockingBeat
  rw [if_neg (by exact hn), hstart]
  exact (inAnyOrder_spec (cycleWork_nodup _ true) _).congr fun w => by
    rw [List.mem_append, List.mem_singleton, mem_cycleWork_counted]

end

section
variable (h : s.beat.state = .locked)
include h

/-- A beat after the first is extra (R91). -/
theorem State.reportBeat_extra (hb : s.timer.beatSeen = true) : s.reportBeat now = s.extraBeat := by
  simp only [State.reportBeat, h, State.countBeat_timer, hb, if_true]
  rfl

variable (hb : s.timer.beatSeen = false)
include hb

theorem State.reportBeat_first :
    s.reportBeat now = (s.countBeat fun c => { c with beats := countUp c.beats }).firstBeat now := by
  simp only [State.reportBeat, h, State.countBeat_timer, hb, Bool.false_eq_true, if_false]

/-- A first beat late by no more than Tb re-anchors, and each gate tries a selection (R88, R112). -/
theorem State.reportBeat_reAnchors (hc : 2 * (now - s.timer.start) ≤ s.timer.length)
    (ha : now - s.timer.start ≤ s.beat.tolerance) :
    s.reportBeat now = ((s.reAnchoredBeat now (now - s.timer.start : Nat)).trySelect .u).trySelect .d := by
  rw [State.reportBeat_first h hb]
  unfold State.firstBeat
  dsimp only
  rw [if_pos (by exact hc), if_pos (by exact ha)]
  rfl

/-- A first beat further than Tb from either end of its cycle is a fault (R90). -/
theorem State.reportBeat_faults
    (hf : 2 * (now - s.timer.start) ≤ s.timer.length ∧ s.beat.tolerance < now - s.timer.start
      ∨ s.timer.length < 2 * (now - s.timer.start)
        ∧ s.beat.tolerance < s.timer.length - (now - s.timer.start)) :
    s.reportBeat now = if s.beat.faultCount < 2 then s.faultedBeat else s.faultedBeat.raise .beatLost := by
  have hfault : s.reportBeat now = (s.countBeat fun c => { c with beats := countUp c.beats }).beatFault := by
    rw [State.reportBeat_first h hb]
    unfold State.firstBeat
    dsimp only
    rcases hf with ⟨hc, ha⟩ | ⟨hc, ha⟩
    · rw [if_pos (by exact hc), if_neg (by exact Nat.not_le.2 ha)]
    · rw [if_neg (by exact Nat.not_le.2 hc), if_neg (by exact Nat.not_le.2 ha)]
  rw [hfault]
  unfold State.beatFault State.faultedBeat
  have hlimit : Config.faultLimit ≤ s.beat.faultCount + 1 ↔ ¬ s.beat.faultCount < 2 := by
    show 3 ≤ _ ↔ _
    omega
  by_cases hl : s.beat.faultCount < 2
  · simp [hl, hlimit, State.markBeat, State.countBeat, h]
  · simp [hl, hlimit, State.markBeat, State.countBeat]

/-- A first beat early by no more than Tb starts the next cycle (R89). -/
theorem State.reportBeat_startsEarly (hc : s.timer.length < 2 * (now - s.timer.start))
    (ha : s.timer.length - (now - s.timer.start) ≤ s.beat.tolerance) :
    (s.earlyStartedBeat now ((now : Int) - (s.timer.start + s.timer.length : Nat))).EachDone s.RealignBrings
      (s.reportBeat now) := by
  have hstart : ∀ f e, (((s.countBeat f).startCycle now true).tolerate e).markBeat =
      { s.nextCycle now with
        beat :=
          { s.beat with
            faultCount := 0
            missCount := 0
            lastError := some e
            counters :=
              { f s.beat.counters with misses := countUp (f s.beat.counters).misses } } } := by
    intro f e
    have hm := (s.countBeat f).startCycle_realign now
    rw [beatAtStart_realign_missed (s := s.countBeat f) ((State.missed_iff _).2 ⟨h, hb⟩)] at hm
    exact congrArg (fun x : State => x.tolerate e) hm
  rw [State.reportBeat_first h hb]
  unfold State.firstBeat
  dsimp only
  rw [if_neg (by exact Nat.not_le.2 hc), if_pos (by exact ha)]
  unfold State.earlyBeat
  dsimp only
  rw [hstart]
  exact (inAnyOrder_spec (cycleWork_each_nodup _ true) _).congr fun w => mem_cycleWork_counted s _ w

end
end

/-! ## Every report -/

/-- What a report of a beat to beat following in each of its states leaves, before it hands anything on. -/
inductive State.Judged (s : State) (now : Ticks) : State → Prop
  | unreported (h : s.beat.state = .free) : s.Judged now s
  | locks (h : s.beat.state = .seeking ∨ s.beat.state = .lost) : s.Judged now s.lockedBeat
  | realigns (h : s.beat.state = .seeking ∨ s.beat.state = .lost) : s.Judged now (s.realignedBeat now)
  | extra (h : s.beat.state = .locked) : s.Judged now s.extraBeat
  | reAnchors (h : s.beat.state = .locked) (error : Int) : s.Judged now (s.reAnchoredBeat now error)
  | startsEarly (h : s.beat.state = .locked) (error : Int) : s.Judged now (s.earlyStartedBeat now error)
  | faults (h : s.beat.state = .locked) : s.Judged now s.faultedBeat

theorem State.Judged.engine {s u : State} {now : Ticks} (h : s.Judged now u) : u.engine = s.engine := by
  cases h <;> rfl

/-- A beat is judged, and what it then hands on leaves the judgement as it is. -/
theorem State.reportBeat_judged (s : State) (now : Ticks) : ∃ u, s.Judged now u ∧ u.HandsOn (s.reportBeat now) := by
  have hlocking : s.beat.state = .seeking ∨ s.beat.state = .lost →
      ∃ u, s.Judged now u ∧ u.HandsOn (s.reportBeat now) := by
    intro h
    by_cases hn : s.timer.start = now
    · rw [State.reportBeat_locks h hn]
      exact ⟨_, .locks h, State.raise_handsOn _ _⟩
    · exact ⟨_, .realigns h, (State.reportBeat_realigns h hn).handsOn⟩
  have hfault : s.beat.state = .locked →
      s.reportBeat now = s.faultedBeat ∨ s.reportBeat now = s.faultedBeat.raise .beatLost →
      ∃ u, s.Judged now u ∧ u.HandsOn (s.reportBeat now) := by
    rintro h (e | e) <;> rw [e]
    · exact ⟨_, .faults h, .refl _⟩
    · exact ⟨_, .faults h, State.raise_handsOn _ _⟩
  cases h : s.beat.state with
  | free => exact ⟨_, .unreported h, by rw [State.reportBeat_free h]; exact .refl s⟩
  | seeking => exact hlocking (.inl h)
  | lost => exact hlocking (.inr h)
  | locked =>
    cases hb : s.timer.beatSeen with
    | true => exact ⟨_, .extra h, by rw [State.reportBeat_extra h hb]; exact .refl _⟩
    | false =>
      have hlost := fun hf => ite_eq_or_eq (s.beat.faultCount < 2) _ _ |>.imp
        (State.reportBeat_faults (now := now) h hb hf).trans (State.reportBeat_faults h hb hf).trans
      rcases le_or_gt (2 * (now - s.timer.start)) s.timer.length with hc | hc
      · rcases le_or_gt (now - s.timer.start) s.beat.tolerance with ha | ha
        · rw [State.reportBeat_reAnchors h hb hc ha]
          exact ⟨_, .reAnchors h _, (State.trySelect_handsOn _ _).trans (State.trySelect_handsOn _ _)⟩
        · exact hfault h (hlost (.inl ⟨hc, ha⟩))
      · rcases le_or_gt (s.timer.length - (now - s.timer.start)) s.beat.tolerance with ha | ha
        · exact ⟨_, .startsEarly h _, (State.reportBeat_startsEarly h hb hc ha).handsOn⟩
        · exact hfault h (hlost (.inr ⟨hc, ha⟩))

end Sys2Proof.Machine
end

section
/-! SUPPORT. What the events of the device leave of the time base: the station address and local time stand, and beat
following stays sound (R80, R85, R90, R92, R130, O10, O12). -/

namespace Sys2Proof.Machine

/-- From `s` to `t` the station address and local time stand, and beat following is sound if it was. -/
structure State.ClockKept (s t : State) : Prop where
  station : t.station = s.station
  localTime : t.localTime = s.localTime
  beat : s.BeatSound → t.BeatSound

/-! ## The relation -/

theorem State.ClockKept.refl (s : State) : s.ClockKept s := ⟨rfl, rfl, id⟩

theorem State.ClockKept.trans {s t u : State} (h : s.ClockKept t) (k : t.ClockKept u) : s.ClockKept u :=
  ⟨k.station.trans h.station, k.localTime.trans h.localTime, k.beat ∘ h.beat⟩

/-- What leaves station address, local time and beat following alone. -/
theorem State.ClockKept.of_eq {s t : State} (hs : t.station = s.station) (hl : t.localTime = s.localTime)
    (hb : t.beat = s.beat) : s.ClockKept t :=
  ⟨hs, hl, fun h => by unfold State.BeatSound; rwa [hb]⟩

theorem State.OnlySending.clockKept {s t : State} (h : s.OnlySending t) : s.ClockKept t :=
  .of_eq h.station h.localTime h.beat

/-- Something that keeps the clock, followed by what only sends. -/
theorem State.ClockKept.sending {s t u : State} (h : s.ClockKept t) (k : t.OnlySending u) : s.ClockKept u :=
  h.trans k.clockKept

theorem State.modPort_clockKept (s : State) (p : Port) (f : PortState → PortState) : s.ClockKept (s.modPort p f) :=
  .of_eq (s.modPort_station p f) (s.modPort_localTime p f) (s.modPort_beat p f)

theorem State.countPort_clockKept (s : State) (p : Port) (f : PortCounters → PortCounters) :
    s.ClockKept (s.countPort p f) := s.modPort_clockKept p _

theorem State.modQueue_clockKept (s : State) (p : Port) (q : QueueNo) (f : Queue → Queue) :
    s.ClockKept (s.modQueue p q f) := s.modPort_clockKept p _

theorem State.setReceiver_clockKept (s : State) (p : Port) (r : Receiver) : s.ClockKept (s.setReceiver p r) :=
  s.modPort_clockKept p _

theorem State.returnBlocks_clockKept (s : State) (n : Nat) : s.ClockKept (s.returnBlocks n) := .of_eq rfl rfl rfl

theorem eitherOrder_clockKept {f g : State → State} (s : State) (hf : ∀ x : State, x.ClockKept (f x))
    (hg : ∀ x : State, x.ClockKept (g x)) : s.ClockKept (eitherOrder f g s) := by
  have hdraw : s.ClockKept s.draw.2 := .of_eq rfl rfl rfl
  exact eitherOrder_preserves (P := s.ClockKept) ((hdraw.trans (hf _)).trans (hg _)) ((hdraw.trans (hg _)).trans (hf _))

/-! ## Cycles and beats (R86 to R92) -/

/-- At a scheduled start the fourth miss makes beat following LOST, so fewer stand in LOCKED (R92). -/
theorem State.startCycle_clockKept (s : State) (start : Ticks) : s.ClockKept (s.startCycle start false) := by
  refine ⟨rfl, rfl, fun h => ?_⟩
  obtain ⟨hfree, hfault, hmiss, hlocked⟩ := h
  have hb : (s.startCycle start false).beat = beatAtStart s false := rfl
  unfold State.BeatSound
  rw [hb, beatAtStart]
  split
  · rename_i hm
    obtain ⟨hl, hseen⟩ := s.missed_iff.1 hm
    obtain ⟨hf, hlt⟩ := hlocked hl
    have hs : s.beat.source ≠ none := fun hn => by rw [hfree.2 hn] at hl; cases hl
    dsimp only
    split
    · exact ⟨by simp [hs], hfault, hlt, by simp⟩
    · rename_i hn
      have h3 : ¬ 3 ≤ s.beat.missCount := fun h3 => hn (s.lostByMiss_iff.2 ⟨hl, hseen, h3⟩)
      exact ⟨hfree, hfault, hlt, fun _ => ⟨hf, by show _ < 4; omega⟩⟩
  · exact ⟨hfree, hfault, hmiss, hlocked⟩

theorem State.scheduledStart_clockKept (s : State) : s.ClockKept s.scheduledStart :=
  (s.startCycle_clockKept _).sending s.scheduledStart_eachDone.handsOn.sending

/-- Beat following with a source is sound when it is LOCKED with both counts 0 (R86, R87). -/
theorem State.beatSound_of_locked {s : State} (hl : s.beat.state = .locked) (hs : s.beat.source ≠ none)
    (hf : s.beat.faultCount = 0) (hm : s.beat.missCount = 0) : s.BeatSound := by
  simp [State.BeatSound, hl, hs, hf, hm]

/-- Sound beat following that is not FREE has a source (R85). -/
theorem State.BeatSound.source {s : State} (h : s.BeatSound) (hs : s.beat.state ≠ .free) : s.beat.source ≠ none :=
  fun hn => hs (h.1.2 hn)

/-- The third fault makes beat following LOST, so fewer stand in LOCKED (R90). -/
theorem State.BeatSound.faultedBeat {s : State} (h : s.BeatSound) (hl : s.beat.state = .locked) :
    s.faultedBeat.BeatSound := by
  obtain ⟨hf, hm⟩ := h.2.2.2 hl
  have hs := h.source (by simp [hl])
  have hf3 : s.beat.faultCount < 3 := hf
  unfold State.BeatSound State.faultedBeat
  dsimp only
  split
  · exact ⟨by simp [hs], hf, h.2.2.1, fun _ => ⟨by show _ < 3; omega, hm⟩⟩
  · exact ⟨by simp [hs], hf, h.2.2.1, by simp⟩

theorem State.Judged.clockKept {s u : State} {now : Ticks} (h : s.Judged now u) : s.ClockKept u := by
  cases h with
  | unreported => exact .refl s
  | locks h =>
    refine ⟨rfl, rfl, fun hb => State.beatSound_of_locked rfl (hb.source ?_) rfl rfl⟩
    rcases h with h | h <;> simp [h]
  | realigns h =>
    refine ⟨rfl, rfl, fun hb => State.beatSound_of_locked rfl (hb.source ?_) rfl rfl⟩
    rcases h with h | h <;> simp [h]
  | extra h => exact ⟨rfl, rfl, fun hb => hb⟩
  | reAnchors h => exact ⟨rfl, rfl, fun hb => State.beatSound_of_locked h (hb.source (by simp [h])) rfl rfl⟩
  | startsEarly h => exact ⟨rfl, rfl, fun hb => State.beatSound_of_locked h (hb.source (by simp [h])) rfl rfl⟩
  | faults h => exact ⟨rfl, rfl, fun hb => hb.faultedBeat h⟩

theorem State.reportBeat_clockKept (s : State) (now : Ticks) : s.ClockKept (s.reportBeat now) := by
  obtain ⟨u, hu, ht⟩ := s.reportBeat_judged now
  exact hu.clockKept.sending ht.sending

/-! ## Notices (chapter 9) -/

theorem State.changeDestination_clockKept (s : State) (dest : Option Requester) :
    s.ClockKept (s.changeDestination dest) := by
  unfold State.changeDestination State.drawTieIndex
  split
  · exact .of_eq rfl rfl rfl
  · dsimp only
    split <;> exact .of_eq rfl rfl rfl

theorem State.recomputeDestination_clockKept (s : State) : s.ClockKept s.recomputeDestination := by
  unfold State.recomputeDestination
  split
  · exact .refl s
  · exact s.changeDestination_clockKept _

theorem State.updateDestination_clockKept (s : State) : s.ClockKept s.updateDestination := by
  unfold State.updateDestination
  split
  · exact .refl s
  · exact (s.changeDestination_clockKept _).sending (State.trySend_onlySending _)

theorem State.setNotices_clockKept (s : State) (x : NoticeSettings) : s.ClockKept (s.setNotices x) := by
  refine .sending (.trans ?_ (State.recomputeDestination_clockKept _)) (State.trySend_onlySending _)
  exact .of_eq rfl rfl rfl

theorem State.takeAck_clockKept (s : State) (station : Half) (payload : List Byte) :
    s.ClockKept (s.takeAck station payload) := by
  unfold State.takeAck
  dsimp only
  split
  · exact .of_eq rfl rfl rfl
  · refine .sending ?_ (State.trySend_onlySending _)
    exact .of_eq rfl rfl rfl

theorem State.retryNotice_clockKept (s : State) (x : NoticeEntry) (attempts : Nat) :
    s.ClockKept (s.retryNotice x attempts) := by
  unfold State.retryNotice
  dsimp only
  split
  · exact .of_eq rfl rfl rfl
  · split
    · exact .of_eq rfl rfl rfl
    · split
      · exact .of_eq rfl rfl rfl
      · rename_i t ht
        refine .trans (State.takeBlocks_onlySending ht).clockKept (.sending ?_ (State.offerNotice_onlySending _ _ _))
        exact .of_eq rfl rfl rfl

theorem State.retryExpired_clockKept (s : State) : s.ClockKept s.retryExpired := by
  have hstop : s.ClockKept { s with notice := { s.notice with retryTimer := none } } := .of_eq rfl rfl rfl
  unfold State.retryExpired
  dsimp only
  split
  · exact hstop.sending (State.trySend_onlySending _)
  · split
    · exact hstop
    · split
      · exact hstop.trans (State.retryNotice_clockKept _ _ _)
      · refine .sending ?_ (State.trySend_onlySending _)
        exact .of_eq rfl rfl rfl

/-! ## Requests and takes (chapters 7 and 8) -/

theorem State.endSession_clockKept (s : State) : s.ClockKept s.endSession := .of_eq rfl rfl rfl

theorem State.expireLease_clockKept (s : State) : s.ClockKept s.expireLease := by
  unfold State.expireLease
  split
  · exact .refl s
  · exact ((s.endSession_clockKept.trans (State.recomputeDestination_clockKept _)).sending
      (State.listEvent_onlySending _ _)).sending (State.trySend_onlySending _)

theorem State.clearSet_clockKept (s : State) (c : CounterSet) : s.ClockKept (s.clearSet c) := by
  unfold State.clearSet
  cases c with
  | port p => exact s.countPort_clockKept p _
  | stream i => exact .of_eq rfl rfl rfl
  | queue p q => exact (s.countQueue_onlySending p q _).clockKept
  | gate p => exact s.modPort_clockKept p fun P => { P with gate := { P.gate with overruns := 0 } }
  | beat => exact ⟨rfl, rfl, fun h => h⟩
  | management => exact .of_eq rfl rfl rfl
  | notice => exact .of_eq rfl rfl rfl

/-- An accepted BEAT_SET leaves beat following FREE without a source, SEEKING with one, and both counts 0 (R93). -/
theorem serveBeatSet_clockKept (r : Request) (s : State) : s.ClockKept (serveBeatSet r s).1 := by
  unfold serveBeatSet
  dsimp only
  split
  · rename_i source _
    split
    · refine ⟨rfl, rfl, fun _ => ?_⟩
      cases source <;> simp [State.BeatSound, BeatFollowing.set]
    · exact .refl s
  · exact .refl s

/-- Step 6 of every request keeps the clock. -/
theorem Op.serve_clockKept (o : Op) (r : Request) (s : State) : s.ClockKept (o.serve r s).1 := by
  cases o
  case beatSet => exact serveBeatSet_clockKept r s
  case sessionOpen =>
    simp only [Op.serve, serveSessionOpen]
    split
    · exact .refl s
    · split
      · split <;> exact .of_eq rfl rfl rfl
      · refine .trans ?_ (State.updateDestination_clockKept _)
        exact .of_eq rfl rfl rfl
  case sessionClose => exact s.endSession_clockKept.trans (State.updateDestination_clockKept _)
  case noticeSet =>
    simp only [Op.serve, serveNoticeSet]
    split
    · exact s.setNotices_clockKept _
    · exact .refl s
  case unlistedSet =>
    simp only [Op.serve, serveUnlistedSet]
    split <;> dsimp only
    · exact s.modPort_clockKept _ _
    · exact .refl s
  case queueSet =>
    simp only [Op.serve, serveQueueSet]
    split
    · split <;> dsimp only
      · exact s.modQueue_clockKept _ _ _
      · exact .refl s
    · exact .refl s
  case counterRead =>
    simp only [Op.serve, serveCounterRead]
    split
    · exact .refl s
    · split
      · exact .refl s
      · dsimp only
        split
        · exact s.clearSet_clockKept _
        · exact .refl s
  case streamWrite | streamState | streamReset | streamFind | streamPurge | sessionKeep | queueRead | planHeader |
      planWindows | planRead | planRevert | planCommit | planCancel =>
    simp only [Op.serve, serveStreamWrite, serveStreamState, serveStreamReset, serveStreamFind, serveStreamPurge,
      serveSessionKeep, serveQueueRead, servePlanHeader, servePlanWindows, servePlanRead, servePlanRevert,
      servePlanCommit, servePlanCancel]
    repeat' split
    all_goals exact .of_eq rfl rfl rfl
  case identify | unitReset | streamClear | streamRead | timeRead | noticeRead => exact .of_eq rfl rfl rfl

theorem serveOf_clockKept (o : Option Op) (r : Request) (s : State) : s.ClockKept (serveOf o r s).1 := by
  cases o with
  | none => exact .refl s
  | some o => exact o.serve_clockKept r s

theorem State.sendReply_clockKept (s : State) (r : Request) (payload : List Byte) :
    s.ClockKept (s.sendReply r payload) := (s.sendReply_onlySending r payload).clockKept

theorem State.answer_clockKept (s : State) (r : Request) (a : Answer) : s.ClockKept (s.answer r a) := by
  refine .trans ?_ (State.sendReply_clockKept _ r _)
  exact .of_eq rfl rfl rfl

theorem State.renewLease_clockKept (s : State) (q : Requester) : s.ClockKept (s.renewLease q) :=
  .of_eq (s.renewLease_station q) (s.renewLease_localTime q) (s.renewLease_beat q)

theorem State.handle_clockKept (s : State) (o o' : Option Op) (r : Request) :
    s.ClockKept (s.handle o (serveOf o') r) := by
  unfold State.handle
  split
  · exact s.answer_clockKept _ _
  · exact ((s.renewLease_clockKept _).sending (State.countManagement_onlySending _ _)).trans
      (State.sendReply_clockKept _ _ _)
  · have hs := (s.renewLease_clockKept r.requester).trans (serveOf_clockKept o' r _)
    split <;> rename_i t he <;> rw [he] at hs
    · exact hs.trans (State.answer_clockKept _ _ _)
    · exact hs

theorem State.endTake_clockKept (s : State) : s.ClockKept s.endTake := by
  unfold State.endTake
  split <;> exact .of_eq rfl rfl rfl

theorem State.takeRequest_clockKept (s : State) (o : Option Op) : s.ClockKept (s.takeRequest o (serveOf o)) := by
  unfold State.takeRequest
  split
  · rename_i r rest _ _
    split
    · have ht : s.ClockKept (s.takeHead r rest) := .of_eq rfl rfl rfl
      exact (ht.trans (State.handle_clockKept _ o o r)).trans (State.endTake_clockKept _)
    · exact .refl s
  · exact .refl s

theorem State.deliverRequest_clockKept (s : State) (f : Frame) (arrival : Port) :
    s.ClockKept (s.deliverRequest f arrival) := by
  have ho : s.ClockKept (s.offerRequest f arrival) := by
    unfold State.offerRequest
    split
    · exact .of_eq rfl rfl rfl
    · split <;> exact .of_eq rfl rfl rfl
  unfold State.deliverRequest State.takeNext
  split
  · split
    · exact ho
    · exact ho.trans (State.takeRequest_clockKept _ _)
  · exact ho

theorem State.visitNext_clockKept (s : State) : s.ClockKept s.visitNext := by
  unfold State.visitNext
  split
  · rename_i r source i cleared takenAt _
    have hc : s.ClockKept (if s.hasSource source i then s.setEntry i none else s) := by
      split <;> exact .of_eq rfl rfl rfl
    dsimp only
    split
    · refine hc.trans ?_
      exact .of_eq rfl rfl rfl
    · refine (hc.trans ?_).trans (.trans (State.answer_clockKept _ _ _) (State.endTake_clockKept _))
      exact .of_eq rfl rfl rfl
  · exact .refl s

/-! ## Reception and routing (R6 to R17, R23, R24) -/

theorem State.inTransit_clockKept (s : State) (p : Port) (f : Frame) : s.ClockKept (s.inTransit p f) :=
  (s.offerFrame_onlySending _ _ _ _).clockKept

theorem State.misaddress_clockKept (s : State) (p : Port) (f : Frame) : s.ClockKept (s.misaddress p f) :=
  (s.returnBlocks_clockKept _).trans (State.countPort_clockKept _ p _)

theorem State.unlisted_clockKept (s : State) (p : Port) (f : Frame) : s.ClockKept (s.unlisted p f) := by
  unfold State.unlisted
  split
  · exact (s.countPort_clockKept p _).sending (State.offerFrame_onlySending _ _ _ _ _)
  · exact (s.returnBlocks_clockKept _).trans (State.countPort_clockKept _ p _)

theorem State.classify_clockKept (s : State) (p : Port) (f : Frame) (arrival : Ticks) :
    s.ClockKept (s.classify p f arrival) := by
  have hmiss : s.ClockKept (s.miss p f) :=
    eitherOrder_clockKept s (fun x => x.unlisted_clockKept p f) fun x => (x.raise_onlySending _).clockKept
  unfold State.classify
  split
  · exact hmiss
  · split
    · exact hmiss
    · refine .sending ?_ (State.hit_onlySending rfl)
      exact .of_eq rfl rfl rfl

theorem State.routeControl_clockKept (s : State) (p : Port) (f : Frame) : s.ClockKept (s.routeControl p f) := by
  have hcopy : ∀ x : State, x.ClockKept (x.broadcastCopy p f) := by
    intro x
    unfold State.broadcastCopy
    split
    · exact x.countPort_clockKept p _
    · rename_i t ht
      exact (State.takeBlocks_onlySending ht).clockKept.trans (t.inTransit_clockKept p f)
  unfold State.routeControl
  split
  · exact eitherOrder_clockKept s (fun x => x.deliverRequest_clockKept f p) hcopy
  · split
    · exact s.deliverRequest_clockKept f p
    · exact s.inTransit_clockKept p f

theorem State.route_clockKept (s : State) (p : Port) (f : Frame) (arrival : Ticks) :
    s.ClockKept (s.route p f arrival) := by
  unfold State.route
  split
  case h_1 =>
    split
    · exact s.misaddress_clockKept p f
    · exact s.classify_clockKept p f arrival
  case h_2 =>
    unfold State.routeBeat
    split
    · exact eitherOrder_clockKept s (fun x => x.inTransit_clockKept p f) fun x => x.reportBeat_clockKept arrival
    · exact s.inTransit_clockKept p f
  case h_3 => exact s.routeControl_clockKept p f
  case h_6 =>
    unfold State.routeAck
    split
    · exact (s.returnBlocks_clockKept _).trans (State.takeAck_clockKept _ _ _)
    · exact s.inTransit_clockKept p f
  all_goals
    split
    · exact s.misaddress_clockKept p f
    · exact s.inTransit_clockKept p f

theorem State.abandon_clockKept (s : State) (p : Port) (bytes : List Byte) (f : PortCounters → PortCounters) :
    s.ClockKept (s.abandon p bytes f) :=
  ((s.returnBlocks_clockKept _).trans (State.countPort_clockKept _ p _)).trans (State.setReceiver_clockKept _ p _)

theorem State.startFrame_clockKept (s : State) (p : Port) : s.ClockKept (s.startFrame p) := by
  unfold State.startFrame
  split
  · split
    · rename_i t ht
      exact (State.takeBlocks_onlySending ht).clockKept.trans (t.setReceiver_clockKept p _)
    · exact (s.countPort_clockKept p _).trans (State.setReceiver_clockKept _ p _)
  · exact .refl s

theorem State.completeHeader_clockKept (s : State) (p : Port) (bytes : List Byte) :
    s.ClockKept (s.completeHeader p bytes) := by
  unfold State.completeHeader
  split
  · split_ifs
    · exact .refl s
    · exact s.abandon_clockKept p _ _
    · exact s.abandon_clockKept p _ _
    · exact s.setReceiver_clockKept p _
  · exact .refl s

theorem State.crossBoundary_clockKept (s : State) (p : Port) (bytes : List Byte) :
    s.ClockKept (s.crossBoundary p bytes) := by
  unfold State.crossBoundary
  split
  · split_ifs
    · exact (s.pool_onlySending _).clockKept.trans (State.setReceiver_clockKept _ p _)
    · exact s.abandon_clockKept p _ _
    · exact .refl s
  · exact .refl s

theorem State.takeSurplus_clockKept (s : State) (p : Port) (bytes : List Byte) :
    s.ClockKept (s.takeSurplus p bytes) := by
  unfold State.takeSurplus
  split
  · split_ifs
    · exact s.abandon_clockKept p _ _
    · exact .refl s
  · exact .refl s

theorem State.endFrame_clockKept (s : State) (p : Port) (bytes : List Byte) : s.ClockKept (s.endFrame p bytes) := by
  have hi : s.ClockKept (s.setReceiver p .idle) := s.setReceiver_clockKept p _
  unfold State.endFrame
  split
  · exact .refl s
  · exact hi
  · split
    · unfold State.endReception
      dsimp only
      split
      · exact (hi.trans (State.returnBlocks_clockKept _ _)).trans (State.countPort_clockKept _ p _)
      · exact (hi.trans (State.returnBlocks_clockKept _ _)).trans (State.countPort_clockKept _ p _)
      · exact (hi.trans (State.countPort_clockKept _ p _)).trans (State.route_clockKept _ _ _ _)
    · exact .refl s

/-! ## Transmission, windows and links (R2, R3, R18, R110) -/

theorem State.completeTransmission_clockKept (s : State) (p : Port) : s.ClockKept (s.completeTransmission p) := by
  unfold State.completeTransmission
  split
  · exact .refl s
  · exact ((((s.returnBlocks_clockKept _).sending (State.countQueue_onlySending _ p _ _)).sending
      (State.setTransmitter_onlySending _ p _)).sending (State.trySelect_onlySending _ p))

theorem State.changeWindow_clockKept (s : State) (p : Port) : s.ClockKept (s.changeWindow p) :=
  (s.modPort_clockKept p _).sending (State.trySelect_onlySending _ p)

theorem State.raiseLink_clockKept (s : State) (p : Port) : s.ClockKept (s.raiseLink p) := by
  unfold State.raiseLink State.noticeLinkUp
  split
  · have hup := (s.modPort_clockKept p fun P => { P with link := .up, linkPinHigh := false }).sending
      (State.trySelect_onlySending _ p)
    split
    · exact hup.sending (State.trySend_onlySending _)
    · exact hup
  · exact .refl s

theorem State.dropLink_clockKept (s : State) (p : Port) : s.ClockKept (s.dropLink p) := by
  cases hl : (s.port p).link with
  | down => rw [s.dropLink_down p hl]; exact .refl s
  | up =>
    rw [s.dropLink_eq p hl]
    refine (s.modPort_clockKept p PortState.dropped).trans ?_
    exact .of_eq rfl rfl rfl

/-- Beat following after a reset is FREE without a source (R85). -/
theorem BeatFollowing.default_sound {s : State} (h : s.beat = BeatFollowing.default) : s.BeatSound := by
  unfold State.BeatSound
  rw [h]
  decide

/-- A unit reset leaves local time and the station address; beat following is FREE without a source (R133, R85). -/
theorem State.settle_clockKept (s : State) : s.ClockKept s.settle := by
  unfold State.settle
  split
  · exact ⟨rfl, rfl, fun _ => BeatFollowing.default_sound rfl⟩
  · exact .refl s

/-! ## Every command -/

/-- An event keeps the clock where its effect does. -/
theorem runEvent_clockKept {s t : State} {effect : State → State} (h : runEvent s effect = .next t)
    (he : s.ClockKept (effect s)) : s.ClockKept t := by
  unfold runEvent at h
  split at h <;> cases h
  · exact .refl s
  · exact he.trans (State.settle_clockKept _)

/-- An event of a timer keeps the clock from the instant, not before now, to which it brings local time. -/
theorem runEvent_clockKept_timed {s t : State} {due : State → Option Ticks} {effect : State → State}
    (h : runEvent s (fun s => s.whenReached (due s) effect) = .next t) (he : ∀ x : State, x.ClockKept (effect x)) :
    ∃ now, s.localTime ≤ now ∧ ({ s with localTime := now } : State).ClockKept t := by
  unfold runEvent at h
  split at h <;> cases h
  · exact ⟨_, le_rfl, .refl s⟩
  · dsimp only
    obtain ⟨d, _, _, e⟩ | e := s.whenReached_spec (due s) effect <;> rw [e]
    · exact ⟨_, le_max_left _ d, (he _).trans (State.settle_clockKept _)⟩
    · exact ⟨_, le_rfl, State.settle_clockKept _⟩

/-- The commands that are events of the device's own timers and fall at an instant that it holds (log entry 5). -/
def isTimed : Instr → Bool
  | .transmissionCompletion _ | .scheduledCycleStart | .windowChange _ | .leaseExpiry | .retryTimerExpiry => true
  | _ => false

/-- Every command but the resets keeps the clock, once a timed one has brought local time to its instant. -/
theorem exec_clockKept {i : Instr} {s t : State} (h : exec i s = .next t) (hc : ∀ straps, i ≠ .coldReset straps)
    (hr : i ≠ .resetNAsserted) :
    ∃ now, s.localTime ≤ now ∧ (isTimed i = false → now = s.localTime)
      ∧ ({ s with localTime := now } : State).ClockKept t := by
  have huntimed : s.ClockKept t → ∃ now, s.localTime ≤ now ∧ (isTimed i = false → now = s.localTime)
      ∧ ({ s with localTime := now } : State).ClockKept t := fun hk => ⟨_, le_rfl, fun _ => rfl, hk⟩
  have htimed : (∃ now, s.localTime ≤ now ∧ ({ s with localTime := now } : State).ClockKept t) →
      isTimed i = true → ∃ now, s.localTime ≤ now ∧ (isTimed i = false → now = s.localTime)
        ∧ ({ s with localTime := now } : State).ClockKept t := by
    rintro ⟨now, hle, hk⟩ ht
    exact ⟨now, hle, by simp [ht], hk⟩
  have htake : ∀ o, runEvent s (fun s => s.takeRequest o (serveOf o)) = .next t → s.ClockKept t := fun o h =>
    runEvent_clockKept h (s.takeRequest_clockKept o)
  cases i
  case coldReset straps => exact absurd rfl (hc straps)
  case resetNAsserted => exact absurd rfl hr
  case transmissionCompletion p =>
    exact htimed (runEvent_clockKept_timed (due := fun s => (s.port p).completion) h
      fun x => x.completeTransmission_clockKept p) rfl
  case scheduledCycleStart =>
    exact htimed (runEvent_clockKept_timed (due := fun s => some s.timer.scheduledEnd) h
      State.scheduledStart_clockKept) rfl
  case windowChange p =>
    exact htimed (runEvent_clockKept_timed (due := fun s => s.windowChangeAt p) h
      fun x => x.changeWindow_clockKept p) rfl
  case leaseExpiry =>
    exact htimed (runEvent_clockKept_timed (due := fun s => s.session.map Session.expiry) h
      State.expireLease_clockKept) rfl
  case retryTimerExpiry =>
    exact htimed (runEvent_clockKept_timed (due := fun s => s.notice.retryTimer) h State.retryExpired_clockKept) rfl
  all_goals refine huntimed ?_
  case linkUp p => exact runEvent_clockKept h (s.raiseLink_clockKept p)
  case linkDown p => exact runEvent_clockKept h (s.dropLink_clockKept p)
  case frameStart p => exact runEvent_clockKept h (s.startFrame_clockKept p)
  case headerCompletion p bytes =>
    exact runEvent_clockKept (effect := fun s => s.completeHeader p bytes) h (s.completeHeader_clockKept p bytes)
  case blockBoundary p bytes =>
    exact runEvent_clockKept (effect := fun s => s.crossBoundary p bytes) h (s.crossBoundary_clockKept p bytes)
  case surplusByte p bytes =>
    exact runEvent_clockKept (effect := fun s => s.takeSurplus p bytes) h (s.takeSurplus_clockKept p bytes)
  case endOfFrame p bytes =>
    exact runEvent_clockKept (effect := fun s => s.endFrame p bytes) h (s.endFrame_clockKept p bytes)
  case purgeVisit => exact runEvent_clockKept h s.visitNext_clockKept
  -- every other command is a take
  all_goals exact htake _ h

/-! ## Local time, the station address and sound beat following at every step -/

/-- Settles O12: every command but the resets keeps the clock at an instant that is not before now, and that only a
timed event sets; a held cold reset keeps the station address. -/
theorem timeRunsOnAndTheStationStays : Obligations.TimeRunsOnAndTheStationStays := by
  intro i s t hc ht
  by_cases hr : i = .resetNAsserted
  · subst hr
    cases ht
    exact ⟨rfl, fun h => absurd rfl h, fun h => absurd rfl h⟩
  · obtain ⟨now, hle, hnow, hk⟩ := exec_clockKept ht hc hr
    refine ⟨hk.station, fun _ => hk.localTime ▸ hle, fun _ hcomp hstart hwin hlease hretry => ?_⟩
    refine hk.localTime.trans (hnow ?_)
    unfold isTimed
    split
    · exact absurd rfl (hcomp _)
    · exact absurd rfl hstart
    · exact absurd rfl (hwin _)
    · exact absurd rfl hlease
    · exact absurd rfl hretry
    · rfl

theorem State.BeatSound.exec {s t : State} {i : Instr} (h : s.BeatSound) (ht : exec i s = .next t) : t.BeatSound := by
  by_cases hc : ∃ straps, i = .coldReset straps
  · obtain ⟨straps, rfl⟩ := hc
    cases ht
    exact BeatFollowing.default_sound rfl
  · by_cases hr : i = .resetNAsserted
    · subst hr
      cases ht
      exact BeatFollowing.default_sound rfl
    · obtain ⟨now, _, _, hk⟩ := exec_clockKept ht (fun straps e => hc ⟨straps, e⟩) hr
      exact hk.beat h

/-- Settles O10: every command keeps beat following sound, a reset sets it so, and a tick and a draw leave it. -/
theorem everyStepKeepsBeatSound : Obligations.EveryStepKeepsBeatSound := by
  intro s t h ht
  obtain ⟨i, rest, _, e⟩ | ⟨_, e⟩ := step_spec s <;> rw [e] at ht
  · exact State.BeatSound.exec (s := { s with pending := rest }) h ht
  · obtain e | e | e | ⟨i, e | e⟩ := idle_spec s <;> rw [e] at ht
    · cases ht; exact h
    · cases ht; exact h
    · cases ht; exact h
    · exact h.exec ht
    · exact State.BeatSound.exec (s := s.draw.2) h ht

end Sys2Proof.Machine
end

section
/-! SUPPORT. Scheduled cycle starts (O37) and beats on the beat port (O38, O39, O40). -/

namespace Sys2Proof.Machine

/-! ## Where a frame can be sent (R113) -/

/-- From `s` to `t` frames are sent and notices listed, and no transmitter changes but an IDLE one of an UP port. -/
structure State.SendsWhenReady (s t : State) : Prop where
  sending : s.OnlySending t
  transmitter : ∀ k, s.canSend k = false → (t.port k).transmitter = (s.port k).transmitter

theorem State.SendsWhenReady.trans {s t u : State} (h : s.SendsWhenReady t) (k : t.SendsWhenReady u) :
    s.SendsWhenReady u := by
  refine ⟨h.sending.trans k.sending, fun p hp => ?_⟩
  have ht : t.canSend p = false := by
    unfold State.canSend at hp ⊢
    rwa [h.transmitter p hp, (h.sending.port p).link]
  exact (k.transmitter p ht).trans (h.transmitter p hp)

/-- What sends without touching a transmitter. -/
theorem State.SendsWhenReady.of_port {s t : State} (h : s.OnlySending t)
    (ht : ∀ k, (t.port k).transmitter = (s.port k).transmitter) : s.SendsWhenReady t :=
  ⟨h, fun k _ => ht k⟩

theorem State.modQueue_transmitter (s : State) (p k : Port) (q : QueueNo) (f : Queue → Queue) :
    ((s.modQueue p q f).port k).transmitter = (s.port k).transmitter := by
  cases p <;> cases k <;> rfl

theorem State.trySelect_sendsWhenReady (s : State) (p : Port) : s.SendsWhenReady (s.trySelect p) := by
  refine ⟨s.trySelect_onlySending p, fun k hk => ?_⟩
  by_cases hp : k = p
  · subst hp
    rw [State.trySelect, if_neg (by simp [hk])]
  · rw [s.trySelect_port_ne hp]

theorem State.offer_sendsWhenReady (s : State) (p : Port) (q : QueueNo) (f : Frame) (o : Origin) :
    s.SendsWhenReady (s.offer p q f o) := by
  have hret : ∀ k, ((s.returnBlocks f.blocks).port k).transmitter = (s.port k).transmitter := fun k => by
    cases k <;> rfl
  unfold State.offer
  split
  · refine .of_port ((s.returnBlocks_onlySending _).trans (State.countQueue_onlySending _ _ _ _)) fun k => ?_
    rw [State.countQueue, State.modQueue_transmitter, hret]
  · refine .of_port (((s.returnBlocks_onlySending _).trans (State.countQueue_onlySending _ _ _ _)).trans
      (State.reportDeparture_onlySending _ _)) fun k => ?_
    rw [State.reportDeparture_port, State.countQueue, State.modQueue_transmitter, hret]
  · have hq : ∀ g : Queue → Queue, (∀ Q, (g Q).limit = Q.limit) → (∀ Q, (g Q).ageLimit = Q.ageLimit) →
        s.SendsWhenReady (s.modQueue p q g) := fun g hl ha =>
      .of_port (s.modQueue_onlySending p q g hl ha) fun k => s.modQueue_transmitter p k q g
    unfold State.enqueue
    dsimp only
    split
    · refine .trans (hq _ ?_ ?_) (State.trySelect_sendsWhenReady _ p) <;> exact fun _ => rfl
    · exact hq _ (fun _ => rfl) fun _ => rfl

theorem State.listEvent_sendsWhenReady (s : State) (e : Event) : s.SendsWhenReady (s.listEvent e) :=
  .of_port (s.listEvent_onlySending e) fun k => by rw [State.listEvent_port]

theorem State.offerNotice_sendsWhenReady (s : State) (p : Port) (f : Frame) :
    s.SendsWhenReady (s.offerNotice p f) := by
  have ho := s.offer_sendsWhenReady p 3 f .notice
  unfold State.offerNotice
  split
  · exact ho.trans (State.listEvent_sendsWhenReady _ _)
  · exact ho

theorem State.trySend_sendsWhenReady (s : State) : s.SendsWhenReady s.trySend := by
  have hrefl : s.SendsWhenReady s := .of_port (.refl s) fun _ => rfl
  have hfirst : ∀ dest x, s.SendsWhenReady (s.firstSend dest x) := by
    intro dest x
    unfold State.firstSend
    obtain ⟨_, e⟩ | ⟨_, e⟩ := s.takeBlocks_spec noticeBlocks <;> rw [e] <;> dsimp only
    · refine .trans (.of_port ?_ fun k => ?_) (State.offerNotice_sendsWhenReady _ _ _)
      · refine (s.pool_onlySending (s.pool - noticeBlocks)).trans ?_
        exact State.notice_onlySending _ _ rfl rfl
      · cases k <;> rfl
    · exact .of_port (s.notice_onlySending _ rfl rfl) fun k => by cases k <;> rfl
  unfold State.trySend
  split
  · exact hrefl
  · split
    · split
      · exact hfirst _ _
      · exact hrefl
    · exact hrefl

theorem State.offerFrame_sendsWhenReady (s : State) (p : Port) (q : QueueNo) (f : Frame) (o : Origin) :
    s.SendsWhenReady (s.offerFrame p q f o) := by
  have ho := s.offer_sendsWhenReady p q f o
  unfold State.offerFrame
  split
  · exact ho.trans ((State.listEvent_sendsWhenReady _ _).trans (State.trySend_sendsWhenReady _))
  · exact ho

/-! ## The scheduled cycle start (R82) -/

/-- A scheduled end that is first among the deadlines starts a cycle at its time and hands on what that brings. -/
theorem State.Plain.scheduledStart {s : State} (h : s.Plain) (hf : s.First s.timer.scheduledEnd) :
    ∃ t, exec .scheduledCycleStart s = .next t
      ∧ (({ s with localTime := max s.localTime s.timer.scheduledEnd } : State).startCycle s.timer.scheduledEnd
          false).EachDone
        (fun w => s.StartBrings w
          ∨ w = .raise .beatLost ∧ s.beat.state = .locked ∧ s.timer.beatSeen = false ∧ 3 ≤ s.beat.missCount) t := by
  have hd := State.scheduledStart_eachDone { s with localTime := max s.localTime s.timer.scheduledEnd }
  have he := hd.handsOn.engine h.notResetting
  refine ⟨_, (h.event (effect := fun s => s.whenReached (some s.timer.scheduledEnd) State.scheduledStart) ?_).trans
    (by rw [State.whenReached_first hf]), hd⟩
  rw [State.whenReached_first hf, he]
  rfl

/-- A missed cycle at a scheduled start: the miss is counted, and the fourth loses the beat (R92, R95). -/
theorem beatAtStart_scheduled_missed {s : State} (hl : s.beat.state = .locked) (hb : s.timer.beatSeen = false) :
    beatAtStart s false =
      { s.beat with
        missCount := s.beat.missCount + 1
        state := if s.beat.missCount + 1 < 4 then .locked else .lost
        counters :=
          { s.beat.counters with
            misses := countUp s.beat.counters.misses
            lost := if s.beat.missCount + 1 < 4 then s.beat.counters.lost else countUp s.beat.counters.lost } } := by
  have hlost : s.lostByMiss false = true ↔ ¬ s.beat.missCount + 1 < 4 := by
    rw [s.lostByMiss_iff]
    exact ⟨fun h => by omega, fun h => ⟨hl, hb, by omega⟩⟩
  rw [beatAtStart, if_pos (s.missed_iff.2 ⟨hl, hb⟩)]
  by_cases h4 : s.beat.missCount + 1 < 4
  · rw [if_neg (by rw [hlost]; exact not_not.2 h4)]
    simp [h4, hl, hlost]
  · rw [if_pos (hlost.2 h4), if_pos (hlost.2 h4), if_neg h4, if_neg h4]

/-- Settles O37: the event is the new cycle at the scheduled end, followed by what that start brings, which only
sends. -/
theorem scheduledEndStartsACycle : Obligations.ScheduledEndStartsACycle := by
  intro s hp hf
  obtain ⟨t, hev, hd⟩ := hp.scheduledStart hf
  have hs := hd.handsOn.sending
  have hplans : t.plans = s.plans.atCycleStart (s.timer.index + 1) := hs.plans
  have hbeat : t.beat = beatAtStart s false := hs.beat
  refine ⟨t, hev, hs.localTime, hs.table, hs.session, hplans, ?_, fun k => ?_, fun hl hb => ?_, fun h => ?_, ?_⟩
  · rw [hs.timer, hs.plans]
    rfl
  · rw [(hs.port k).gate, hs.plans]
    cases k <;> rfl
  · rw [hbeat, beatAtStart_scheduled_missed hl hb]
  · rw [hbeat, beatAtStart_kept]
    simp only [State.missed]
    rcases h with h | h <;> simp [h]
  · rw [hs.localTime, hs.timer, hs.plans, hs.beat, hs.portU.gate, hs.portD.gate]
    exact hd

/-! ## Beats on the beat port (R15) -/

/-- What still stands when a beat is reported: all that its offer in transit leaves alone. -/
structure State.AtReport (s x : State) : Prop where
  timer : x.timer = s.timer
  beat : x.beat = s.beat
  plans : x.plans = s.plans
  table : x.table = s.table
  session : x.session = s.session
  gate : ∀ k, (x.port k).gate = (s.port k).gate
  transmitter : ∀ k, s.canSend k = false → (x.port k).transmitter = (s.port k).transmitter

/-- The device as the frame leaves the receiver, and whatever sends from there, is still so (R10). -/
theorem State.AtReport.of_received {s x : State} {p : Port} (h : (s.received p).SendsWhenReady x) : s.AtReport x := by
  have hport : ∀ k, ((s.received p).port k).transmitter = (s.port k).transmitter
      ∧ ((s.received p).port k).gate = (s.port k).gate ∧ ((s.received p).port k).link = (s.port k).link := by
    intro k
    cases p <;> cases k <;> exact ⟨rfl, rfl, rfl⟩
  obtain ⟨hsend, htrans⟩ := h
  refine ⟨hsend.timer.trans (s.modPort_timer p _), hsend.beat.trans (s.modPort_beat p _),
    hsend.plans.trans (s.modPort_plans p _), hsend.table.trans (s.modPort_table p _),
    hsend.session.trans (s.modPort_session p _), fun k => ?_, fun k hk => ?_⟩
  · exact (hsend.port k).gate.trans (hport k).2.1
  · refine (htrans k ?_).trans (hport k).1
    rwa [State.canSend, (hport k).1, (hport k).2.2]

/-- An accepted beat on the beat port is reported once, at its arrival, and offered once, in one order or the other. -/
theorem State.Accepting.beat {s : State} {p : Port} {bytes : List Byte} {f : Frame} (h : s.Accepting p bytes f)
    (hk : f.kind = .beat) (hs : s.beat.source = some p) :
    ∃ t x, exec (.endOfFrame p bytes) s = .next t
      ∧ (s.received p).EitherOrder (fun x => x.offerFrame p.other 3 f .forwarded) (fun x => x.reportBeat s.localTime) t
      ∧ s.AtReport x ∧ (x.reportBeat s.localTime).OnlySending t := by
  have hroute : (s.received p).route p f s.localTime =
      eitherOrder (fun x => x.offerFrame p.other 3 f .forwarded) (fun x => x.reportBeat s.localTime)
        (s.received p) := by
    have hsource : (s.received p).beat.source = some p := by rw [State.received, State.modPort_beat]; exact hs
    simp only [State.route, hk]
    exact if_pos hsource
  have hreport : ∀ x : State, x.engine = s.engine → (x.reportBeat s.localTime).engine = s.engine := by
    intro x hx
    obtain ⟨u, hu, ht⟩ := x.reportBeat_judged s.localTime
    have hue : u.engine = s.engine := hu.engine.trans hx
    rw [ht.engine (by rw [hue]; exact h.plain.notResetting), hue]
  have hoffer : ∀ x : State, x.engine = s.engine → (x.offerFrame p.other 3 f .forwarded).engine = s.engine := by
    intro x hx
    rw [State.offerFrame_engine _ _ _ _ _ (by rw [hx]; exact h.plain.notResetting), hx]
  have he : (s.received p).draw.2.engine = s.engine := s.received_engine p
  have hdraw : (s.received p).SendsWhenReady (s.received p).draw.2 :=
    .of_port (State.freeCount_onlySending _ _) fun k => by cases k <;> rfl
  have horder := eitherOrder_spec (fun x => x.offerFrame p.other 3 f .forwarded) (fun x => x.reportBeat s.localTime)
    (s.received p)
  obtain e | e := horder
  · exact ⟨_, _, h.routed (hroute.trans e) (congrArg Engine.state (hreport _ (hoffer _ he))), .inl rfl,
      .of_received (hdraw.trans (State.offerFrame_sendsWhenReady _ _ _ _ _)), .refl _⟩
  · exact ⟨_, _, h.routed (hroute.trans e) (congrArg Engine.state (hoffer _ (hreport _ he))), .inr rfl,
      .of_received hdraw, State.offerFrame_onlySending _ _ _ _ _⟩

/-! The distance of a beat from either end of its cycle (R87), in plain numbers. -/

/-- A beat late by no more than Tb lies before the cycle's middle, where it is late. -/
theorem late_bounds {start a now length tolerance : Nat} (h : start + a = now) (ha : a ≤ tolerance)
    (ht : 4 * tolerance ≤ length) :
    2 * (now - start) ≤ length ∧ now - start ≤ tolerance ∧ now - start = a := by
  omega

/-- A beat further than Tb from either end is so on whichever side of the middle it lies. -/
theorem fault_bounds {start a now length tolerance : Nat} (h : start + a = now) (ha : tolerance < a)
    (hf : a + tolerance < length) :
    2 * (now - start) ≤ length ∧ tolerance < now - start
      ∨ length < 2 * (now - start) ∧ tolerance < length - (now - start) := by
  omega

/-- A beat before the end of its cycle by no more than Tb lies beyond the cycle's middle, where it is early. -/
theorem early_bounds {now e start length tolerance : Nat} (h : now + e = start + length) (he : e ≤ tolerance)
    (ht : 4 * tolerance ≤ length) (hp : 0 < length) :
    length < 2 * (now - start) ∧ length - (now - start) ≤ tolerance
      ∧ (now : Int) - (start + length : Nat) = -(e : Int) := by
  omega

section
variable {s x t : State} (hx : s.AtReport x)
include hx

/-- A beat of a LOCKED cycle, `a` ticks after its start: extra, re-anchoring, or a fault (R87, R90, R91). -/
theorem State.AtReport.judged {a : Nat} (hsend : (x.reportBeat s.localTime).OnlySending t)
    (hl : s.beat.state = .locked) (ha : s.timer.start + a = s.localTime)
    (htol : 4 * s.beat.tolerance ≤ s.timer.length) :
    (s.timer.beatSeen = true → x.extraBeat.OnlySending t)
      ∧ (s.timer.beatSeen = false → a ≤ s.beat.tolerance → (x.reAnchoredBeat s.localTime a).OnlySending t)
      ∧ (s.timer.beatSeen = false → s.beat.tolerance < a → a + s.beat.tolerance < s.timer.length →
        x.faultedBeat.OnlySending t) := by
  rw [← hx.beat] at hl htol
  rw [← hx.timer] at ha htol
  rw [← hx.timer, ← hx.beat]
  refine ⟨fun hb => ?_, fun hb hle => ?_, fun hb hlt hfar => ?_⟩
  · rwa [State.reportBeat_extra hl hb] at hsend
  · obtain ⟨hc, hlate, hd⟩ := late_bounds ha hle htol
    rw [State.reportBeat_reAnchors hl hb hc hlate, hd] at hsend
    exact ((State.trySelect_onlySending _ _).trans (State.trySelect_onlySending _ _)).trans hsend
  · rw [State.reportBeat_faults hl hb (fault_bounds ha hlt hfar)] at hsend
    split at hsend
    · exact hsend
    · exact (State.raise_onlySending _ _).trans hsend

/-- The device after a realign and what it hands on: the new cycle, its plans and gates, and beat following as the beat
left it (R83, R111, R117). -/
theorem State.AtReport.realigned {b : BeatFollowing}
    (hsend : ({ x.nextCycle s.localTime with beat := b } : State).OnlySending t) :
    t.plans = s.plans.atCycleStart (s.timer.index + 1)
      ∧ t.timer = ⟨s.timer.index + 1, s.localTime, s.localTime + (t.plans.activePlan .u).cycleLength,
          (t.plans.activePlan .u).cycleLength, true⟩
      ∧ t.beat = b
      ∧ ∀ k, (t.port k).gate.window = 0
          ∧ (t.port k).gate.windowEnd = s.localTime + (t.plans.activePlan k).duration 0
          ∧ ((s.port k).transmitter ≠ .idle → (t.port k).gate.overruns = countUp (s.port k).gate.overruns)
          ∧ ((s.port k).transmitter = .idle → (s.port k).link = .down →
              (t.port k).gate.overruns = (s.port k).gate.overruns) := by
  have hgate : ∀ k, (t.port k).gate =
      ⟨0, s.localTime + (t.plans.activePlan k).duration 0,
        if (x.port k).transmitter = .idle then (s.port k).gate.overruns else countUp (s.port k).gate.overruns⟩ := by
    intro k
    rw [(hsend.port k).gate, hsend.plans, ← hx.gate k]
    cases k <;> rfl
  have hkept : ∀ k, (s.port k).transmitter ≠ .idle ∨ (s.port k).link = .down →
      (x.port k).transmitter = (s.port k).transmitter := by
    intro k hk
    refine hx.transmitter k ?_
    rcases hk with hk | hk <;> simp [State.canSend, hk]
  refine ⟨?_, ?_, hsend.beat, fun k => ?_⟩
  · rw [hsend.plans, ← hx.plans, ← hx.timer]
    rfl
  · rw [hsend.timer, hsend.plans, ← hx.timer]
    rfl
  · rw [hgate k]
    refine ⟨rfl, rfl, fun hs => ?_, fun hi hd => ?_⟩
    · rw [hkept k (.inl hs), if_neg hs]
    · rw [hkept k (.inr hd), if_pos hi]

end

/-! ## Beats in LOCKED (R87, R88, R90, R91) -/

/-- Settles O38: the report is the judgement by the beat's distance from either end of its cycle, and what precedes and
follows it only sends. -/
theorem beatsInLockedAreJudged : Obligations.BeatsInLockedAreJudged := by
  refine ⟨fun s p bytes f a h hk hs hl ha htol hjudge => ?_, fun s u now a hl hb ha htol => ⟨?_, ?_⟩⟩
  · obtain ⟨t, x, hev, horder, hx, hsend⟩ := h.beat hk hs
    obtain ⟨hextra, hreAnchor, hfault⟩ := hx.judged hsend hl ha htol
    have hframe : ∃ u : State, u.OnlySending t ∧ u.plans = x.plans ∧ u.table = x.table ∧ u.session = x.session
        ∧ u.beat.counters.beats = countUp x.beat.counters.beats := by
      cases hb : s.timer.beatSeen with
      | true => exact ⟨_, hextra hb, rfl, rfl, rfl, rfl⟩
      | false =>
        rcases le_or_gt a s.beat.tolerance with hle | hlt
        · exact ⟨_, hreAnchor hb hle, rfl, rfl, rfl, rfl⟩
        · exact ⟨_, hfault hb hlt (hjudge.resolve_left (by simp [hb])), rfl, rfl, rfl, rfl⟩
    obtain ⟨u, hu, hplans, htable, hsession, hbeats⟩ := hframe
    refine ⟨t, hev, hu.plans.trans (hplans.trans hx.plans), hu.table.trans (htable.trans hx.table),
      hu.session.trans (hsession.trans hx.session), horder, ?_, fun hb => ⟨?_, ?_⟩, fun hb hle => ⟨?_, ?_, fun k => ?_⟩,
      fun hb hlt hfar => ?_⟩
    · rw [hu.beat, hbeats, hx.beat]
    · exact (hextra hb).timer.trans hx.timer
    · rw [(hextra hb).beat, State.extraBeat, hx.beat]
    · rw [(hreAnchor hb hle).timer, State.reAnchoredBeat, hx.timer]
    · rw [(hreAnchor hb hle).beat, State.reAnchoredBeat, hx.beat]
    · have hgate := ((hreAnchor hb hle).port k).gate
      rw [← hx.gate k, ← hx.plans, hgate]
      cases k <;> exact ⟨rfl, rfl⟩
    · have hu := hfault hb hlt hfar
      rw [hu.timer, hu.beat, State.faultedBeat, hx.timer, hx.beat]
      exact ⟨rfl, rfl, if_congr (by omega) rfl rfl, rfl, rfl, rfl⟩
  · rintro hle - rfl
    obtain ⟨hc, hlate, hd⟩ := late_bounds ha hle htol
    rw [State.reportBeat_reAnchors hl hb hc hlate, hd]
    rfl
  · rintro hlt hfar rfl
    exact State.reportBeat_faults hl hb (fault_bounds ha hlt hfar)

/-! ## Beats that start a cycle (R86, R89) -/

/-- Settles O39: a beat so near the end of its cycle lies beyond the middle, so its report starts the next cycle. -/
theorem earlyBeatsStartTheNextCycle : Obligations.EarlyBeatsStartTheNextCycle := by
  refine ⟨fun s p bytes f e h hk hs hl hb hend hle htol hpos => ?_,
    fun s now e length plans hl hb hend hle htol hpos hplans hlength => ?_⟩
  · obtain ⟨t, x, hev, horder, hx, hsend⟩ := h.beat hk hs
    obtain ⟨hc, ha, herror⟩ := early_bounds hend hle htol hpos
    have hd := State.reportBeat_startsEarly (s := x) (now := s.localTime) (by rw [hx.beat]; exact hl)
      (by rw [hx.timer]; exact hb) (by rw [hx.timer]; exact hc) (by rw [hx.timer, hx.beat]; exact ha)
    have hu := hd.handsOn.sending.trans hsend
    obtain ⟨hplans, htimer, hbeat, hgate⟩ := hx.realigned hu
    rw [hx.beat, hx.timer, herror] at hbeat
    refine ⟨t, hev, hu.table.trans hx.table, hu.session.trans hx.session, horder, hplans, htimer, ?_⟩
    rw [hbeat]
    exact ⟨hl, rfl, rfl, rfl, rfl, rfl, hgate⟩
  · subst hplans hlength
    obtain ⟨hc, ha, herror⟩ := early_bounds hend hle htol hpos
    have hd := State.reportBeat_startsEarly hl hb hc ha
    rw [herror] at hd
    exact hd

/-- Settles O40: a beat that locks realigns unless the cycle started at that very instant (R86). -/
theorem beatsInSeekingAndLostLock : Obligations.BeatsInSeekingAndLostLock := by
  refine ⟨fun s p bytes f h hk hs hst => ?_,
    fun s now length plans hst => ⟨fun hn => State.reportBeat_locks hst hn, ?_⟩⟩
  · obtain ⟨t, x, hev, horder, hx, hsend⟩ := h.beat hk hs
    have hxst : x.beat.state = .seeking ∨ x.beat.state = .lost := by rw [hx.beat]; exact hst
    by_cases hn : s.timer.start = s.localTime
    · rw [State.reportBeat_locks hxst (by rw [hx.timer]; exact hn)] at hsend
      have hu := (State.raise_onlySending _ _).trans hsend
      refine ⟨t, hev, horder, ?_⟩
      rw [hu.beat, hu.timer, State.lockedBeat, hx.beat, hx.timer]
      exact ⟨rfl, rfl, rfl, rfl, rfl, rfl, fun _ => ⟨rfl, rfl, hu.plans.trans hx.plans, rfl⟩,
        fun h => absurd hn h, fun h => absurd hn h⟩
    · have hd := State.reportBeat_realigns hxst (now := s.localTime) (by rw [hx.timer]; exact hn)
      obtain ⟨_, htimer, hbeat, hgate⟩ := hx.realigned (hd.handsOn.sending.trans hsend)
      rw [hx.beat] at hbeat
      refine ⟨t, hev, horder, ?_⟩
      rw [hbeat, htimer]
      exact ⟨rfl, rfl, rfl, rfl, rfl, rfl, fun h => absurd h hn, fun _ => ⟨rfl, rfl, rfl, rfl⟩,
        fun _ k => ⟨(hgate k).1, (hgate k).2.2⟩⟩
  · rintro hn rfl rfl
    exact State.reportBeat_realigns hst hn

end Sys2Proof.Machine
end

section
/-! SUPPORT. What the device may do by itself when no command waits (log entry 4): the due events against the
deadlines, the members of its options, and the idle step as one of them. -/

namespace Sys2Proof.Machine

/-! ## The deadlines -/

theorem State.reached_iff {s : State} {t : Option Ticks} :
    s.reached t = true ↔ ∃ d, t = some d ∧ d ≤ s.localTime := by
  cases t <;> simp [State.reached]

theorem State.sending_of_completion {s : State} {p : Port} {c : Ticks} (h : (s.port p).completion = some c) :
    ∃ q f, (s.port p).transmitter = .sending q f c := by
  unfold PortState.completion at h
  cases htr : (s.port p).transmitter with
  | idle => simp [htr] at h
  | sending q f c' =>
    obtain rfl : c' = c := by simpa [htr] using h
    exact ⟨q, f, rfl⟩

theorem State.windowChangeAt_eq_some {s : State} {p : Port} {t : Ticks} :
    s.windowChangeAt p = some t ↔
      (s.port p).gate.window + 1 < (s.plans.activePlan p).windowCount ∧ (s.port p).gate.windowEnd = t := by
  simp [State.windowChangeAt]

theorem Engine.purging_of_purgeBy {e : Engine} {t : Ticks} (h : e.purgeBy = some t) :
    ∃ r source next cleared takenAt, e.state = .purging r source next cleared takenAt := by
  unfold Engine.purgeBy at h
  split at h
  · exact ⟨_, _, _, _, _, ‹_›⟩
  · simp at h

theorem State.mem_deadlines {s : State} {t : Ticks} :
    t ∈ s.deadlines ↔ t = s.timer.scheduledEnd ∨ s.portU.completion = some t ∨ s.portD.completion = some t
      ∨ s.windowChangeAt .u = some t ∨ s.windowChangeAt .d = some t ∨ s.session.map Session.expiry = some t
      ∨ s.notice.retryTimer = some t ∨ s.engine.purgeBy = some t := by
  simp [State.deadlines, eq_comm]

/-- A time is not reached when it is ahead, or is none. -/
theorem State.not_reached_iff {s : State} {t : Option Ticks} :
    s.reached t = false ↔ ∀ d, t = some d → s.localTime < d := by
  cases t <;> simp [State.reached]

/-- No event is due exactly while every deadline is ahead. -/
theorem State.dueEvents_eq_nil_iff {s : State} : s.dueEvents = [] ↔ ∀ d ∈ s.deadlines, s.localTime < d := by
  have hnil : ∀ (b : Bool) (i : Instr), (if b = true then [i] else []) = [] ↔ b = false := by
    intro b i; cases b <;> simp
  simp only [State.dueEvents, List.append_eq_nil_iff, hnil, State.not_reached_iff, State.mem_deadlines,
    Option.some.injEq, or_imp, forall_and, forall_eq, forall_eq', and_assoc]
  grind

/-! ## What the device may do -/

/-- An event that the device may do by itself: one that is due, a visit of a walk that runs, or the take of the head
request by an IDLE engine. -/
def State.MayDo (s : State) (i : Instr) : Prop :=
  (∃ p q f c, i = .transmissionCompletion p ∧ (s.port p).transmitter = .sending q f c ∧ c ≤ s.localTime)
    ∨ (i = .scheduledCycleStart ∧ s.timer.scheduledEnd ≤ s.localTime)
    ∨ (∃ p, i = .windowChange p ∧ (s.port p).gate.window + 1 < (s.plans.activePlan p).windowCount
        ∧ (s.port p).gate.windowEnd ≤ s.localTime)
    ∨ (∃ x, i = .leaseExpiry ∧ s.session = some x ∧ x.expiry ≤ s.localTime)
    ∨ (∃ due, i = .retryTimerExpiry ∧ s.notice.retryTimer = some due ∧ due ≤ s.localTime)
    ∨ (∃ r source next cleared takenAt,
        i = .purgeVisit ∧ s.engine.state = .purging r source next cleared takenAt)
    ∨ ∃ r rest, i = takeInstr (Op.ofCode r.op) ∧ s.engine.state = .idle ∧ s.engine.queue = r :: rest

theorem State.mayDo_completion {s : State} {p : Port} (h : s.reached (s.port p).completion = true) :
    s.MayDo (.transmissionCompletion p) := by
  obtain ⟨c, hc, hle⟩ := State.reached_iff.mp h
  obtain ⟨q, f, htr⟩ := State.sending_of_completion hc
  exact .inl ⟨p, q, f, c, rfl, htr, hle⟩

theorem State.mayDo_windowChange {s : State} {p : Port} (h : s.reached (s.windowChangeAt p) = true) :
    s.MayDo (.windowChange p) := by
  obtain ⟨t, ht, hle⟩ := State.reached_iff.mp h
  obtain ⟨hw, rfl⟩ := State.windowChangeAt_eq_some.mp ht
  exact .inr (.inr (.inl ⟨p, rfl, hw, hle⟩))

theorem State.mayDo_leaseExpiry {s : State} (h : s.reached (s.session.map Session.expiry) = true) :
    s.MayDo .leaseExpiry := by
  obtain ⟨t, ht, hle⟩ := State.reached_iff.mp h
  obtain ⟨x, hx, rfl⟩ := Option.map_eq_some_iff.mp ht
  exact .inr (.inr (.inr (.inl ⟨x, rfl, hx, hle⟩)))

theorem State.mayDo_retryTimerExpiry {s : State} (h : s.reached s.notice.retryTimer = true) :
    s.MayDo .retryTimerExpiry := by
  obtain ⟨due, hdue, hle⟩ := State.reached_iff.mp h
  exact .inr (.inr (.inr (.inr (.inl ⟨due, rfl, hdue, hle⟩))))

theorem State.mayDo_purgeVisit {s : State} {r : Request} {source : Half} {next : StreamIndex} {cleared : Nat}
    {takenAt : Ticks}
    (h : s.engine.state = .purging r source next cleared takenAt) : s.MayDo .purgeVisit :=
  .inr (.inr (.inr (.inr (.inr (.inl ⟨r, source, next, cleared, takenAt, rfl, h⟩)))))

theorem State.mayDo_of_mem_dueEvents {s : State} {i : Instr} (h : i ∈ s.dueEvents) : s.MayDo i := by
  simp only [State.dueEvents, List.mem_append, List.mem_ite_nil_right, List.mem_singleton, or_assoc] at h
  obtain ⟨h, rfl⟩ | ⟨h, rfl⟩ | ⟨h, rfl⟩ | ⟨h, rfl⟩ | ⟨h, rfl⟩ | ⟨h, rfl⟩ | ⟨h, rfl⟩ | ⟨h, rfl⟩ := h
  · exact State.mayDo_completion (p := .u) h
  · exact State.mayDo_completion (p := .d) h
  · exact .inr (.inl ⟨rfl, by simpa [State.reached] using h⟩)
  · exact State.mayDo_windowChange h
  · exact State.mayDo_windowChange h
  · exact State.mayDo_leaseExpiry h
  · exact State.mayDo_retryTimerExpiry h
  · obtain ⟨t, ht, -⟩ := State.reached_iff.mp h
    obtain ⟨r, source, next, cleared, takenAt, hp⟩ := Engine.purging_of_purgeBy ht
    exact State.mayDo_purgeVisit hp

theorem State.mayDo_of_mem_readyEvents {s : State} {i : Instr} (h : i ∈ s.readyEvents) : s.MayDo i := by
  unfold State.readyEvents at h
  split at h
  · obtain rfl := List.mem_singleton.mp h
    exact State.mayDo_purgeVisit ‹_›
  · obtain rfl := List.mem_singleton.mp h
    exact .inr (.inr (.inr (.inr (.inr (.inr ⟨_, _, rfl, ‹_›, ‹_›⟩)))))
  · simp at h

/-- Without a walk that runs and without a request to take, only the due events are left. -/
theorem State.readyEvents_eq_nil {s : State}
    (hp : ∀ r source next cleared takenAt, s.engine.state ≠ .purging r source next cleared takenAt)
    (hq : s.engine.state = .idle → s.engine.queue = []) : s.readyEvents = [] := by
  unfold State.readyEvents
  split
  · exact absurd ‹_› (hp _ _ _ _ _)
  · simp_all
  · rfl

/-! ## The options -/

theorem State.options_ne_nil (s : State) : s.options ≠ [] := by
  unfold State.options
  split <;> simp

theorem State.mayDo_of_some_mem_options {s : State} {i : Instr} (h : some i ∈ s.options) : s.MayDo i := by
  have hmem : i ∈ s.dueEvents ∨ i ∈ s.readyEvents := by
    unfold State.options at h
    cases hd : s.dueEvents with
    | nil => exact .inr (by simpa [hd] using h)
    | cons e es => simpa [hd, or_assoc] using h
  exact hmem.elim State.mayDo_of_mem_dueEvents State.mayDo_of_mem_readyEvents

/-- A tick is one of the options only while every deadline is ahead. -/
theorem State.ahead_of_none_mem_options {s : State} (h : none ∈ s.options) : ∀ d ∈ s.deadlines, s.localTime < d := by
  refine State.dueEvents_eq_nil_iff.mp ?_
  unfold State.options at h
  cases hd : s.dueEvents with
  | nil => rfl
  | cons e es => simp [hd] at h

theorem State.options_eq_tick {s : State} (hd : s.dueEvents = []) (hr : s.readyEvents = []) : s.options = [none] := by
  simp [State.options, hd, hr]

/-! ## The idle step -/

/-- An idle step does one of the options, with a draw where there are several. -/
theorem idle_acts {s : State} (h : s.resetHeld = false) :
    ∃ x ∈ s.options, ∃ n, (n = s.freeCount ∨ n = s.freeCount + 1) ∧ idle s = act x { s with freeCount := n } := by
  unfold idle
  rw [if_neg (by simp [h])]
  split
  · rename_i x hx
    exact ⟨x, by simp [hx], s.freeCount, .inl rfl, rfl⟩
  · have hlt : s.draw.1 % s.options.length < s.options.length :=
      Nat.mod_lt _ (List.length_pos_iff.mpr s.options_ne_nil)
    refine ⟨_, ?_, s.freeCount + 1, .inr rfl, rfl⟩
    rw [List.getD_eq_getElem _ _ hlt]
    exact List.getElem_mem hlt

theorem idle_of_resetHeld {s : State} (h : s.resetHeld = true) : idle s = .next s := by
  simp [idle, h]

/-- With the tick as the only option there is nothing to draw. -/
theorem idle_ticks {s : State} (h : s.resetHeld = false) (ho : s.options = [none]) : idle s = .next s.tick := by
  simp [idle, h, ho, act]

theorem step_of_pending_nil {s : State} (h : s.pending = []) : step s = idle s := by
  simp [step, h]

/-- Settles O60: the idle step does one of the device's options, and each option is an event named or the tick. -/
theorem theDeviceActsByItself : Obligations.TheDeviceActsByItself := by
  intro s hs
  rw [step_of_pending_nil hs]
  refine ⟨idle_of_resetHeld, fun hr => ?_, fun hr hahead hp hq => ?_⟩
  · obtain ⟨x, hx, n, hn, he⟩ := idle_acts hr
    refine ⟨n, hn, ?_⟩
    cases x with
    | none => exact .inl ⟨State.ahead_of_none_mem_options hx, he⟩
    | some i => exact .inr ⟨i, he, State.mayDo_of_some_mem_options hx⟩
  · have hdue : s.dueEvents = [] := State.dueEvents_eq_nil_iff.mpr hahead
    exact idle_ticks hr (State.options_eq_tick hdue (State.readyEvents_eq_nil hp hq))

end Sys2Proof.Machine
end

section
/-! SUPPORT. The plan banks (section 6.2): what each change of them leaves active and staged, which plans are valid (R97),
and the eight tests of a commit (R104). -/

namespace Sys2Proof.Machine

/-! ## The banks after each change (R100 to R102, R106) -/

section
variable (b : PlanBanks) (p q : Port) (x : Plan)

theorem PlanBanks.plan_setPlan (k j : Bank) :
    (b.setPlan p k x).plan q j = if q = p ∧ j = k then x else b.plan q j := by
  cases p <;> cases k <;> cases q <;> cases j <;> rfl

theorem Bank.other_ne (k : Bank) : k.other ≠ k := by cases k <;> decide

@[simp] theorem PlanBanks.setStaged_active : (b.setStaged p x).active = b.active := by
  unfold PlanBanks.setStaged PlanBanks.setPlan
  split <;> rfl
@[simp] theorem PlanBanks.setStaged_commitPending : (b.setStaged p x).commitPending = b.commitPending := by
  unfold PlanBanks.setStaged PlanBanks.setPlan
  split <;> rfl
@[simp] theorem PlanBanks.setStaged_lastSwap : (b.setStaged p x).lastSwap = b.lastSwap := by
  unfold PlanBanks.setStaged PlanBanks.setPlan
  split <;> rfl

@[simp] theorem PlanBanks.setStaged_activePlan : (b.setStaged p x).activePlan q = b.activePlan q := by
  rw [PlanBanks.activePlan, PlanBanks.setStaged_active, PlanBanks.setStaged, PlanBanks.plan_setPlan,
    if_neg fun h => b.active.other_ne h.2.symm]
  rfl

theorem PlanBanks.setStaged_stagedPlan :
    (b.setStaged p x).stagedPlan q = if q = p then x else b.stagedPlan q := by
  rw [PlanBanks.stagedPlan, PlanBanks.setStaged_active, PlanBanks.setStaged, PlanBanks.plan_setPlan]
  simp [PlanBanks.stagedPlan]

@[simp] theorem PlanBanks.revert_active : b.revert.active = b.active := by simp [PlanBanks.revert]
@[simp] theorem PlanBanks.revert_commitPending : b.revert.commitPending = b.commitPending := by
  simp [PlanBanks.revert]
@[simp] theorem PlanBanks.revert_lastSwap : b.revert.lastSwap = b.lastSwap := by simp [PlanBanks.revert]
@[simp] theorem PlanBanks.revert_activePlan : b.revert.activePlan p = b.activePlan p := by simp [PlanBanks.revert]
theorem PlanBanks.revert_stagedPlan : b.revert.stagedPlan p = b.activePlan p := by
  cases p <;> simp [PlanBanks.revert, PlanBanks.setStaged_stagedPlan]

theorem PlanBanks.atCycleStart_pending (index : CycleIndex) (h : b.commitPending = true) :
    b.atCycleStart index =
      { b with active := b.active.other, commitPending := false, lastSwap := some index } := if_pos h

theorem PlanBanks.atCycleStart_unpending (index : CycleIndex) (h : b.commitPending = false) :
    b.atCycleStart index = b := if_neg (by simp [h])

/-- A cycle start leaves no commit pending (R106). -/
theorem PlanBanks.atCycleStart_commitPending (index : CycleIndex) : (b.atCycleStart index).commitPending = false := by
  cases h : b.commitPending
  · rw [b.atCycleStart_unpending index h, h]
  · rw [b.atCycleStart_pending index h]

/-- The swap makes the staged plans active (R106). -/
theorem PlanBanks.atCycleStart_activePlan (index : CycleIndex) (h : b.commitPending = true) :
    (b.atCycleStart index).activePlan p = b.stagedPlan p := by
  rw [b.atCycleStart_pending index h]
  cases p <;> rfl

end

/-! ## Valid plans (R97) -/

/-- R104 test 1 as a statement: every slot in use is set. -/
def Plan.AllSet (x : Plan) : Prop := ∀ k, k < x.windowCount → x.slot k ≠ none

/-- R104 test 3 as a statement: a slot in use opens Q3 for at least the longest frame's occupancy. -/
def Plan.OpensQ3 (x : Plan) : Prop := ∃ k, k < x.windowCount ∧ x.opens k 3 = true ∧ 8384 ≤ x.duration k

theorem Plan.firstUnset_eq_none {x : Plan} : x.firstUnset = none ↔ x.AllSet := by
  simp [Plan.firstUnset, Plan.AllSet, List.find?_eq_none]

theorem Plan.firstUnset_eq_some {x : Plan} {k : Nat} (hk : k < x.windowCount) (hs : x.slot k = none)
    (hfirst : ∀ j, j < k → x.slot j ≠ none) : x.firstUnset = some k := by
  rw [Plan.firstUnset, List.find?_range_eq_some]
  exact ⟨by simp [hs], by simpa using hk, fun j hj => by simpa [Option.isSome_iff_ne_none] using hfirst j hj⟩

theorem Plan.hasQ3Window_iff {x : Plan} : x.hasQ3Window = true ↔ x.OpensQ3 := by
  simp [Plan.hasQ3Window, Plan.hasQ3Slot, Plan.OpensQ3]

theorem Plan.valid_iff {x : Plan} :
    x.valid = true ↔ x.AllSet ∧ x.span x.windowCount = x.cycleLength ∧ x.OpensQ3 := by
  simp [Plan.valid, Plan.firstUnset_eq_none, Plan.hasQ3Window_iff, and_assoc]

/-- A valid plan has a window (R97). -/
theorem Plan.windowCount_pos {x : Plan} (h : x.valid = true) : 0 < x.windowCount := by
  obtain ⟨_, _, k, hk, _⟩ := Plan.valid_iff.1 h
  omega

/-! ## The tests of a commit (R104) -/

section
variable {p : Port} {x : Plan}

theorem planFault_unset {k : Nat} (hk : k < x.windowCount) (hs : x.slot k = none)
    (hfirst : ∀ j, j < k → x.slot j ≠ none) : planFault p x = some [0x01, portByte p, BitVec.ofNat 8 k] := by
  simp only [planFault, Plan.firstUnset_eq_some hk hs hfirst]

theorem planFault_sum (h : x.AllSet) (hs : x.span x.windowCount ≠ x.cycleLength) :
    planFault p x = some ([0x02, portByte p] ++ beBytes 4 (x.span x.windowCount)) := by
  simp only [planFault, Plan.firstUnset_eq_none.2 h, bne_iff_ne, ne_eq, hs, not_false_eq_true, if_true]

theorem planFault_q3 (h : x.AllSet) (hs : x.span x.windowCount = x.cycleLength) (hq : ¬ x.OpensQ3) :
    planFault p x = some [0x03, portByte p] := by
  have hw : x.hasQ3Window = false := Bool.eq_false_iff.2 fun e => hq (Plan.hasQ3Window_iff.1 e)
  simp [planFault, Plan.firstUnset_eq_none.2 h, hs, hw]

/-- A plan passes the three tests exactly if it is valid (R97). -/
theorem planFault_eq_none : planFault p x = none ↔ x.valid = true := by
  unfold planFault Plan.valid
  cases x.firstUnset with
  | some k => simp
  | none =>
    by_cases hs : x.span x.windowCount = x.cycleLength
    · cases hq : x.hasQ3Window <;> simp [hs]
    · simp [hs]

end

section
variable {s : State}

/-- A port's fault is the commit's, if the port is U or U has none. -/
theorem State.commitFault_of_planFault {p : Port} {results : List Byte}
    (hu : p = .d → (s.plans.stagedPlan .u).valid = true) (h : planFault p (s.plans.stagedPlan p) = some results) :
    s.commitFault = some results := by
  cases p with
  | u => simp only [State.commitFault, h]
  | d => simp only [State.commitFault, planFault_eq_none.2 (hu rfl), h]

variable (hv : ∀ p, (s.plans.stagedPlan p).valid = true)
include hv

theorem State.commitFault_lengths
    (h : (s.plans.stagedPlan .u).cycleLength ≠ (s.plans.stagedPlan .d).cycleLength) :
    s.commitFault = some ([0x04] ++ beBytes 4 (s.plans.stagedPlan .u).cycleLength
      ++ beBytes 4 (s.plans.stagedPlan .d).cycleLength) := by
  simp only [State.commitFault, planFault_eq_none.2 (hv _), bne_iff_ne, ne_eq, h, not_false_eq_true, if_true]

theorem State.commitFault_tolerance
    (h : (s.plans.stagedPlan .u).cycleLength = (s.plans.stagedPlan .d).cycleLength) (hb : s.beat.state ≠ .free)
    (ht : (s.plans.stagedPlan .u).cycleLength < 4 * s.beat.tolerance) :
    s.commitFault =
      some ([0x05] ++ beBytes 4 s.beat.tolerance ++ beBytes 4 (s.plans.stagedPlan .u).cycleLength) := by
  have ht' : (s.plans.stagedPlan .d).cycleLength < 4 * s.beat.tolerance := h ▸ ht
  simp [State.commitFault, planFault_eq_none.2 (hv _), h, hb, ht']

end

/-- A commit passes the eight tests exactly if the staged plans are valid, of one length, and long enough for the
tolerance of a beat that is followed (R104). -/
theorem State.commitFault_eq_none {s : State} :
    s.commitFault = none ↔
      (∀ p : Port, (s.plans.stagedPlan p).valid = true)
        ∧ (s.plans.stagedPlan .u).cycleLength = (s.plans.stagedPlan .d).cycleLength
        ∧ (s.beat.state ≠ .free → 4 * s.beat.tolerance ≤ (s.plans.stagedPlan .u).cycleLength) := by
  have hports : (∀ p : Port, (s.plans.stagedPlan p).valid = true) ↔
      planFault .u (s.plans.stagedPlan .u) = none ∧ planFault .d (s.plans.stagedPlan .d) = none := by
    simp only [planFault_eq_none]
    exact ⟨fun h => ⟨h _, h _⟩, fun h p => by cases p; exacts [h.1, h.2]⟩
  rw [hports]
  unfold State.commitFault
  dsimp only
  split
  · rename_i h; simp [h]
  · rename_i hu hd; simp [hd]
  · rename_i hu hd
    by_cases hl : (s.plans.stagedPlan .u).cycleLength = (s.plans.stagedPlan .d).cycleLength
    · simp [hu, hd, hl]
    · simp [hl]

end Sys2Proof.Machine
end

section
/-! SUPPORT. The pacing of the device: its plan banks, the cycle, the tolerance of beat following and the gates' windows
(chapters 5 and 6). What one event can do to the pacing is a list of ten moves; each move keeps the laws of R82, R93, R97,
R99 and R109, and holds the banks while a commit is pending. -/

namespace Sys2Proof.Machine

/-- What paces the device: the plan banks, the cycle's start, scheduled end and length, whether a beat is followed and
with what tolerance, and for each gate its window and that window's end. -/
structure Pacing where
  plans : PlanBanks
  start : Ticks
  scheduledEnd : Ticks
  length : Nat
  following : Bool
  tolerance : Nat
  gateU : Nat × Ticks
  gateD : Nat × Ticks

/-- The window of a port's gate, and its end. -/
def PortState.place (P : PortState) : Nat × Ticks := (P.gate.window, P.gate.windowEnd)

/-- The pacing of a state. -/
def State.pacing (s : State) : Pacing where
  plans := s.plans
  start := s.timer.start
  scheduledEnd := s.timer.scheduledEnd
  length := s.timer.length
  following := s.beat.state != .free
  tolerance := s.beat.tolerance
  gateU := s.portU.place
  gateD := s.portD.place

namespace Pacing

/-- The window of a gate, and its end. -/
def gate (c : Pacing) : Port → Nat × Ticks
  | .u => c.gateU
  | .d => c.gateD

/-- The staged plans can be made active (R99, R104): valid, of one length, and long enough for the tolerance. -/
structure StagedGood (c : Pacing) : Prop where
  valid : ∀ p : Port, (c.plans.stagedPlan p).valid = true
  length : (c.plans.stagedPlan .u).cycleLength = (c.plans.stagedPlan .d).cycleLength
  tolerance : c.following = true → 4 * c.tolerance ≤ (c.plans.stagedPlan .u).cycleLength

/-- The laws of the pacing (R97, R99, R93, R82, R109). -/
structure Sound (c : Pacing) : Prop where
  valid : ∀ p : Port, (c.plans.activePlan p).valid = true
  length : ∀ p : Port, (c.plans.activePlan p).cycleLength = c.length
  staged : c.plans.commitPending = true → c.StagedGood
  tolerance : c.following = true → 4 * c.tolerance ≤ c.length
  scheduledEnd : c.scheduledEnd = c.start + c.length
  window : ∀ p : Port, (c.gate p).1 < (c.plans.activePlan p).windowCount
  windowEnd : ∀ p : Port, (c.gate p).2 = c.start + (c.plans.activePlan p).span ((c.gate p).1 + 1)

/-! ## The moves -/

/-- A cycle start (R83, R106, R111): the swap, the new cycle, and both gates in window 0. -/
def started (c : Pacing) (index : CycleIndex) (start : Ticks) : Pacing :=
  let plans := c.plans.atCycleStart index
  let length := (plans.activePlan .u).cycleLength
  { c with
    plans := plans
    start := start
    scheduledEnd := start + length
    length := length
    gateU := (0, start + (plans.activePlan .u).duration 0)
    gateD := (0, start + (plans.activePlan .d).duration 0) }

/-- A re-anchor (R88, R112): the cycle and the windows measured from a new start. -/
def reAnchored (c : Pacing) (start : Ticks) : Pacing :=
  { c with
    start := start
    scheduledEnd := start + c.length
    gateU := (c.gateU.1, start + (c.plans.activePlan .u).span (c.gateU.1 + 1))
    gateD := (c.gateD.1, start + (c.plans.activePlan .d).span (c.gateD.1 + 1)) }

/-- The next window of a port's plan (R110). -/
def nextPlace (c : Pacing) (p : Port) : Nat × Ticks :=
  ((c.gate p).1 + 1, (c.gate p).2 + (c.plans.activePlan p).duration ((c.gate p).1 + 1))

/-- A window change of a port (R110). -/
def nextWindow (c : Pacing) : Port → Pacing
  | .u => { c with gateU := c.nextPlace .u }
  | .d => { c with gateD := c.nextPlace .d }

/-- The pacing after a reset performed at `now` (R85, R98, R109, R133). -/
def reset (now : Ticks) : Pacing where
  plans := PlanBanks.default
  start := now
  scheduledEnd := now + Config.defaultCycleLength
  length := Config.defaultCycleLength
  following := false
  tolerance := BeatFollowing.default.tolerance
  gateU := (0, now + Config.defaultCycleLength)
  gateD := (0, now + Config.defaultCycleLength)

/-- What one event can do to the pacing: nothing; a cycle start; a re-anchor; a window change; a staged plan replaced;
the staged plans reverted; a commit accepted; a commit cancelled; the beat set; a reset. -/
inductive Moves (c : Pacing) : Pacing → Prop
  | stands : Moves c c
  | starts (index : CycleIndex) (start : Ticks) : Moves c (c.started index start)
  | reAnchors (start : Ticks) : Moves c (c.reAnchored start)
  | changesWindow (p : Port) (h : (c.gate p).1 + 1 < (c.plans.activePlan p).windowCount) : Moves c (c.nextWindow p)
  | stages (h : c.plans.commitPending = false) (p : Port) (x : Plan) :
      Moves c { c with plans := c.plans.setStaged p x }
  | reverts (h : c.plans.commitPending = false) : Moves c { c with plans := c.plans.revert }
  | commits (h : c.plans.commitPending = false) (hs : c.StagedGood) :
      Moves c { c with plans := { c.plans with commitPending := true } }
  | cancels : Moves c { c with plans := { c.plans with commitPending := false } }
  | setsBeat (following : Bool) (tolerance : Nat) (h : 4 * tolerance ≤ c.length)
      (hs : c.plans.commitPending = true → 4 * tolerance ≤ (c.plans.stagedPlan .u).cycleLength) :
      Moves c { c with following := following, tolerance := tolerance }
  | resets (now : Ticks) : Moves c (reset now)

/-! ## Every move keeps the laws -/

theorem reset_sound (now : Ticks) : (reset now).Sound where
  valid p := by cases p <;> exact Plan.default_valid
  length p := by cases p <;> rfl
  staged h := by cases h
  tolerance h := by cases h
  scheduledEnd := rfl
  window p := by cases p <;> exact (by decide : 0 < 1)
  windowEnd p := by
    have hspan : Plan.default.span 1 = Config.defaultCycleLength := by decide
    cases p <;> exact congrArg (now + ·) hspan.symm

/-- The first window's end is where its duration says (R96). -/
theorem span_one (x : Plan) : x.span 1 = x.duration 0 := Nat.zero_add _

section
variable {c c' : Pacing} (h : c.Sound)
include h

/-- The plans that a cycle start leaves active are valid, of one length, and long enough for the tolerance: those that
were active, or those of a good commit (R99, R106). -/
theorem Sound.swapped (index : CycleIndex) :
    (∀ p, ((c.plans.atCycleStart index).activePlan p).valid = true)
      ∧ (∀ p, ((c.plans.atCycleStart index).activePlan p).cycleLength
          = ((c.plans.atCycleStart index).activePlan .u).cycleLength)
      ∧ (c.following = true → 4 * c.tolerance ≤ ((c.plans.atCycleStart index).activePlan .u).cycleLength) := by
  cases hp : c.plans.commitPending with
  | false =>
    rw [c.plans.atCycleStart_unpending index hp]
    exact ⟨h.valid, fun p => (h.length p).trans (h.length .u).symm, fun hf => (h.length .u).symm ▸ h.tolerance hf⟩
  | true =>
    have hs := h.staged hp
    simp only [fun p => c.plans.atCycleStart_activePlan p index hp]
    refine ⟨hs.valid, fun p => ?_, hs.tolerance⟩
    cases p
    · rfl
    · exact hs.length.symm

theorem Sound.started (index : CycleIndex) (start : Ticks) : (c.started index start).Sound where
  valid := (h.swapped index).1
  length := (h.swapped index).2.1
  staged hp := by
    have hn : (c.started index start).plans.commitPending = false := c.plans.atCycleStart_commitPending index
    rw [hn] at hp
    cases hp
  tolerance := (h.swapped index).2.2
  scheduledEnd := rfl
  window p := by cases p <;> exact Plan.windowCount_pos ((h.swapped index).1 _)
  windowEnd p := by cases p <;> exact congrArg (start + ·) (span_one _).symm

theorem Sound.reAnchored (start : Ticks) : (c.reAnchored start).Sound where
  valid := h.valid
  length := h.length
  staged hp := ⟨(h.staged hp).valid, (h.staged hp).length, (h.staged hp).tolerance⟩
  tolerance := h.tolerance
  scheduledEnd := rfl
  window p := by cases p; exacts [h.window .u, h.window .d]
  windowEnd p := by cases p <;> rfl

/-- Gates that stand in windows in use, measured from the cycle start, keep the laws (R109). -/
theorem Sound.of_gates {u d : Nat × Ticks} (hw : ∀ p : Port,
    (gate { c with gateU := u, gateD := d } p).1 < (c.plans.activePlan p).windowCount
      ∧ (gate { c with gateU := u, gateD := d } p).2
        = c.start + (c.plans.activePlan p).span ((gate { c with gateU := u, gateD := d } p).1 + 1)) :
    Sound { c with gateU := u, gateD := d } where
  valid := h.valid
  length := h.length
  staged hp := ⟨(h.staged hp).valid, (h.staged hp).length, (h.staged hp).tolerance⟩
  tolerance := h.tolerance
  scheduledEnd := h.scheduledEnd
  window p := (hw p).1
  windowEnd p := (hw p).2

theorem Sound.nextWindow {p : Port} (hw : (c.gate p).1 + 1 < (c.plans.activePlan p).windowCount) :
    (c.nextWindow p).Sound := by
  have hnext : (c.nextPlace p).2 = c.start + (c.plans.activePlan p).span ((c.nextPlace p).1 + 1) := by
    show (c.gate p).2 + _ = _ + (_ + _)
    rw [h.windowEnd p, Nat.add_assoc]
    rfl
  have hstand := fun q => And.intro (h.window q) (h.windowEnd q)
  cases p
  · exact h.of_gates fun q => by cases q; exacts [⟨hw, hnext⟩, hstand .d]
  · exact h.of_gates fun q => by cases q; exacts [hstand .u, ⟨hw, hnext⟩]

/-- A change of the banks keeps the laws if the active plans stand and a pending commit is good (R97, R99). -/
theorem Sound.of_plans {plans : PlanBanks} (ha : ∀ p, plans.activePlan p = c.plans.activePlan p)
    (hs : plans.commitPending = true → StagedGood { c with plans := plans }) : Sound { c with plans := plans } where
  valid p := (congrArg Plan.valid (ha p)).trans (h.valid p)
  length p := (congrArg Plan.cycleLength (ha p)).trans (h.length p)
  staged := hs
  tolerance := h.tolerance
  scheduledEnd := h.scheduledEnd
  window p := (congrArg Plan.windowCount (ha p)).symm ▸ h.window p
  windowEnd p := (h.windowEnd p).trans (congrArg (fun x : Plan => c.start + x.span ((c.gate p).1 + 1)) (ha p).symm)

/-- Every move keeps the laws of the pacing. -/
theorem Sound.moves (hm : c.Moves c') : c'.Sound := by
  cases hm with
  | stands => exact h
  | starts index start => exact h.started index start
  | reAnchors start => exact h.reAnchored start
  | changesWindow p hw => exact h.nextWindow hw
  | stages hp p x =>
    exact h.of_plans (fun q => by simp) fun hq => by simp [hp] at hq
  | reverts hp => exact h.of_plans (fun q => by simp) fun hq => by simp [hp] at hq
  | commits hp hs =>
    exact h.of_plans (fun q => by cases q <;> rfl) fun _ => ⟨fun p => hs.valid p, hs.length, hs.tolerance⟩
  | cancels => exact h.of_plans (fun q => by cases q <;> rfl) fun hq => absurd hq (by simp)
  | setsBeat following tolerance ht hs =>
    exact ⟨h.valid, h.length, fun hp => ⟨(h.staged hp).valid, (h.staged hp).length, fun _ => hs hp⟩, fun _ => ht,
      h.scheduledEnd, h.window, h.windowEnd⟩
  | resets now => exact reset_sound now

end

/-- A move that finds a commit pending and leaves one pending changes no bank (R99). -/
theorem Moves.holds {c c' : Pacing} (hm : c.Moves c') (h : c.plans.commitPending = true)
    (h' : c'.plans.commitPending = true) : c'.plans = c.plans := by
  cases hm with
  | stands => rfl
  | starts index start =>
    have hn : (c.started index start).plans.commitPending = false := c.plans.atCycleStart_commitPending index
    rw [hn] at h'
    cases h'
  | reAnchors start => rfl
  | changesWindow p hw => cases p <;> rfl
  | stages hp p x => rw [hp] at h; cases h
  | reverts hp => rw [hp] at h; cases h
  | commits hp hs => rw [hp] at h; cases h
  | cancels => cases h'
  | setsBeat following tolerance ht hs => rfl
  | resets now => cases h'

end Pacing

/-- The law of the plans, the cycle and the gates is a law of the pacing. -/
theorem State.plansSound_iff (s : State) : s.PlansSound ↔ s.pacing.Sound := by
  have hfollow : s.pacing.following = true ↔ s.beat.state ≠ .free := bne_iff_ne
  constructor
  · rintro ⟨ha, hs, ht, he, hg⟩
    refine ⟨fun p => (ha p).1, fun p => (ha p).2, fun hp => ?_, fun hf => ht (hfollow.1 hf), he, fun p => ?_,
      fun p => ?_⟩
    · obtain ⟨hv, hl, hb⟩ := hs hp
      exact ⟨hv, hl, fun hf => hb (hfollow.1 hf)⟩
    · cases p; exacts [(hg .u).1, (hg .d).1]
    · cases p; exacts [(hg .u).2, (hg .d).2]
  · intro h
    refine ⟨fun p => ⟨h.valid p, h.length p⟩, fun hp => ?_, fun hf => h.tolerance (hfollow.2 hf),
      h.scheduledEnd, fun p => ?_⟩
    · obtain ⟨hv, hl, hb⟩ := h.staged hp
      exact ⟨hv, hl, fun hf => hb (hfollow.2 hf)⟩
    · cases p; exacts [⟨h.window .u, h.windowEnd .u⟩, ⟨h.window .d, h.windowEnd .d⟩]

end Sys2Proof.Machine
end

section
/-! SUPPORT. What the operations of the model do to the pacing of the device: most leave it as it is; cycle starts, beats,
window changes and the requests of chapters 5, 6 and 8 make one move of it; and so does every command (O6, O13). -/

namespace Sys2Proof.Machine

/-! ## What leaves the pacing as it is -/

/-- What leaves the plans, the cycle, beat following and both gates alone. -/
theorem State.pacing_of_eq {s t : State} (hp : t.plans = s.plans) (ht : t.timer = s.timer) (hb : t.beat = s.beat)
    (hu : t.portU.gate = s.portU.gate) (hd : t.portD.gate = s.portD.gate) : t.pacing = s.pacing := by
  simp only [State.pacing, PortState.place, hp, ht, hb, hu, hd]

/-- Sending frames and listing notices leaves the pacing. -/
theorem State.OnlySending.pacing {s t : State} (h : s.OnlySending t) : t.pacing = s.pacing :=
  State.pacing_of_eq h.plans h.timer h.beat h.portU.gate h.portD.gate

/-- What leaves the pacing makes no move of it. -/
theorem State.moves_of_pacing_eq {s t : State} (h : t.pacing = s.pacing) : s.pacing.Moves t.pacing := h ▸ .stands

/-- A change of a port that keeps its gate's window leaves the pacing. -/
theorem State.modPort_pacing (s : State) (p : Port) {f : PortState → PortState}
    (h : (f (s.port p)).place = (s.port p).place) : (s.modPort p f).pacing = s.pacing := by
  cases p
  · exact congrArg (fun g => { s.pacing with gateU := g }) h
  · exact congrArg (fun g => { s.pacing with gateD := g }) h

@[simp] theorem State.countPort_pacing (s : State) (p : Port) (f : PortCounters → PortCounters) :
    (s.countPort p f).pacing = s.pacing := s.modPort_pacing p rfl
@[simp] theorem State.modQueue_pacing (s : State) (p : Port) (q : QueueNo) (f : Queue → Queue) :
    (s.modQueue p q f).pacing = s.pacing := s.modPort_pacing p rfl
@[simp] theorem State.setReceiver_pacing (s : State) (p : Port) (r : Receiver) :
    (s.setReceiver p r).pacing = s.pacing := s.modPort_pacing p rfl
@[simp] theorem State.returnBlocks_pacing (s : State) (n : Nat) : (s.returnBlocks n).pacing = s.pacing := rfl
@[simp] theorem State.offerFrame_pacing (s : State) (p : Port) (q : QueueNo) (f : Frame) (o : Origin) :
    (s.offerFrame p q f o).pacing = s.pacing := (s.offerFrame_onlySending p q f o).pacing
@[simp] theorem State.trySend_pacing (s : State) : s.trySend.pacing = s.pacing := s.trySend_onlySending.pacing
@[simp] theorem State.trySelect_pacing (s : State) (p : Port) : (s.trySelect p).pacing = s.pacing :=
  (s.trySelect_onlySending p).pacing
@[simp] theorem State.listEvent_pacing (s : State) (e : Event) : (s.listEvent e).pacing = s.pacing := rfl
@[simp] theorem State.raise_pacing (s : State) (e : Event) : (s.raise e).pacing = s.pacing :=
  (s.raise_onlySending e).pacing
@[simp] theorem State.renewLease_pacing (s : State) (q : Requester) : (s.renewLease q).pacing = s.pacing :=
  State.pacing_of_eq (by simp) (by simp) (by simp) (by simp) (by simp)
@[simp] theorem State.sendReply_pacing (s : State) (r : Request) (payload : List Byte) :
    (s.sendReply r payload).pacing = s.pacing := (s.sendReply_onlySending r payload).pacing
@[simp] theorem State.answer_pacing (s : State) (r : Request) (a : Answer) : (s.answer r a).pacing = s.pacing :=
  State.sendReply_pacing _ _ _
@[simp] theorem State.endTake_pacing (s : State) : s.endTake.pacing = s.pacing := by
  unfold State.endTake
  split <;> rfl
@[simp] theorem State.offerRequest_pacing (s : State) (f : Frame) (arrival : Port) :
    (s.offerRequest f arrival).pacing = s.pacing := by
  unfold State.offerRequest
  split
  · rfl
  · split <;> rfl

/-! ## Notices (chapter 9) -/

theorem State.changeDestination_pacing (s : State) (dest : Option Requester) :
    (s.changeDestination dest).pacing = s.pacing := by
  unfold State.changeDestination State.drawTieIndex
  split
  · rfl
  · dsimp only
    split <;> rfl

theorem State.recomputeDestination_pacing (s : State) : s.recomputeDestination.pacing = s.pacing := by
  unfold State.recomputeDestination
  split
  · rfl
  · exact s.changeDestination_pacing _

theorem State.updateDestination_pacing (s : State) : s.updateDestination.pacing = s.pacing := by
  unfold State.updateDestination
  split
  · rfl
  · exact (State.trySend_pacing _).trans (s.changeDestination_pacing _)

theorem State.setNotices_pacing (s : State) (x : NoticeSettings) : (s.setNotices x).pacing = s.pacing :=
  (State.trySend_pacing _).trans (State.recomputeDestination_pacing _)

theorem State.takeAck_pacing (s : State) (station : Half) (payload : List Byte) :
    (s.takeAck station payload).pacing = s.pacing := by
  unfold State.takeAck
  dsimp only
  split
  · rfl
  · exact State.trySend_pacing _

theorem State.retryNotice_pacing (s : State) (x : NoticeEntry) (attempts : Nat) :
    (s.retryNotice x attempts).pacing = s.pacing := by
  unfold State.retryNotice
  dsimp only
  split
  · rfl
  · split
    · rfl
    · split
      · rfl
      · rename_i t ht
        exact (State.offerNotice_onlySending _ _ _).pacing.trans (State.takeBlocks_onlySending ht).pacing

theorem State.retryExpired_pacing (s : State) : s.retryExpired.pacing = s.pacing := by
  unfold State.retryExpired
  dsimp only
  split
  · exact State.trySend_pacing _
  · split
    · rfl
    · split
      · exact State.retryNotice_pacing _ _ _
      · exact State.trySend_pacing _

/-! ## Reception, transmission and links (chapter 1) -/

theorem State.startFrame_pacing (s : State) (p : Port) : (s.startFrame p).pacing = s.pacing := by
  unfold State.startFrame
  split
  · split
    · rename_i t ht
      exact (t.setReceiver_pacing p _).trans (State.takeBlocks_onlySending ht).pacing
    · simp
  · rfl

theorem State.abandon_pacing (s : State) (p : Port) (bytes : List Byte) (f : PortCounters → PortCounters) :
    (s.abandon p bytes f).pacing = s.pacing := by
  simp [State.abandon]

theorem State.completeHeader_pacing (s : State) (p : Port) (bytes : List Byte) :
    (s.completeHeader p bytes).pacing = s.pacing := by
  unfold State.completeHeader
  split
  · split_ifs <;> simp [State.abandon_pacing]
  · rfl

theorem State.crossBoundary_pacing (s : State) (p : Port) (bytes : List Byte) :
    (s.crossBoundary p bytes).pacing = s.pacing := by
  unfold State.crossBoundary
  split
  · split_ifs
    · exact State.setReceiver_pacing _ p _
    · exact s.abandon_pacing p _ _
    · rfl
  · rfl

theorem State.takeSurplus_pacing (s : State) (p : Port) (bytes : List Byte) :
    (s.takeSurplus p bytes).pacing = s.pacing := by
  unfold State.takeSurplus
  split
  · split_ifs
    · exact s.abandon_pacing p _ _
    · rfl
  · rfl

theorem State.completeTransmission_pacing (s : State) (p : Port) : (s.completeTransmission p).pacing = s.pacing := by
  unfold State.completeTransmission
  split
  · rfl
  · rw [State.trySelect_pacing, (State.setTransmitter_onlySending _ p _).pacing,
      (State.countQueue_onlySending _ p _ _).pacing, State.returnBlocks_pacing]

theorem State.raiseLink_pacing (s : State) (p : Port) : (s.raiseLink p).pacing = s.pacing := by
  have hup : ((s.modPort p fun P => { P with link := .up, linkPinHigh := false }).trySelect p).pacing = s.pacing :=
    (State.trySelect_pacing _ p).trans (s.modPort_pacing p rfl)
  unfold State.raiseLink State.noticeLinkUp
  split
  · split
    · exact (State.trySend_pacing _).trans hup
    · exact hup
  · rfl

theorem State.dropLink_pacing (s : State) (p : Port) : (s.dropLink p).pacing = s.pacing := by
  cases hl : (s.port p).link with
  | down => rw [s.dropLink_down p hl]
  | up =>
    rw [s.dropLink_eq p hl]
    exact s.modPort_pacing p rfl

/-! ## DATA frames, transit and the purge walk (chapters 1 and 2) -/

/-- What two things of one event leave, their drawn order leaves. -/
theorem eitherOrder_pacing {f g : State → State} (s : State) (hf : ∀ x, (f x).pacing = x.pacing)
    (hg : ∀ x, (g x).pacing = x.pacing) : (eitherOrder f g s).pacing = s.pacing :=
  eitherOrder_preserves (P := fun t => t.pacing = s.pacing) ((hg _).trans (hf _)) ((hf _).trans (hg _))

theorem State.misaddress_pacing (s : State) (p : Port) (f : Frame) : (s.misaddress p f).pacing = s.pacing := by
  simp [State.misaddress]

theorem State.unlisted_pacing (s : State) (p : Port) (f : Frame) : (s.unlisted p f).pacing = s.pacing := by
  unfold State.unlisted
  split <;> simp

theorem State.classify_pacing (s : State) (p : Port) (f : Frame) (arrival : Ticks) :
    (s.classify p f arrival).pacing = s.pacing := by
  have hmiss : (s.miss p f).pacing = s.pacing :=
    eitherOrder_pacing s (fun x => x.unlisted_pacing p f) fun x => x.raise_pacing _
  unfold State.classify
  split
  · exact hmiss
  · split
    · exact hmiss
    · exact (State.hit_onlySending rfl).pacing

theorem State.broadcastCopy_pacing (s : State) (p : Port) (f : Frame) : (s.broadcastCopy p f).pacing = s.pacing := by
  unfold State.broadcastCopy
  split
  · simp
  · rename_i t ht
    exact (t.offerFrame_pacing _ _ _ _).trans (State.takeBlocks_onlySending ht).pacing

theorem State.visitNext_pacing (s : State) : s.visitNext.pacing = s.pacing := by
  unfold State.visitNext
  split
  · rename_i r source i cleared takenAt _
    have hc : (if s.hasSource source i then s.setEntry i none else s).pacing = s.pacing := by split <;> rfl
    dsimp only
    split
    · exact hc
    · rw [State.endTake_pacing, State.answer_pacing]
      exact hc
  · rfl

/-! ## Cycle starts and beats (chapter 5) -/

/-- A cycle start keeps whether a beat is followed, and its tolerance (R92). -/
theorem beatAtStart_follows (s : State) (realign : Bool) :
    ((beatAtStart s realign).state != .free) = (s.beat.state != .free)
      ∧ (beatAtStart s realign).tolerance = s.beat.tolerance := by
  unfold beatAtStart
  split
  · rename_i hm
    have hl := (s.missed_iff.1 hm).1
    dsimp only
    split
    · exact ⟨by rw [hl]; rfl, rfl⟩
    · exact ⟨rfl, rfl⟩
  · exact ⟨rfl, rfl⟩

theorem State.startCycle_pacing (s : State) (start : Ticks) (realign : Bool) :
    (s.startCycle start realign).pacing = s.pacing.started (s.timer.index + 1) start := by
  obtain ⟨hf, ht⟩ := beatAtStart_follows s realign
  simp only [State.pacing, State.startCycle, Pacing.started, hf, ht]
  rfl

theorem State.scheduledStart_moves (s : State) : s.pacing.Moves s.scheduledStart.pacing := by
  rw [s.scheduledStart_eachDone.handsOn.sending.pacing, s.startCycle_pacing]
  exact .starts _ _

/-- Beat following that goes on to follow a beat changes nothing of the pacing. -/
theorem Pacing.Moves.follows {c d : Pacing} (hm : c.Moves d) (hd : d.following = true) :
    c.Moves { d with following := true } := by
  rw [← hd]
  exact hm

/-- A beat leaves the cycle as it is, re-anchors it, or starts the next (R86 to R91). -/
theorem State.Judged.moves {s u : State} {now : Ticks} (h : s.Judged now u) : s.pacing.Moves u.pacing := by
  have hlocking : s.beat.state = .seeking ∨ s.beat.state = .lost → s.pacing.following = true := fun h =>
    bne_iff_ne.2 (by rcases h with h | h <;> simp [h])
  cases h with
  | unreported => exact .stands
  | locks h => exact Pacing.Moves.follows (d := s.pacing) .stands (hlocking h)
  | realigns h => exact Pacing.Moves.follows (d := s.pacing.started _ now) (.starts _ now) (hlocking h)
  | extra => exact .stands
  | reAnchors => exact .reAnchors now
  | startsEarly => exact .starts _ now
  | faults h =>
    have hf : s.faultedBeat.pacing = { s.pacing with following := true } := by
      unfold State.faultedBeat State.pacing
      split <;> rfl
    rw [hf]
    exact Pacing.Moves.follows (d := s.pacing) .stands (bne_iff_ne.2 (by simp [h]))

theorem State.reportBeat_moves (s : State) (now : Ticks) : s.pacing.Moves (s.reportBeat now).pacing := by
  obtain ⟨u, hu, ht⟩ := s.reportBeat_judged now
  rw [ht.sending.pacing]
  exact hu.moves

/-- A window change that is not past the last window in use (R110). -/
theorem State.changeWindow_moves (s : State) (p : Port)
    (h : (s.port p).gate.window + 1 < (s.plans.activePlan p).windowCount) :
    s.pacing.Moves (s.changeWindow p).pacing := by
  unfold State.changeWindow
  rw [State.trySelect_pacing]
  cases p
  · exact .changesWindow .u h
  · exact .changesWindow .d h

/-! ## Requests (chapters 5 to 8) -/

theorem State.endSession_moves (s : State) : s.pacing.Moves s.endSession.pacing := by
  cases hp : s.plans.commitPending
  · have he : s.endSession.pacing = { s.pacing with plans := s.plans.revert } := by
      simp [State.endSession, State.pacing, hp]
    rw [he]
    exact .reverts hp
  · have he : s.endSession.pacing = s.pacing := by simp [State.endSession, State.pacing, hp]
    exact State.moves_of_pacing_eq he

theorem State.expireLease_moves (s : State) : s.pacing.Moves s.expireLease.pacing := by
  unfold State.expireLease
  split
  · exact .stands
  · rw [State.trySend_pacing, State.listEvent_pacing, State.recomputeDestination_pacing]
    exact s.endSession_moves

theorem State.clearSet_pacing (s : State) (c : CounterSet) : (s.clearSet c).pacing = s.pacing := by
  cases c with
  | port p => exact s.countPort_pacing p _
  | stream i => rfl
  | queue p q => exact s.modQueue_pacing p q _
  | gate p => exact s.modPort_pacing p rfl
  | beat => rfl
  | management => rfl
  | notice => rfl

theorem serveBeatSet_moves (r : Request) (s : State) : s.pacing.Moves (serveBeatSet r s).1.pacing := by
  unfold serveBeatSet
  dsimp only
  split
  · split
    · rename_i h
      obtain ⟨_, _, hl, hs⟩ := (s.acceptsTolerance_iff _).1 h
      exact .setsBeat _ _ hl hs
    · exact .stands
  · exact .stands

theorem servePlanHeader_moves (r : Request) (s : State) : s.pacing.Moves (servePlanHeader r s).1.pacing := by
  unfold servePlanHeader
  dsimp only
  split
  · exact .stands
  · rename_i hp
    split
    · split
      · exact .stages (Bool.eq_false_iff.2 hp) _ _
      · exact .stands
    · exact .stands

theorem servePlanWindows_moves (r : Request) (s : State) : s.pacing.Moves (servePlanWindows r s).1.pacing := by
  unfold servePlanWindows
  dsimp only
  split
  · exact .stands
  · rename_i hp
    split
    · split
      · exact .stages (Bool.eq_false_iff.2 hp) _ _
      · exact .stands
    · exact .stands

theorem servePlanRevert_moves (r : Request) (s : State) : s.pacing.Moves (servePlanRevert r s).1.pacing := by
  unfold servePlanRevert
  split
  · exact .stands
  · rename_i hp
    exact .reverts (Bool.eq_false_iff.2 hp)

theorem servePlanCommit_moves (r : Request) (s : State) : s.pacing.Moves (servePlanCommit r s).1.pacing := by
  unfold servePlanCommit
  split
  · exact .stands
  · rename_i hp
    split
    · exact .stands
    · rename_i hf
      obtain ⟨hv, hl, ht⟩ := State.commitFault_eq_none.1 hf
      exact .commits (Bool.eq_false_iff.2 hp) ⟨hv, hl, fun h => ht (bne_iff_ne.1 h)⟩

theorem servePlanCancel_moves (r : Request) (s : State) : s.pacing.Moves (servePlanCancel r s).1.pacing := by
  unfold servePlanCancel
  split
  · exact .cancels
  · exact .stands

/-- Step 6 of every request makes one move of the pacing. -/
theorem Op.serve_moves (o : Op) (r : Request) (s : State) : s.pacing.Moves (o.serve r s).1.pacing := by
  cases o
  case beatSet => exact serveBeatSet_moves r s
  case planHeader => exact servePlanHeader_moves r s
  case planWindows => exact servePlanWindows_moves r s
  case planRevert => exact servePlanRevert_moves r s
  case planCommit => exact servePlanCommit_moves r s
  case planCancel => exact servePlanCancel_moves r s
  case sessionClose =>
    simp only [Op.serve, serveSessionClose, State.updateDestination_pacing]
    exact s.endSession_moves
  case sessionOpen =>
    refine State.moves_of_pacing_eq ?_
    simp only [Op.serve, serveSessionOpen]
    split
    · rfl
    · split
      · split <;> rfl
      · exact State.updateDestination_pacing _
  case noticeSet =>
    refine State.moves_of_pacing_eq ?_
    simp only [Op.serve, serveNoticeSet]
    split
    · exact s.setNotices_pacing _
    · rfl
  case unlistedSet =>
    refine State.moves_of_pacing_eq ?_
    simp only [Op.serve, serveUnlistedSet]
    split
    · exact s.modPort_pacing _ rfl
    · rfl
  case queueSet =>
    refine State.moves_of_pacing_eq ?_
    simp only [Op.serve, serveQueueSet]
    split
    · split
      · exact s.modQueue_pacing _ _ _
      · rfl
    · rfl
  case counterRead =>
    refine State.moves_of_pacing_eq ?_
    simp only [Op.serve, serveCounterRead]
    split
    · rfl
    · split
      · rfl
      · dsimp only
        split
        · exact s.clearSet_pacing _
        · rfl
  case streamWrite | streamState | streamReset | streamFind | streamPurge | sessionKeep | queueRead | planRead =>
    refine State.moves_of_pacing_eq ?_
    simp only [Op.serve, serveStreamWrite, serveStreamState, serveStreamReset, serveStreamFind, serveStreamPurge,
      serveSessionKeep, serveQueueRead, servePlanRead]
    repeat' split
    all_goals rfl
  case identify | unitReset | streamClear | streamRead | timeRead | noticeRead => exact .stands

theorem serveOf_moves (o : Option Op) (r : Request) (s : State) : s.pacing.Moves (serveOf o r s).1.pacing := by
  cases o with
  | none => exact .stands
  | some o => exact o.serve_moves r s

theorem State.handle_moves (s : State) (o o' : Option Op) (r : Request) :
    s.pacing.Moves (s.handle o (serveOf o') r).pacing := by
  unfold State.handle
  split
  · exact State.moves_of_pacing_eq (s.answer_pacing r _)
  · rw [State.sendReply_pacing, (State.countManagement_onlySending _ _).pacing, State.renewLease_pacing]
    exact .stands
  · have hs := serveOf_moves o' r (s.renewLease r.requester)
    rw [State.renewLease_pacing] at hs
    split <;> rename_i t he <;> rw [he] at hs
    · rw [State.answer_pacing]
      exact hs
    · exact hs

theorem State.takeRequest_moves (s : State) (o : Option Op) : s.pacing.Moves (s.takeRequest o (serveOf o)).pacing := by
  unfold State.takeRequest
  split
  · rename_i r rest _ _
    split
    · rw [State.endTake_pacing]
      exact (s.takeHead r rest).handle_moves o o r
    · exact .stands
  · exact .stands

theorem State.deliverRequest_moves (s : State) (f : Frame) (arrival : Port) :
    s.pacing.Moves (s.deliverRequest f arrival).pacing := by
  have ho := s.offerRequest_pacing f arrival
  unfold State.deliverRequest State.takeNext
  rw [← ho]
  split
  · split
    · exact .stands
    · exact State.takeRequest_moves _ _
  · exact .stands

/-! ## Routing and the end of a frame (R10 to R17) -/

/-- Of two things of one event one moves the pacing and the other leaves it: so does their drawn order, whichever is
named first. -/
theorem eitherOrder_moves {f g : State → State} (s : State) (hf : ∀ x : State, x.pacing.Moves (f x).pacing)
    (hg : ∀ x : State, (g x).pacing = x.pacing) :
    s.pacing.Moves (eitherOrder f g s).pacing ∧ s.pacing.Moves (eitherOrder g f s).pacing := by
  have hfg : s.pacing.Moves (g (f s.draw.2)).pacing := by
    rw [hg]
    exact hf s.draw.2
  have hgf : s.pacing.Moves (f (g s.draw.2)).pacing := by
    have hm := hf (g s.draw.2)
    rwa [hg] at hm
  exact ⟨eitherOrder_preserves (P := fun t => s.pacing.Moves t.pacing) hfg hgf,
    eitherOrder_preserves (P := fun t => s.pacing.Moves t.pacing) hgf hfg⟩

theorem State.inTransit_pacing (s : State) (p : Port) (f : Frame) : (s.inTransit p f).pacing = s.pacing :=
  s.offerFrame_pacing _ _ _ _

theorem State.routeBeat_moves (s : State) (p : Port) (f : Frame) (arrival : Ticks) :
    s.pacing.Moves (s.routeBeat p f arrival).pacing := by
  unfold State.routeBeat
  split
  · exact (eitherOrder_moves s (fun x => x.reportBeat_moves arrival) fun x => x.inTransit_pacing p f).2
  · exact State.moves_of_pacing_eq (s.inTransit_pacing p f)

theorem State.routeControl_moves (s : State) (p : Port) (f : Frame) : s.pacing.Moves (s.routeControl p f).pacing := by
  unfold State.routeControl
  split
  · exact (eitherOrder_moves s (fun x => x.deliverRequest_moves f p) fun x => x.broadcastCopy_pacing p f).1
  · split
    · exact s.deliverRequest_moves f p
    · exact State.moves_of_pacing_eq (s.inTransit_pacing p f)

theorem State.route_moves (s : State) (p : Port) (f : Frame) (arrival : Ticks) :
    s.pacing.Moves (s.route p f arrival).pacing := by
  unfold State.route
  split
  case h_1 =>
    split
    · exact State.moves_of_pacing_eq (s.misaddress_pacing p f)
    · exact State.moves_of_pacing_eq (s.classify_pacing p f arrival)
  case h_2 => exact s.routeBeat_moves p f arrival
  case h_3 => exact s.routeControl_moves p f
  case h_6 =>
    unfold State.routeAck
    split
    · exact State.moves_of_pacing_eq (State.takeAck_pacing _ _ _)
    · exact State.moves_of_pacing_eq (s.inTransit_pacing p f)
  all_goals
    split
    · exact State.moves_of_pacing_eq (s.misaddress_pacing p f)
    · exact State.moves_of_pacing_eq (s.inTransit_pacing p f)

theorem State.endFrame_moves (s : State) (p : Port) (bytes : List Byte) :
    s.pacing.Moves (s.endFrame p bytes).pacing := by
  have hi : (s.setReceiver p .idle).pacing = s.pacing := s.setReceiver_pacing p .idle
  unfold State.endFrame
  split
  · exact .stands
  · exact State.moves_of_pacing_eq hi
  · split
    · unfold State.endReception
      dsimp only
      rw [← hi]
      split
      · exact State.moves_of_pacing_eq (State.countPort_pacing _ p _)
      · exact State.moves_of_pacing_eq (State.countPort_pacing _ p _)
      · rename_i f _
        have hm := ((s.setReceiver p .idle).countPort p fun c => { c with accepted := countUp c.accepted }).route_moves
          p f s.localTime
        rwa [State.countPort_pacing] at hm
    · exact .stands

/-! ## Every command -/

/-- A settled event moves the pacing as its effect does, or resets it. -/
theorem State.settle_moves {s t : State} (h : s.pacing.Moves t.pacing) : s.pacing.Moves t.settle.pacing := by
  unfold State.settle
  split
  · exact .resets t.localTime
  · exact h

theorem runEvent_moves {s t : State} {effect : State → State} (h : runEvent s effect = .next t)
    (he : s.pacing.Moves (effect s).pacing) : s.pacing.Moves t.pacing := by
  unfold runEvent at h
  split at h <;> cases h
  · exact .stands
  · exact State.settle_moves he

/-- An event of a timer moves the pacing where its effect at its instant does (log entry 5). -/
theorem runEvent_moves_timed {s t : State} {due : State → Option Ticks} {effect : State → State}
    (h : runEvent s (fun s => s.whenReached (due s) effect) = .next t)
    (he : ∀ d, due s = some d → s.pacing.Moves (effect { s with localTime := max s.localTime d }).pacing) :
    s.pacing.Moves t.pacing := by
  refine runEvent_moves h ?_
  obtain ⟨d, hd, _, e⟩ | e := s.whenReached_spec (due s) effect <;> rw [e]
  · exact he d hd
  · exact .stands

/-- Every command makes one move of the pacing. -/
theorem exec_moves {i : Instr} {s t : State} (h : exec i s = .next t) : s.pacing.Moves t.pacing := by
  have htake : ∀ o, runEvent s (fun s => s.takeRequest o (serveOf o)) = .next t → s.pacing.Moves t.pacing :=
    fun o h => runEvent_moves h (s.takeRequest_moves o)
  cases i
  case coldReset straps => cases h; exact .resets 0
  case resetNAsserted => cases h; exact .resets 0
  case linkUp p => exact runEvent_moves h (State.moves_of_pacing_eq (s.raiseLink_pacing p))
  case linkDown p => exact runEvent_moves h (State.moves_of_pacing_eq (s.dropLink_pacing p))
  case frameStart p => exact runEvent_moves h (State.moves_of_pacing_eq (s.startFrame_pacing p))
  case headerCompletion p bytes =>
    exact runEvent_moves (effect := fun s => s.completeHeader p bytes) h
      (State.moves_of_pacing_eq (s.completeHeader_pacing p bytes))
  case blockBoundary p bytes =>
    exact runEvent_moves (effect := fun s => s.crossBoundary p bytes) h
      (State.moves_of_pacing_eq (s.crossBoundary_pacing p bytes))
  case surplusByte p bytes =>
    exact runEvent_moves (effect := fun s => s.takeSurplus p bytes) h
      (State.moves_of_pacing_eq (s.takeSurplus_pacing p bytes))
  case endOfFrame p bytes => exact runEvent_moves (effect := fun s => s.endFrame p bytes) h (s.endFrame_moves p bytes)
  case transmissionCompletion p =>
    exact runEvent_moves_timed (due := fun s => (s.port p).completion) h fun _ _ =>
      State.moves_of_pacing_eq (State.completeTransmission_pacing _ p)
  case scheduledCycleStart =>
    exact runEvent_moves_timed (due := fun s => some s.timer.scheduledEnd) h fun d _ =>
      State.scheduledStart_moves { s with localTime := max s.localTime d }
  case windowChange p =>
    refine runEvent_moves_timed (due := fun s => s.windowChangeAt p) h fun d hd => ?_
    obtain ⟨hw, _⟩ := State.windowChangeAt_eq_some.1 hd
    refine State.changeWindow_moves { s with localTime := max s.localTime d } p ?_
    cases p <;> exact hw
  case leaseExpiry =>
    exact runEvent_moves_timed (due := fun s => s.session.map Session.expiry) h fun d _ =>
      State.expireLease_moves { s with localTime := max s.localTime d }
  case retryTimerExpiry =>
    exact runEvent_moves_timed (due := fun s => s.notice.retryTimer) h fun _ _ =>
      State.moves_of_pacing_eq (State.retryExpired_pacing _)
  case purgeVisit => exact runEvent_moves h (State.moves_of_pacing_eq s.visitNext_pacing)
  -- every other command is a take
  all_goals exact htake _ h

/-- Every step makes one move of the pacing: a command's, or none at a tick or a draw. -/
theorem step_moves {s t : State} (h : step s = .next t) : s.pacing.Moves t.pacing := by
  obtain ⟨i, rest, _, e⟩ | ⟨_, e⟩ := step_spec s <;> rw [e] at h
  · exact exec_moves (s := { s with pending := rest }) h
  · obtain e | e | e | ⟨i, e | e⟩ := idle_spec s <;> rw [e] at h
    · cases h; exact .stands
    · cases h; exact .stands
    · cases h; exact .stands
    · exact exec_moves h
    · exact exec_moves (s := s.draw.2) h

/-! ## The laws of the plans at every step -/

/-- Settles O6: the law is one of the pacing, and every step makes a move of it that keeps the law. -/
theorem everyStepKeepsPlansSound : Obligations.EveryStepKeepsPlansSound := by
  intro s t h ht
  exact t.plansSound_iff.2 ((s.plansSound_iff.1 h).moves (step_moves ht))

/-- The requests that a pending commit refuses are answered COMMIT_PENDING (R99). -/
theorem State.Taking.commitPending_answered {s : State} {o : Op} {r : Request} {rest : List Request}
    (h : s.Taking o r rest) (ho : o ∈ [Op.planHeader, .planWindows, .planRevert, .planCommit])
    (hp : s.plans.commitPending = true) :
    ∃ t, exec (takeInstr (some o)) s = .next t ∧ (s.atStep6 r rest).Answered r .commitPending [] t := by
  have hserve : o.serve r (s.atStep6 r rest) = (s.atStep6 r rest, some ⟨.commitPending, []⟩) := by
    simp only [List.mem_cons, List.not_mem_nil, or_false] at ho
    rcases ho with rfl | rfl | rfl | rfl <;>
      simp [Op.serve, servePlanHeader, servePlanWindows, servePlanRevert, servePlanCommit, hp]
  rw [exec_takeInstr]
  exact h.event hserve (s.atStep6_state r rest)

/-- Settles O13: no move holds a pending commit and changes a bank; the requests are refused at step 6; and the swap and
the unit reset are as the banks' own lemmas say. -/
theorem pendingCommitHoldsTheBanks : Obligations.PendingCommitHoldsTheBanks := by
  refine ⟨fun s t hs ht hp => (step_moves ht).holds hs hp, fun s r rest o ho h hp => h.commitPending_answered ho hp,
    fun s hp => if_pos hp,
    fun b index p hp => ⟨b.atCycleStart_activePlan p index hp, b.atCycleStart_commitPending index⟩,
    fun s => ⟨rfl, fun p => ?_⟩⟩
  cases p
  · exact ⟨fun k => by cases k <;> rfl, rfl, rfl⟩
  · exact ⟨fun k => by cases k <;> rfl, rfl, rfl⟩

end Sys2Proof.Machine
end

section
/-! SUPPORT. The gate's selection (R113, R114, O33) and the window change (R110, O36). -/

namespace Sys2Proof.Machine

/-! ## Which queue the gate takes (R114) -/

/-- The head of a queue is not taken exactly while the window closes the queue or the head is longer than the time
remaining; an empty queue has no head. -/
theorem State.headFits_eq_false {s : State} {p : Port} {q : QueueNo} :
    s.headFits p q = false ↔
      (s.plans.activePlan p).opens (s.port p).gate.window q = false
        ∨ ∀ g ∈ (s.queue p q).frames.head?, (s.port p).gate.windowEnd - s.localTime < g.frame.occupancy := by
  unfold State.headFits State.queueOpen State.timeRemaining
  cases (s.plans.activePlan p).opens (s.port p).gate.window q <;> cases (s.queue p q).frames <;> simp

theorem State.headFits_eq_true {s : State} {p : Port} {q : QueueNo} {f : QueuedFrame} {rest : List QueuedFrame}
    (hf : (s.queue p q).frames = f :: rest)
    (ho : (s.plans.activePlan p).opens (s.port p).gate.window q = true)
    (hfit : f.frame.occupancy ≤ (s.port p).gate.windowEnd - s.localTime) : s.headFits p q = true := by
  simp [State.headFits, State.queueOpen, State.timeRemaining, hf, ho, hfit]

/-- The queues are tried from Q3 down: before a queue stand the queues of higher number. -/
theorem queues_before (q : QueueNo) :
    ∃ before after, [3, 2, 1, 0] = before ++ q :: after ∧ ∀ k ∈ before, q < k := by
  match q with
  | 3 => exact ⟨[], [2, 1, 0], rfl, by decide⟩
  | 2 => exact ⟨[3], [1, 0], rfl, by decide⟩
  | 1 => exact ⟨[3, 2], [0], rfl, by decide⟩
  | 0 => exact ⟨[3, 2, 1], [], rfl, by decide⟩

/-- The gate takes the queue of the highest number whose head fits. -/
theorem State.selected_eq_some {s : State} {p : Port} {q : QueueNo} (hq : s.headFits p q = true)
    (hk : ∀ k, q < k → s.headFits p k = false) : s.selected p = some q := by
  obtain ⟨before, after, he, hb⟩ := queues_before q
  exact List.find?_eq_some_iff_append.2 ⟨hq, before, after, he, fun k hm => by rw [hk k (hb k hm)]; rfl⟩

theorem State.selected_eq_none {s : State} {p : Port} (h : ∀ q, s.headFits p q = false) : s.selected p = none :=
  List.find?_eq_none.2 fun q _ => by rw [h q]; decide

theorem State.canSend_iff {s : State} {p : Port} :
    s.canSend p = true ↔ (s.port p).link = .up ∧ (s.port p).transmitter = .idle := by
  simp [State.canSend]

/-! ## What a selection does (R73, R18, R113) -/

/-- The device with the head of a queue handed to the transmitter, its departure not yet reported. -/
def State.headSent (s : State) (p : Port) (q : QueueNo) (f : QueuedFrame) (rest : List QueuedFrame) : State :=
  (s.modQueue p q fun Q => { Q with frames := rest }).modPort p fun P =>
    { P with transmitter := .sending q f.frame (s.localTime + f.frame.occupancy) }

theorem State.headSent_engine (s : State) (p : Port) (q : QueueNo) (f : QueuedFrame) (rest : List QueuedFrame) :
    (s.headSent p q f rest).engine = s.engine := by
  rw [State.headSent, State.modPort_engine, State.modQueue_engine]

/-- A selection sends the head of the first queue that fits, and its departure is reported (R72). -/
theorem State.trySelect_sends {s : State} {p : Port} {q : QueueNo} {f : QueuedFrame} {rest : List QueuedFrame}
    (hc : s.canSend p = true) (hs : s.selected p = some q) (hf : (s.queue p q).frames = f :: rest) :
    s.trySelect p = (s.headSent p q f rest).reportDeparture f.origin := by
  simp only [State.trySelect, hc, if_true, hs, State.sendHead, hf]
  rfl

/-- A selection with nothing to take or nowhere to send it changes nothing. -/
theorem State.trySelect_nothing {s : State} {p : Port} (h : s.canSend p = false ∨ ∀ q, s.headFits p q = false) :
    s.trySelect p = s := by
  unfold State.trySelect
  split
  · rename_i hc
    rcases h with h | h
    · rw [hc] at h
      cases h
    · rw [State.selected_eq_none h]
  · rfl

/-- Settles O33: the first queue from Q3 down whose head fits is selected, its head sent, and the departure of an awaited
reply reported (R72, R132). -/
theorem selectionTakesTheFirstFittingHead : Obligations.SelectionTakesTheFirstFittingHead := by
  refine ⟨fun s p q f rest hl ht hf ho hfit hk => ?_, fun s p h => State.trySelect_nothing ?_⟩
  · have hs : s.selected p = some q :=
      State.selected_eq_some (State.headFits_eq_true hf ho hfit) fun k hq => State.headFits_eq_false.2 (hk k hq)
    rw [State.trySelect_sends (State.canSend_iff.2 ⟨hl, ht⟩) hs hf]
    refine ⟨fun hn => ?_, fun hr he => ?_⟩
    · exact State.reportDeparture_other _ _ (by rwa [State.headSent_engine])
    · rw [hr, State.reportDeparture_awaited _ (by rwa [State.headSent_engine])]
      cases p <;> rfl
  · rcases h with h | h | h
    · exact .inl (Bool.eq_false_iff.2 fun hc => by simp [(State.canSend_iff.1 hc).1] at h)
    · exact .inl (Bool.eq_false_iff.2 fun hc => h (State.canSend_iff.1 hc).2)
    · exact .inr fun q => State.headFits_eq_false.2 (h q)

/-! ## The window change (R110) -/

/-- Settles O36: before any other deadline the window's end makes the change and tries a selection; the last window in use
has no change. -/
theorem windowsChangeInTurn : Obligations.WindowsChangeInTurn := by
  intro s u p hr
  have hexec : exec (.windowChange p) s =
      .next (s.whenReached (s.windowChangeAt p) fun s => s.changeWindow p).settle :=
    runEvent_running s (fun s => s.whenReached (s.windowChangeAt p) fun s => s.changeWindow p) hr
  refine ⟨fun hw hf hu => ?_, fun hp hw => ?_⟩
  · have hchange : exec (.windowChange p) s = .next (u.trySelect p).settle := by
      rw [hexec, State.windowChangeAt_eq_some.2 ⟨hw, rfl⟩, State.whenReached_first hf, hu]
      rfl
    refine ⟨hchange, fun hp => ?_⟩
    have hu' : u.engine = s.engine := by rw [hu, State.modPort_engine]
    rw [hchange, State.settle_eq]
    rw [State.trySelect_engine _ _ (hu' ▸ hp.notResetting), hu']
    exact hp.notDue
  · have hn : s.windowChangeAt p = none := if_neg (by omega)
    rw [hexec, hn]
    exact congrArg _ (s.settle_eq hp.notDue)

end Sys2Proof.Machine
end

section
/-! SUPPORT. The requests that change the staged plans (R100 to R102, O56), and the commit and its cancelling (R104, R105,
R107, O57). -/

namespace Sys2Proof.Machine

/-! ## Windows in operand bytes (section 11.2, R101) -/

/-- Is window `k` of these bytes in range? -/
def WindowInRange (bs : List Byte) (k : Nat) : Prop :=
  100 ≤ fieldAt bs (5 * k) 4 ∧ fieldAt bs (5 * k) 4 ≤ 10000000 ∧ (byteAt bs (4 + 5 * k)).toNat < 16

/-- Window `k` of these bytes. -/
def windowAt (bs : List Byte) (k : Nat) : Window := ⟨fieldAt bs (5 * k) 4, (byteAt bs (4 + 5 * k)).setWidth 4⟩

theorem windowInRange_drop (bs : List Byte) (k : Nat) : WindowInRange (bs.drop 5) k ↔ WindowInRange bs (k + 1) := by
  simp only [WindowInRange, fieldAt_drop, byteAt_drop, Nat.mul_add, Nat.mul_one, Nat.add_comm, Nat.add_left_comm]

theorem windowAt_drop (bs : List Byte) (k : Nat) : windowAt (bs.drop 5) k = windowAt bs (k + 1) := by
  simp only [windowAt, fieldAt_drop, byteAt_drop, Nat.mul_add, Nat.mul_one, Nat.add_comm, Nat.add_left_comm]

theorem windowOf_take (bs : List Byte) :
    windowOf (bs.take 5) = checked
      (Config.windowMin ≤ fieldAt bs 0 4 && fieldAt bs 0 4 ≤ Config.windowMax && (byteAt bs 4).toNat < 16)
      (windowAt bs 0) := by
  have hd : fieldAt (bs.take 5) 0 4 = fieldAt bs 0 4 := by simp [fieldAt, List.take_take]
  have ho : byteAt (bs.take 5) 4 = byteAt bs 4 := by simp [byteAt]
  simp only [windowOf, hd, ho]
  rfl

theorem windowOf_eq_some {bs : List Byte} (h : WindowInRange bs 0) : windowOf (bs.take 5) = some (windowAt bs 0) := by
  rw [windowOf_take, checked_eq_some]
  exact ⟨by simpa [WindowInRange, and_assoc] using h, rfl⟩

theorem windowOf_eq_none {bs : List Byte} (h : ¬ WindowInRange bs 0) : windowOf (bs.take 5) = none := by
  rw [windowOf_take, checked_eq_none, Bool.eq_false_iff]
  exact fun hc => h (by simpa [WindowInRange, and_assoc] using hc)

/-- Windows in range are read in order. -/
theorem windowsOf_eq_some {n : Nat} {bs : List Byte} (h : ∀ k, k < n → WindowInRange bs k) :
    windowsOf n bs = some ((List.range n).map (windowAt bs)) := by
  induction n generalizing bs with
  | zero => rfl
  | succ n ih =>
    have hrest : windowsOf n (bs.drop 5) = some ((List.range n).map (windowAt (bs.drop 5))) :=
      ih fun k hk => (windowInRange_drop bs k).2 (h (k + 1) (by omega))
    have hshift : windowAt (bs.drop 5) = windowAt bs ∘ Nat.succ := funext (windowAt_drop bs)
    simp only [windowsOf, windowOf_eq_some (h 0 (by omega)), hrest, hshift, List.range_succ_eq_map, List.map_cons,
      List.map_map]

/-- One window out of range refuses all. -/
theorem windowsOf_eq_none {n : Nat} {bs : List Byte} (h : ∃ k, k < n ∧ ¬ WindowInRange bs k) :
    windowsOf n bs = none := by
  induction n generalizing bs with
  | zero => obtain ⟨k, hk, _⟩ := h; omega
  | succ n ih =>
    obtain ⟨k, hk, hbad⟩ := h
    cases k with
    | zero => simp only [windowsOf, windowOf_eq_none hbad]
    | succ k =>
      have hrest : windowsOf n (bs.drop 5) = none :=
        ih ⟨k, by omega, fun hin => hbad ((windowInRange_drop bs k).1 hin)⟩
      unfold windowsOf
      rw [hrest]
      split
      · contradiction
      · rfl

/-! ## Slots written (R101) -/

theorem writeSlots_outside {slots : Vector (Option Window) 32} {first j : Nat} {ws : List Window}
    (h : j < first ∨ first + ws.length ≤ j) : (writeSlots slots first ws)[j]? = slots[j]? := by
  induction ws generalizing slots first with
  | nil => rfl
  | cons w ws ih =>
    rw [List.length_cons] at h
    rw [writeSlots, ih (by omega), Vector.getElem?_setIfInBounds_ne (by omega)]

theorem writeSlots_inside {slots : Vector (Option Window) 32} {first k : Nat} {ws : List Window} {w : Window}
    (h : first + ws.length ≤ 32) (hk : ws[k]? = some w) : (writeSlots slots first ws)[first + k]? = some (some w) := by
  induction ws generalizing slots first k with
  | nil => cases hk
  | cons v ws ih =>
    rw [List.length_cons] at h
    cases k with
    | zero =>
      cases hk
      rw [writeSlots, writeSlots_outside (by omega), Nat.add_zero, Vector.getElem?_setIfInBounds_self_of_lt (by omega)]
    | succ k =>
      rw [writeSlots, ← Nat.add_assoc, Nat.add_right_comm]
      exact ih (by omega) hk

/-! ## Step 6 of the three requests (R99 to R102) -/

section
variable {s : State} {r : Request} {rest : List Request} (hp : s.plans.commitPending = false)
include hp

theorem servePlanHeader_set {p : Port} (hport : byteAt r.operands 0 = portByte p)
    (h1 : 1000 ≤ fieldAt r.operands 1 4) (h2 : fieldAt r.operands 1 4 ≤ 10000000)
    (h3 : 1 ≤ (byteAt r.operands 5).toNat) (h4 : (byteAt r.operands 5).toNat ≤ 32) :
    servePlanHeader r (s.atStep6 r rest) =
      ({ s.atStep6 r rest with
          plans := s.plans.setStaged p
            { s.plans.stagedPlan p with
              cycleLength := fieldAt r.operands 1 4
              windowCount := (byteAt r.operands 5).toNat } },
        some ⟨.ok, beBytes 4 (s.plans.stagedPlan p).cycleLength
          ++ [BitVec.ofNat 8 (s.plans.stagedPlan p).windowCount]⟩) := by
  simp only [servePlanHeader, State.atStep6_plans, hp, portOf_eq_some.2 hport, Bool.false_eq_true, if_false]
  rw [if_pos (by simp [h1, h2, h3, h4])]

theorem servePlanHeader_refused
    (h : 1 < (byteAt r.operands 0).toNat ∨ fieldAt r.operands 1 4 < 1000 ∨ 10000000 < fieldAt r.operands 1 4
      ∨ (byteAt r.operands 5).toNat = 0 ∨ 32 < (byteAt r.operands 5).toNat) :
    servePlanHeader r s = (s, some ⟨.badValue, []⟩) := by
  simp only [servePlanHeader, hp, Bool.false_eq_true, if_false]
  split
  · rename_i hport
    rw [← portOf_eq_none, hport] at h
    simp only [reduceCtorEq, false_or] at h
    rw [if_neg]
    simp only [Bool.and_eq_true, decide_eq_true_eq, Config.cycleLengthMin, Config.cycleLengthMax]
    omega
  · rfl

theorem servePlanWindows_set {p : Port} {first n : Nat} {ws : List Window} (hport : byteAt r.operands 0 = portByte p)
    (hfirst : (byteAt r.operands 1).toNat = first) (hn : (byteAt r.operands 2).toNat = n) (h1 : 1 ≤ n) (h8 : n ≤ 8)
    (hend : first + n ≤ 32) (hws : windowsOf n (r.operands.drop 3) = some ws) :
    servePlanWindows r (s.atStep6 r rest) =
      ({ s.atStep6 r rest with
          plans := s.plans.setStaged p
            { s.plans.stagedPlan p with slots := writeSlots (s.plans.stagedPlan p).slots first ws } },
        some ⟨.ok, [byteAt r.operands 1, byteAt r.operands 2]⟩) := by
  simp only [servePlanWindows, State.atStep6_plans, hp, portOf_eq_some.2 hport, hfirst, hn, hws, Bool.false_eq_true,
    if_false]
  rw [if_pos]
  simp only [Bool.and_eq_true, decide_eq_true_eq]
  omega

theorem servePlanWindows_refused {first n : Nat} (hfirst : (byteAt r.operands 1).toNat = first)
    (hn : (byteAt r.operands 2).toNat = n)
    (h : 1 < (byteAt r.operands 0).toNat ∨ 31 < first ∨ n = 0 ∨ 8 < n ∨ 32 < first + n
      ∨ windowsOf n (r.operands.drop 3) = none) :
    servePlanWindows r s = (s, some ⟨.badValue, []⟩) := by
  simp only [servePlanWindows, hp, hfirst, hn, Bool.false_eq_true, if_false]
  split
  · rename_i hport hws
    rw [← portOf_eq_none, hport, hws] at h
    simp only [reduceCtorEq, false_or, or_false] at h
    rw [if_neg]
    simp only [Bool.and_eq_true, decide_eq_true_eq]
    omega
  · rfl

theorem servePlanRevert_reverts :
    servePlanRevert r (s.atStep6 r rest) =
      ({ s.atStep6 r rest with plans := s.plans.revert }, some ⟨.ok, []⟩) := by
  simp only [servePlanRevert, State.atStep6_plans, hp, Bool.false_eq_true, if_false]

end

/-- A written slot holds its window, and every other slot stands. -/
theorem writeSlots_windows {x : Plan} {bs : List Byte} {first n : Nat} (hend : first + n ≤ 32) :
    let y := { x with slots := writeSlots x.slots first ((List.range n).map (windowAt bs)) }
    (∀ k, k < n → y.slot (first + k) = some (windowAt bs k))
      ∧ ∀ k, k < first ∨ first + n ≤ k → y.slot k = x.slot k := by
  refine ⟨fun k hk => ?_, fun k hk => ?_⟩
  · have hw : ((List.range n).map (windowAt bs))[k]? = some (windowAt bs k) := by simp [hk]
    simp only [Plan.slot, writeSlots_inside (by simpa using hend) hw, Option.join_some]
  · have hout : k < first ∨ first + ((List.range n).map (windowAt bs)).length ≤ k := by simpa using hk
    simp only [Plan.slot, writeSlots_outside hout]

/-- Settles O56: each request is refused while a commit is pending, refused out of its ranges, and otherwise changes the
staged plan it names. -/
theorem stagedPlansChange : Obligations.StagedPlansChange := by
  intro s r rest
  have hx := s.atStep6_state r rest
  have hplans := State.atStep6_plans (s := s) (r := r) (rest := rest)
  have hrange : ∀ k, WindowInRange (r.operands.drop 3) k ↔ 100 ≤ fieldAt r.operands (3 + 5 * k) 4
      ∧ fieldAt r.operands (3 + 5 * k) 4 ≤ 10000000 ∧ (byteAt r.operands (7 + 5 * k)).toNat < 16 := by
    intro k
    rw [WindowInRange, fieldAt_drop, byteAt_drop, ← Nat.add_assoc]
  refine ⟨fun o ho h hp => h.commitPending_answered (List.mem_append_left [Op.planCommit] ho) hp,
    fun h hp => ⟨fun p hport h1 h2 h3 h4 => h.event (servePlanHeader_set hp hport h1 h2 h3 h4) hx,
      fun hbad => h.event (servePlanHeader_refused (hplans ▸ hp) hbad) hx⟩,
    fun h hp first n hfirst hn => ⟨fun p hport h1 h8 hend hin => ?_, fun hbad => ?_⟩,
    fun h hp => ?_⟩
  · have hws := windowsOf_eq_some (n := n) fun k hk => (hrange k).2 (hin k hk)
    obtain ⟨t, ht, ha⟩ := h.event (servePlanWindows_set hp hport hfirst hn h1 h8 hend hws) hx
    obtain ⟨hwritten, hstands⟩ := writeSlots_windows (x := s.plans.stagedPlan p) (bs := r.operands.drop 3) hend
    refine ⟨t, _, ht, ha, rfl, rfl, fun k hk => (hwritten k hk).trans ?_, hstands⟩
    rw [windowAt, fieldAt_drop, byteAt_drop, ← Nat.add_assoc]
  · refine h.event (servePlanWindows_refused (hplans ▸ hp) hfirst hn ?_) hx
    refine hbad.imp_right (Or.imp_right (Or.imp_right (Or.imp_right (Or.imp_right ?_))))
    rintro ⟨k, hk, hout⟩
    refine windowsOf_eq_none ⟨k, hk, fun hin => ?_⟩
    have := (hrange k).1 hin
    omega
  · obtain ⟨t, ht, ha⟩ := h.event (servePlanRevert_reverts hp) hx
    exact ⟨t, s.plans.revert, ht, ha, fun p => ⟨s.plans.revert_stagedPlan p, s.plans.revert_activePlan p⟩,
      s.plans.revert_active, s.plans.revert_commitPending.trans hp, s.plans.revert_lastSwap⟩

/-! ## PLAN_COMMIT and PLAN_CANCEL (R104, R105, R107) -/

theorem State.atStep6_commitFault (s : State) (r : Request) (rest : List Request) :
    (s.atStep6 r rest).commitFault = s.commitFault := by
  simp only [State.commitFault, State.atStep6_plans, State.atStep6_beat]

section
variable {s : State} {r : Request} {rest : List Request}

/-- A commit with a fault is answered INVALID_PLAN with the fault's results (R104). -/
theorem servePlanCommit_invalid {results : List Byte} (hp : s.plans.commitPending = false)
    (hf : s.commitFault = some results) :
    servePlanCommit r (s.atStep6 r rest) = (s.atStep6 r rest, some ⟨.invalidPlan, results⟩) := by
  simp only [servePlanCommit, State.atStep6_plans, hp, Bool.false_eq_true, if_false, State.atStep6_commitFault, hf]

theorem Bank.other_code (k : Bank) : k.other.code = if k = .a then 0x01 else 0x00 := by cases k <;> rfl

/-- A commit without a fault is accepted (R105). -/
theorem servePlanCommit_accepted (hp : s.plans.commitPending = false) (hf : s.commitFault = none) :
    servePlanCommit r (s.atStep6 r rest) =
      ({ s.atStep6 r rest with plans := { s.plans with commitPending := true } },
        some ⟨.accepted, beBytes 4 (s.plans.stagedPlan .u).cycleLength
          ++ [if s.plans.active = Bank.a then 0x01 else 0x00]⟩) := by
  simp only [servePlanCommit, State.atStep6_plans, hp, Bool.false_eq_true, if_false, State.atStep6_commitFault, hf,
    Bank.other_code]

theorem servePlanCancel_pending (hp : s.plans.commitPending = true) :
    servePlanCancel r (s.atStep6 r rest) =
      ({ s.atStep6 r rest with plans := { s.plans with commitPending := false } }, some ⟨.ok, []⟩) := by
  simp only [servePlanCancel, State.atStep6_plans, hp, if_true]

theorem servePlanCancel_nothing (hp : s.plans.commitPending = false) :
    servePlanCancel r (s.atStep6 r rest) =
      (s.atStep6 r rest,
        some ⟨.nothingPending, [s.plans.active.code] ++ optionBytes 4 (s.plans.lastSwap.map BitVec.toNat)⟩) := by
  simp only [servePlanCancel, State.atStep6_plans, hp, Bool.false_eq_true, if_false]

end

/-- Settles O57: the first of the eight tests that fails gives the answer; with none the commit is accepted. -/
theorem commitsAreJudged : Obligations.CommitsAreJudged := by
  intro s r rest x allSet sum q3 hx hset hsum hq3
  obtain rfl : x = s.plans.stagedPlan := funext hx
  have hvalid : ∀ p, (s.plans.stagedPlan p).valid = true ↔ allSet p ∧ sum p ∧ q3 p := fun p => by
    rw [Plan.valid_iff, hset, hsum, hq3]
    rfl
  have hx0 := s.atStep6_state r rest
  refine ⟨fun h => ⟨fun hp => h.commitPending_answered (by simp) hp, fun hp => ⟨fun p hu => ?_, fun hall => ?_⟩⟩,
    fun h => ⟨fun hp => h.event (servePlanCancel_pending hp) hx0,
      fun hp => h.event_results (servePlanCancel_nothing hp) hx0 ?_⟩⟩
  · have hfault : ∀ {results}, planFault p (s.plans.stagedPlan p) = some results →
        ∃ t, exec .planCommit s = .next t ∧ (s.atStep6 r rest).Answered r .invalidPlan results t := fun hf =>
      h.event (servePlanCommit_invalid hp (State.commitFault_of_planFault (fun hd => (hvalid .u).2 (hu hd)) hf)) hx0
    exact ⟨fun k hk hs hfirst => hfault (planFault_unset hk hs hfirst),
      fun ha hn => hfault (planFault_sum ((hset p).1 ha) fun e => hn ((hsum p).2 e)),
      fun ha hs hn => hfault (planFault_q3 ((hset p).1 ha) ((hsum p).1 hs) fun e => hn ((hq3 p).2 e))⟩
  · have hv := fun p => (hvalid p).2 (hall p)
    exact ⟨fun hl => h.event (servePlanCommit_invalid hp (State.commitFault_lengths hv hl)) hx0,
      fun hl hb ht => h.event (servePlanCommit_invalid hp (State.commitFault_tolerance hv hl hb ht)) hx0,
      fun hl hb => h.event
        (servePlanCommit_accepted hp (State.commitFault_eq_none.2 ⟨hv, hl, fun hf => hb.resolve_left hf⟩)) hx0⟩
  · cases s.plans.active <;> cases s.plans.lastSwap <;> rfl

end Sys2Proof.Machine
end

section
/-! SUPPORT. What sends a frame does to the engine's state and to the frames that wait (R72, R126, R132): in RESETTING the
awaited reply either leaves, and the unit reset is due, or stays behind fewer frames. -/

namespace Sys2Proof.Machine

/-! ## Queues that lose their heads and grow at their tails -/

/-- From `fs` to `gs` a queue loses frames at its head, none of them the awaited reply, and gains frames at its tail. -/
def Shifted (fs gs : List QueuedFrame) : Prop :=
  ∃ gone added, gone ++ gs = fs ++ added ∧ ∀ f ∈ gone, f.origin ≠ .reply true

theorem Shifted.refl (fs : List QueuedFrame) : Shifted fs fs := ⟨[], [], by simp, by simp⟩

theorem Shifted.trans {fs gs hs : List QueuedFrame} (h : Shifted fs gs) (k : Shifted gs hs) : Shifted fs hs := by
  obtain ⟨gone, added, he, hn⟩ := h
  obtain ⟨gone', added', he', hn'⟩ := k
  refine ⟨gone ++ gone', added ++ added', ?_, fun f hf => (List.mem_append.1 hf).elim (hn f) (hn' f)⟩
  rw [List.append_assoc, he', ← List.append_assoc, he, List.append_assoc]

theorem Shifted.head (f : QueuedFrame) (fs : List QueuedFrame) (h : f.origin ≠ .reply true) : Shifted (f :: fs) fs :=
  ⟨[f], [], by simp, by simpa using h⟩

theorem Shifted.tail (fs : List QueuedFrame) (f : QueuedFrame) : Shifted fs (fs ++ [f]) := ⟨[], [f], rfl, by simp⟩

/-- An awaited reply that waits still waits afterwards, behind no frame that was not ahead of it. -/
theorem Shifted.awaited {old behind gs : List QueuedFrame} {g : QueuedFrame} (h : Shifted (old ++ g :: behind) gs)
    (hg : g.origin = .reply true) : ∃ old' behind', gs = old' ++ g :: behind' ∧ ∀ f ∈ old', f ∈ old := by
  obtain ⟨gone, added, he, hn⟩ := h
  rw [List.append_assoc, List.append_eq_append_iff] at he
  obtain ⟨kept, rfl, rfl⟩ | ⟨more, rfl, hm⟩ := he
  · exact ⟨kept, behind ++ added, rfl, fun f hf => List.mem_append_right _ hf⟩
  · cases more with
    | nil => exact ⟨[], behind ++ added, hm.symm, by simp⟩
    | cons f fs =>
      obtain ⟨rfl, _⟩ := List.cons_eq_cons.1 hm
      exact absurd hg (hn g (by simp))

/-! ## The relation -/

/-- From `s` to `t` frames are sent and notices listed: the engine's state stands, or the awaited reply has left in
RESETTING; and while it has not, every queue is at most shifted. -/
structure State.SendsOut (s t : State) : Prop where
  sending : s.OnlySending t
  state : t.engine.state = s.engine.state ∨ s.engine.state = .resetting ∧ t.engine.state = .resetDue
  queues : s.engine.state = .resetting → t.engine.state = .resetting →
    ∀ p q, Shifted (s.queue p q).frames (t.queue p q).frames

theorem State.SendsOut.refl (s : State) : s.SendsOut s := ⟨.refl s, .inl rfl, fun _ _ _ _ => .refl _⟩

theorem State.SendsOut.trans {s t u : State} (h : s.SendsOut t) (k : t.SendsOut u) : s.SendsOut u where
  sending := h.sending.trans k.sending
  state := by
    obtain e | ⟨hr, e⟩ := h.state <;> obtain e' | ⟨hr', e'⟩ := k.state
    · exact .inl (e'.trans e)
    · exact .inr ⟨e ▸ hr', e'⟩
    · exact .inr ⟨hr, e'.trans e⟩
    · exact .inr ⟨hr, e'⟩
  queues := fun hr hu p q => by
    have ht : t.engine.state = .resetting := by
      obtain e | ⟨_, e⟩ := h.state
      · rw [e, hr]
      · obtain e' | ⟨hr', _⟩ := k.state
        · rw [e', e] at hu; cases hu
        · exact hr'
    exact (h.queues hr ht p q).trans (k.queues ht hu p q)

/-- Bookkeeping sends nothing out: the engine's state and all waiting frames stand. -/
theorem State.SendsOut.of_frames {s t : State} (h : s.OnlySending t) (he : t.engine.state = s.engine.state)
    (hq : ∀ p q, (t.queue p q).frames = (s.queue p q).frames) : s.SendsOut t :=
  ⟨h, .inl he, fun _ _ p q => hq p q ▸ .refl _⟩

/-- A change of the frames of one queue. -/
theorem State.SendsOut.of_modQueue {s : State} {p : Port} {q : QueueNo} {f : Queue → Queue}
    (h : s.OnlySending (s.modQueue p q f)) (hf : Shifted (s.queue p q).frames (f (s.queue p q)).frames) :
    s.SendsOut (s.modQueue p q f) := by
  refine ⟨h, .inl (by rw [State.modQueue_engine]), fun _ _ p' q' => ?_⟩
  by_cases hne : p' ≠ p ∨ q' ≠ q
  · rw [State.modQueue_queue_ne _ _ _ _ _ _ hne]; exact .refl _
  · obtain ⟨rfl, rfl⟩ : p' = p ∧ q' = q := by simpa using hne
    rwa [State.modQueue_queue]

theorem State.countQueue_sendsOut (s : State) (p : Port) (q : QueueNo) (f : QueueCounters → QueueCounters) :
    s.SendsOut (s.countQueue p q f) :=
  .of_frames (s.countQueue_onlySending p q f) (by rw [State.countQueue_engine]) fun p' k => s.countQueue_frames p p' q k f

theorem State.returnBlocks_sendsOut (s : State) (n : Nat) : s.SendsOut (s.returnBlocks n) :=
  .of_frames (s.returnBlocks_onlySending n) rfl fun p _ => by cases p <;> rfl

theorem State.takeBlocks_sendsOut {s t : State} {n : Nat} (h : s.takeBlocks n = some t) : s.SendsOut t := by
  obtain ⟨_, e⟩ | ⟨_, e⟩ := s.takeBlocks_spec n <;> rw [e] at h <;> cases h
  exact .of_frames (s.pool_onlySending _) rfl fun p _ => by cases p <;> rfl

/-- What changes the Notice Unit alone, its settings and its destination apart, sends nothing out. -/
theorem State.notice_sendsOut (s : State) (n : NoticeUnit) (hs : n.settings = s.notice.settings)
    (hd : n.destination = s.notice.destination) : s.SendsOut { s with notice := n } :=
  .of_frames (s.notice_onlySending n hs hd) rfl fun p _ => by cases p <;> rfl

/-! ## Departures, selections and offers (R72, R73, R69) -/

/-- A frame that leaves: its departure is reported after the change `t` that takes it from its queue (R72). -/
theorem State.SendsOut.departs {s t : State} {o : Origin} (h : s.OnlySending t)
    (he : t.engine.state = s.engine.state)
    (hq : o ≠ .reply true → s.engine.state = .resetting →
      ∀ p q, Shifted (s.queue p q).frames (t.queue p q).frames) : s.SendsOut (t.reportDeparture o) := by
  by_cases hd : o = .reply true ∧ t.engine.state = .resetting
  · obtain ⟨rfl, hr⟩ := hd
    have hdue := t.reportDeparture_awaited hr
    refine ⟨h.trans (State.reportDeparture_onlySending _ _), .inr ⟨he ▸ hr, by rw [hdue]⟩, fun _ hx => ?_⟩
    rw [hdue] at hx; cases hx
  · rw [t.reportDeparture_other o fun ho hr => hd ⟨ho, hr⟩]
    exact ⟨h, .inl he, fun hr _ => hq (fun ho => hd ⟨ho, he.trans hr⟩) hr⟩

theorem State.reportDeparture_sendsOut (s : State) (o : Origin) : s.SendsOut (s.reportDeparture o) :=
  .departs (.refl s) rfl fun _ _ _ _ => .refl _

theorem State.sendHead_sendsOut (s : State) (p : Port) (q : QueueNo) : s.SendsOut (s.sendHead p q) := by
  unfold State.sendHead
  split
  · exact .refl s
  · rename_i f rest hf
    have hpop := s.modQueue_onlySending p q (fun Q => { Q with frames := rest }) (fun _ => rfl) fun _ => rfl
    refine .departs (hpop.trans (State.setTransmitter_onlySending _ _ _)) (by simp) fun ho hr p' q' => ?_
    have hframes : ∀ x : State, ∀ y, ((x.setTransmitter p y).queue p' q') = x.queue p' q' := by
      intro x y
      cases p <;> cases p' <;> rfl
    rw [hframes]
    have hshift : s.SendsOut (s.modQueue p q fun Q => { Q with frames := rest }) :=
      .of_modQueue hpop (by rw [hf]; exact .head f rest ho)
    exact hshift.queues hr (by rwa [State.modQueue_engine]) p' q'

theorem State.trySelect_sendsOut (s : State) (p : Port) : s.SendsOut (s.trySelect p) := by
  obtain e | ⟨q, _, _, _, _, _, e⟩ := s.trySelect_spec p <;> rw [e]
  · exact .refl s
  · exact s.sendHead_sendsOut p q

theorem State.enqueue_sendsOut (s : State) (p : Port) (q : QueueNo) (f : Frame) (o : Origin) :
    s.SendsOut (s.enqueue p q f o) := by
  have hadmit : s.SendsOut (s.modQueue p q fun Q => Q.enqueued f s.timer.index o) :=
    .of_modQueue (s.modQueue_onlySending p q _ (fun _ => rfl) fun _ => rfl) (.tail _ _)
  rw [State.enqueue_eq]
  split
  · exact hadmit.trans (State.trySelect_sendsOut _ p)
  · exact hadmit

theorem State.offer_sendsOut (s : State) (p : Port) (q : QueueNo) (f : Frame) (o : Origin) :
    s.SendsOut (s.offer p q f o) := by
  have hrefused := fun g => (s.returnBlocks_sendsOut f.blocks).trans (State.countQueue_sendsOut _ p q g)
  unfold State.offer
  split
  · exact hrefused _
  · exact (hrefused _).trans (State.reportDeparture_sendsOut _ o)
  · exact s.enqueue_sendsOut p q f o

/-! ## Notices (chapter 9) -/

theorem State.listEvent_sendsOut (s : State) (e : Event) : s.SendsOut (s.listEvent e) :=
  .of_frames (s.listEvent_onlySending e) rfl fun p _ => by cases p <;> rfl

theorem State.offerNotice_sendsOut (s : State) (p : Port) (f : Frame) : s.SendsOut (s.offerNotice p f) := by
  unfold State.offerNotice
  split
  · exact (s.offer_sendsOut p 3 f .notice).trans (State.listEvent_sendsOut _ _)
  · exact s.offer_sendsOut p 3 f .notice

theorem State.firstSend_sendsOut (s : State) (dest : Requester) (x : NoticeEntry) : s.SendsOut (s.firstSend dest x) := by
  unfold State.firstSend
  split
  · exact s.notice_sendsOut _ rfl rfl
  · rename_i t ht
    refine (State.SendsOut.trans (State.takeBlocks_sendsOut ht) ?_).trans (State.offerNotice_sendsOut _ _ _)
    exact t.notice_sendsOut _ rfl rfl

theorem State.trySend_sendsOut (s : State) : s.SendsOut s.trySend := by
  unfold State.trySend
  split
  · exact .refl s
  · split
    · split
      · exact s.firstSend_sendsOut _ _
      · exact .refl s
    · exact .refl s

theorem State.raise_sendsOut (s : State) (e : Event) : s.SendsOut (s.raise e) :=
  (s.listEvent_sendsOut e).trans (State.trySend_sendsOut _)

theorem State.offerFrame_sendsOut (s : State) (p : Port) (q : QueueNo) (f : Frame) (o : Origin) :
    s.SendsOut (s.offerFrame p q f o) := by
  unfold State.offerFrame
  split
  · exact (s.offer_sendsOut p q f o).trans (State.raise_sendsOut _ _)
  · exact s.offer_sendsOut p q f o

/-! ## Ageing and the work of a cycle start (R74, R83) -/

/-- Departures from an engine leave its state, or make the unit reset due in RESETTING. -/
theorem Engine.departs_state (e : Engine) (fs : List QueuedFrame) :
    (e.departs fs).state = e.state ∨ e.state = .resetting ∧ (e.departs fs).state = .resetDue := by
  unfold Engine.departs
  split
  · rename_i h; exact .inr ⟨h.1, rfl⟩
  · exact .inl rfl

/-- A departure of the awaited reply in RESETTING makes the unit reset due. -/
theorem Engine.departs_awaited {e : Engine} {fs : List QueuedFrame} {g : QueuedFrame} (he : e.state = .resetting)
    (hm : g ∈ fs) (hg : g.origin = .reply true) : e.departs fs = { e with state := .resetDue } :=
  if_pos ⟨he, g, hm, hg⟩

theorem State.ageQueue_sendsOut (s : State) (p : Port) (q : QueueNo) : s.SendsOut (s.ageQueue p q) := by
  have hsend := s.ageQueue_onlySending p q
  by_cases ha : (s.queue p q).ageLimit = 0
  · rw [State.ageQueue_zero ha]
    exact .refl s
  · rw [State.ageQueue_pos ha] at hsend ⊢
    refine ⟨hsend, Engine.departs_state _ _, fun hr ht p' q' => ?_⟩
    have hstay : ∀ f ∈ agedFrames (s.queue p q).ageLimit s.timer.index (s.queue p q).frames,
        f.origin ≠ .reply true := by
      intro f hf ho
      rw [Engine.departs_awaited hr hf ho] at ht
      cases ht
    have haged : s.SendsOut (s.modQueue p q fun Q => Q.agedAt s.timer.index) :=
      .of_modQueue (s.modQueue_onlySending p q _ (fun _ => rfl) fun _ => rfl)
        ⟨_, [], by rw [List.append_nil]; exact agedFrames_append_youngFrames _ _ _, hstay⟩
    have hqueues := haged.queues hr (by rwa [State.modQueue_engine]) p' q'
    cases p' <;> exact hqueues

theorem runWork_sendsOut (w : Work) (s : State) : s.SendsOut (runWork w s) := by
  cases w with
  | age p q => exact s.ageQueue_sendsOut p q
  | select p => exact s.trySelect_sendsOut p
  | raise e => exact s.raise_sendsOut e

/-- Drawing a free value sends nothing out. -/
theorem State.freeCount_sendsOut (s : State) (n : Nat) : s.SendsOut { s with freeCount := n } :=
  .of_frames (s.freeCount_onlySending n) rfl fun p _ => by cases p <;> rfl

theorem foldl_runWork_sendsOut (ws : List Work) (s : State) :
    s.SendsOut (ws.foldl (fun x w => runWork w x) s) := by
  induction ws generalizing s with
  | nil => exact .refl s
  | cons w ws ih => exact (runWork_sendsOut w s).trans (ih _)

theorem inAnyOrder_sendsOut (l : List Work) (s : State) : s.SendsOut (inAnyOrder runWork l s) :=
  inAnyOrder_preserves (P := s.SendsOut) (fun x h => h.trans (x.freeCount_sendsOut _))
    (fun w _ h => h.trans (runWork_sendsOut w _)) l s (.refl s)

end Sys2Proof.Machine
end

section
/-! SUPPORT. What the events leave of the Management Engine: all but its counters, or a take, an admission or a visit of
the purge walk. With it the law of the engine at every step (R118, R120, R127, O8). -/

namespace Sys2Proof.Machine

/-! ## Engines that differ at most in their counters -/

/-- From `e` to `e'` the requests and the stored replies stand. -/
structure Engine.SameStores (e e' : Engine) : Prop where
  queue : e'.queue = e.queue
  memory : e'.memory = e.memory

/-- From `e` to `e'` the stores stand, and so does the state, but for the awaited reply that leaves in RESETTING. -/
structure Engine.Kept (e e' : Engine) : Prop extends e.SameStores e' where
  state : e'.state = e.state ∨ e.state = .resetting ∧ e'.state = .resetDue

theorem Engine.SameStores.refl (e : Engine) : e.SameStores e := ⟨rfl, rfl⟩

theorem Engine.SameStores.trans {e f g : Engine} (h : e.SameStores f) (k : f.SameStores g) : e.SameStores g :=
  ⟨k.queue.trans h.queue, k.memory.trans h.memory⟩

theorem Engine.Kept.refl (e : Engine) : e.Kept e := ⟨.refl e, .inl rfl⟩

theorem Engine.Kept.of_eq {e e' : Engine} (h : e' = e) : e.Kept e' := h ▸ .refl e'

theorem Engine.Kept.trans {e f g : Engine} (h : e.Kept f) (k : f.Kept g) : e.Kept g := by
  refine ⟨h.toSameStores.trans k.toSameStores, ?_⟩
  obtain he | ⟨hr, he⟩ := h.state <;> obtain hf | ⟨hr', hf⟩ := k.state
  · exact .inl (hf.trans he)
  · exact .inr ⟨he ▸ hr', hf⟩
  · exact .inr ⟨hr, hf.trans he⟩
  · exact .inr ⟨hr, hf⟩

theorem State.OnlySending.sameStores {s t : State} (h : s.OnlySending t) : s.engine.SameStores t.engine :=
  ⟨h.requests, h.memory⟩

theorem State.SendsOut.kept {s t : State} (h : s.SendsOut t) : s.engine.Kept t.engine := ⟨h.sending.sameStores, h.state⟩

/-- What leaves the engine alone, followed by sending. -/
theorem State.SendsOut.kept_of {s t : State} {e : Engine} (h : s.SendsOut t) (he : s.engine = e) :
    e.Kept t.engine := he ▸ h.kept

theorem eitherOrder_kept {f g : State → State} (s : State) (hf : ∀ x : State, x.engine.Kept (f x).engine)
    (hg : ∀ x : State, x.engine.Kept (g x).engine) : s.engine.Kept (eitherOrder f g s).engine :=
  eitherOrder_preserves (P := fun t => s.engine.Kept t.engine) ((hf s.draw.2).trans (hg _)) ((hg s.draw.2).trans (hf _))

/-! ## Notices and the end of a session (chapters 8 and 9) -/

section
variable (s : State)

theorem State.changeDestination_engine (dest : Option Requester) : (s.changeDestination dest).engine = s.engine := by
  unfold State.changeDestination State.drawTieIndex
  split
  · rfl
  · dsimp only
    split <;> rfl

theorem State.recomputeDestination_engine : s.recomputeDestination.engine = s.engine := by
  unfold State.recomputeDestination
  split
  · rfl
  · exact s.changeDestination_engine _

theorem State.updateDestination_kept : s.engine.Kept s.updateDestination.engine := by
  unfold State.updateDestination
  split
  · exact .refl _
  · exact (State.trySend_sendsOut _).kept_of (s.changeDestination_engine _)

theorem State.setNotices_kept (x : NoticeSettings) : s.engine.Kept (s.setNotices x).engine :=
  (State.trySend_sendsOut _).kept_of (State.recomputeDestination_engine _)

theorem State.takeAck_kept (station : Half) (payload : List Byte) : s.engine.Kept (s.takeAck station payload).engine := by
  unfold State.takeAck
  dsimp only
  split
  · exact .refl _
  · exact (State.trySend_sendsOut _).kept_of rfl

theorem State.retryNotice_kept (x : NoticeEntry) (attempts : Nat) : s.engine.Kept (s.retryNotice x attempts).engine := by
  unfold State.retryNotice
  dsimp only
  split
  · exact .refl _
  · split
    · exact .refl _
    · split
      · exact .refl _
      · rename_i t ht
        exact (State.takeBlocks_sendsOut ht).kept.trans ((State.offerNotice_sendsOut _ _ _).kept_of rfl)

theorem State.retryExpired_kept : s.engine.Kept s.retryExpired.engine := by
  unfold State.retryExpired
  dsimp only
  split
  · exact (State.trySend_sendsOut _).kept_of rfl
  · split
    · exact .refl _
    · split
      · exact State.retryNotice_kept { s with notice := { s.notice with retryTimer := none } } _ _
      · exact (State.trySend_sendsOut _).kept_of rfl

theorem State.expireLease_kept : s.engine.Kept s.expireLease.engine := by
  unfold State.expireLease
  split
  · exact .refl _
  · exact ((State.listEvent_sendsOut _ _).trans (State.trySend_sendsOut _)).kept_of (State.recomputeDestination_engine _)

/-! ## Cycles and beats (R82, R86 to R91) -/

theorem State.scheduledStart_kept : s.engine.Kept s.scheduledStart.engine := (inAnyOrder_sendsOut _ _).kept_of rfl

theorem State.lockingBeat_kept (t : Ticks) : s.engine.Kept (s.lockingBeat t).engine := by
  unfold State.lockingBeat
  split
  · exact (State.raise_sendsOut _ _).kept_of rfl
  · exact (inAnyOrder_sendsOut _ _).kept_of rfl

theorem State.reAnchor_kept (t : Ticks) : s.engine.Kept (s.reAnchor t).engine :=
  (State.SendsOut.trans (State.trySelect_sendsOut _ .u) (State.trySelect_sendsOut _ .d)).kept_of rfl

theorem State.beatFault_kept : s.engine.Kept s.beatFault.engine := by
  unfold State.beatFault
  dsimp only
  split
  · exact (State.raise_sendsOut _ _).kept_of rfl
  · exact .refl _

theorem State.firstBeat_kept (t : Ticks) : s.engine.Kept (s.firstBeat t).engine := by
  unfold State.firstBeat
  dsimp only
  split
  · split
    · exact s.reAnchor_kept t
    · exact s.beatFault_kept
  · split
    · exact (inAnyOrder_sendsOut _ _).kept_of rfl
    · exact s.beatFault_kept

theorem State.reportBeat_kept (t : Ticks) : s.engine.Kept (s.reportBeat t).engine := by
  unfold State.reportBeat
  split
  · exact .refl _
  · exact State.lockingBeat_kept (s.countBeat _) t
  · exact State.lockingBeat_kept (s.countBeat _) t
  · dsimp only
    split
    · exact .refl _
    · exact State.firstBeat_kept (s.countBeat _) t

/-! ## Transmission, windows and links (R2, R3, R18, R110) -/

theorem State.completeTransmission_kept (p : Port) : s.engine.Kept (s.completeTransmission p).engine := by
  unfold State.completeTransmission
  split
  · exact .refl _
  · exact (State.trySelect_sendsOut _ p).kept_of (by simp)

theorem State.changeWindow_kept (p : Port) : s.engine.Kept (s.changeWindow p).engine :=
  (State.trySelect_sendsOut _ p).kept_of (by simp)

theorem State.raiseLink_kept (p : Port) : s.engine.Kept (s.raiseLink p).engine := by
  unfold State.raiseLink State.noticeLinkUp
  split
  · have hup := (State.trySelect_sendsOut (s.modPort p fun P => { P with link := .up, linkPinHigh := false }) p).kept_of
      (s.modPort_engine p _)
    split
    · exact hup.trans (State.trySend_sendsOut _).kept
    · exact hup
  · exact .refl _

theorem State.dropLink_kept (p : Port) : s.engine.Kept (s.dropLink p).engine := by
  cases hl : (s.port p).link with
  | down => rw [s.dropLink_down p hl]; exact .refl _
  | up =>
    rw [s.dropLink_eq p hl]
    refine ⟨⟨Engine.departs_queue _ _, ?_⟩, Engine.departs_state _ _⟩
    show (Engine.departs _ _).memory = _
    unfold Engine.departs
    split <;> rfl

/-! ## DATA frames and transit (R14, R17, R23, R24) -/

theorem State.carryOut_kept (p : Port) (f : Frame) (r : StreamRecord) (x : Fate) :
    s.engine.Kept (s.carryOut p f r x).engine := by
  cases x with
  | passed => exact (s.offerFrame_sendsOut _ _ f _).kept
  | demoted q => exact (s.offerFrame_sendsOut _ _ f _).kept
  | discarded _ => exact .refl _

theorem State.hit_engine_kept (p : Port) (f : Frame) (arrival : Ticks) (i : StreamIndex) (e : StreamEntry) :
    s.engine.Kept (s.hit p f arrival i e).engine := by
  unfold State.hit
  dsimp only
  split
  · exact eitherOrder_kept (s.setEntry i _) (fun x => x.carryOut_kept p f _ _) fun x => (x.raise_sendsOut _).kept
  · exact State.carryOut_kept (s.setEntry i _) p f _ _

theorem State.unlisted_kept (p : Port) (f : Frame) : s.engine.Kept (s.unlisted p f).engine := by
  unfold State.unlisted
  split
  · exact (State.offerFrame_sendsOut _ _ _ f _).kept_of (s.countPort_engine p _)
  · exact .of_eq (by simp)

theorem State.classify_kept (p : Port) (f : Frame) (arrival : Ticks) :
    s.engine.Kept (s.classify p f arrival).engine := by
  have hmiss : s.engine.Kept (s.miss p f).engine :=
    eitherOrder_kept s (fun x => x.unlisted_kept p f) fun x => (x.raise_sendsOut _).kept
  unfold State.classify
  split
  · exact hmiss
  · split
    · exact hmiss
    · exact s.hit_engine_kept p f arrival _ _

theorem State.inTransit_kept (p : Port) (f : Frame) : s.engine.Kept (s.inTransit p f).engine :=
  (s.offerFrame_sendsOut _ _ f _).kept

theorem State.misaddress_engine (p : Port) (f : Frame) : (s.misaddress p f).engine = s.engine := by
  simp [State.misaddress]

theorem State.broadcastCopy_kept (p : Port) (f : Frame) : s.engine.Kept (s.broadcastCopy p f).engine := by
  unfold State.broadcastCopy
  split
  · exact .of_eq (s.countPort_engine p _)
  · rename_i t ht
    exact (State.takeBlocks_sendsOut ht).kept.trans (t.inTransit_kept p f)

end

/-! ## Requests leave the stores alone (chapters 5 to 9) -/

section
variable (s : State)

theorem State.clearSet_sameStores (c : CounterSet) : s.engine.SameStores (s.clearSet c).engine := by
  cases c with
  | port p => exact ⟨by simp [State.clearSet], by simp [State.clearSet]⟩
  | queue p q => exact ⟨by simp [State.clearSet], by simp [State.clearSet]⟩
  | gate p => exact ⟨by simp [State.clearSet], by simp [State.clearSet]⟩
  | stream i => exact .refl _
  | beat => exact .refl _
  | management => exact ⟨rfl, rfl⟩
  | notice => exact .refl _

/-- Step 6 of no request touches the request queue or the reply memory: its reply is still to come (R124). -/
theorem Op.serve_sameStores (o : Op) (r : Request) : s.engine.SameStores (o.serve r s).1.engine := by
  cases o
  case sessionOpen =>
    simp only [Op.serve, serveSessionOpen]
    split
    · exact .refl _
    · split
      · split <;> exact .refl _
      · exact (State.updateDestination_kept
          { s with session := some ⟨r.requester, _, _⟩ }).toSameStores
  case sessionClose => exact (State.updateDestination_kept s.endSession).toSameStores
  case noticeSet =>
    simp only [Op.serve, serveNoticeSet]
    split
    · exact (s.setNotices_kept _).toSameStores
    · exact .refl _
  case unlistedSet =>
    simp only [Op.serve, serveUnlistedSet]
    split
    · exact (Engine.Kept.of_eq (s.modPort_engine _ _)).toSameStores
    · exact .refl _
  case queueSet =>
    simp only [Op.serve, serveQueueSet]
    split
    · split
      · exact (Engine.Kept.of_eq (s.modQueue_engine _ _ _)).toSameStores
      · exact .refl _
    · exact .refl _
  case counterRead =>
    simp only [Op.serve, serveCounterRead]
    split
    · exact .refl _
    · split
      · exact .refl _
      · dsimp only
        split
        · exact s.clearSet_sameStores _
        · exact .refl _
  case streamWrite | streamState | streamReset | streamFind | streamPurge | sessionKeep | queueRead | beatSet |
      planHeader | planWindows | planRead | planRevert | planCommit | planCancel =>
    simp only [Op.serve, serveStreamWrite, serveStreamState, serveStreamReset, serveStreamFind, serveStreamPurge,
      serveSessionKeep, serveQueueRead, serveBeatSet, servePlanHeader, servePlanWindows, servePlanRead, servePlanRevert,
      servePlanCommit, servePlanCancel]
    repeat' split
    all_goals exact ⟨rfl, rfl⟩
  case identify | unitReset | streamClear | streamRead | timeRead | noticeRead => exact ⟨rfl, rfl⟩

theorem serveOf_sameStores (o : Option Op) (r : Request) : s.engine.SameStores (serveOf o r s).1.engine := by
  cases o with
  | none => exact .refl _
  | some o => exact o.serve_sameStores s r

end

/-! ## The laws of the two stores (R118, R127) -/

/-- At most 4 requests, at most 4 stored replies, and at most one of any requester (R118, R127). -/
structure Engine.Fits (e : Engine) : Prop where
  requests : e.queue.length ≤ Config.requestQueueMax
  replies : e.memory.length ≤ Config.replyMemoryMax
  requesters : (e.memory.map MemoryEntry.requester).Nodup

theorem Engine.SameStores.fits {e e' : Engine} (h : e.SameStores e') (he : e.Fits) : e'.Fits :=
  ⟨h.queue ▸ he.requests, h.memory ▸ he.replies, h.memory ▸ he.requesters⟩

/-- Storing an entry drops its requester's own or, of four others, the oldest (R127). -/
theorem storeEntry_length {l : List MemoryEntry} (h : l.length ≤ Config.replyMemoryMax) (m : MemoryEntry) :
    (storeEntry l m).length ≤ Config.replyMemoryMax := by
  have hothers := List.length_filter_le (fun x : MemoryEntry => x.requester != m.requester) l
  unfold storeEntry
  simp only [Config.replyMemoryMax] at h ⊢
  split <;> simp <;> omega

theorem storeEntry_requesters {l : List MemoryEntry} (h : (l.map MemoryEntry.requester).Nodup) (m : MemoryEntry) :
    ((storeEntry l m).map MemoryEntry.requester).Nodup := by
  obtain ⟨kept, e, hsub, hne⟩ := storeEntry_spec l m
  rw [e, List.map_append, List.nodup_append]
  refine ⟨h.sublist (hsub.map _), by simp, ?_⟩
  simpa using hne

section
variable {s : State} (h : s.engine.Fits)
include h

theorem State.storeReply_fits (r : Request) (payload : List Byte) : (s.storeReply r payload).engine.Fits :=
  ⟨h.requests, storeEntry_length h.replies _, storeEntry_requesters h.requesters _⟩

theorem State.answer_fits (r : Request) (a : Answer) : (s.answer r a).engine.Fits :=
  (State.sendReply_onlySending _ _ _).sameStores.fits (State.storeReply_fits h r _)

theorem State.handle_fits (o o' : Option Op) (r : Request) : (s.handle o (serveOf o') r).engine.Fits := by
  unfold State.handle
  split
  · exact State.answer_fits h r _
  · refine (State.sendReply_onlySending _ _ _).sameStores.fits ?_
    exact Engine.SameStores.fits ⟨by simp, by simp⟩ h
  · have hs := (serveOf_sameStores (s.renewLease r.requester) o' r).fits (by rwa [State.renewLease_engine])
    split <;> rename_i t he <;> rw [he] at hs
    · exact State.answer_fits hs r _
    · exact hs

theorem State.endTake_fits : s.endTake.engine.Fits := by
  unfold State.endTake
  split
  · exact Engine.SameStores.fits (e := s.engine) ⟨rfl, rfl⟩ h
  · exact h

end

/-! ## The engine within an event -/

/-- The engine as an event leaves it before it is settled: its stores fit, and no request is in execution (R120). -/
structure Engine.Orderly (e : Engine) : Prop extends e.Fits where
  state : e.state ≠ .executing

theorem Engine.Kept.orderly {e e' : Engine} (h : e.Kept e') (he : e.Orderly) : e'.Orderly := by
  refine ⟨h.toSameStores.fits he.toFits, ?_⟩
  obtain hs | ⟨_, hs⟩ := h.state <;> rw [hs]
  · exact he.state
  · decide

/-- The handling of a take leaves the engine in no EXECUTING (R120). -/
theorem State.endTake_orderly {s : State} (h : s.engine.Fits) : s.endTake.engine.Orderly := by
  refine ⟨State.endTake_fits h, ?_⟩
  unfold State.endTake
  split
  · simp
  · assumption

section
variable {s : State} (h : s.engine.Orderly)
include h

theorem State.takeRequest_orderly (o : Option Op) : (s.takeRequest o (serveOf o)).engine.Orderly := by
  unfold State.takeRequest
  split
  · rename_i r rest _ hq
    split
    · refine State.endTake_orderly (State.handle_fits (s := s.takeHead r rest) ⟨?_, h.replies, h.requesters⟩ o o r)
      have hlen := h.requests
      rw [hq, List.length_cons] at hlen
      exact (Nat.le_succ _).trans hlen
    · exact h
  · exact h

/-- A request is admitted only while there are fewer than 4 (R119). -/
theorem State.offerRequest_orderly (f : Frame) (arrival : Port) : (s.offerRequest f arrival).engine.Orderly := by
  unfold State.offerRequest
  split
  · exact ⟨Engine.SameStores.fits (e := s.engine) ⟨rfl, rfl⟩ h.toFits, h.state⟩
  · split
    · exact ⟨Engine.SameStores.fits (e := s.engine) ⟨rfl, rfl⟩ h.toFits, h.state⟩
    · rename_i hroom
      refine ⟨⟨?_, h.replies, h.requesters⟩, h.state⟩
      rw [List.length_append]
      exact Nat.not_le.1 hroom

theorem State.deliverRequest_orderly (f : Frame) (arrival : Port) : (s.deliverRequest f arrival).engine.Orderly := by
  have ho := State.offerRequest_orderly h f arrival
  unfold State.deliverRequest State.takeNext
  split
  · split
    · exact ho
    · exact State.takeRequest_orderly ho _
  · exact ho

theorem State.visitNext_orderly : s.visitNext.engine.Orderly := by
  unfold State.visitNext
  split
  · rename_i r source i cleared takenAt _
    have hclear : (if s.hasSource source i then s.setEntry i none else s).engine = s.engine := s.visited_engine source i
    have hstores : ∀ x, Engine.Fits { (if s.hasSource source i then s.setEntry i none else s).engine with state := x } :=
      fun x => Engine.SameStores.fits ⟨by rw [hclear], by rw [hclear]⟩ h.toFits
    dsimp only
    split
    · exact ⟨hstores _, by simp⟩
    · refine State.endTake_orderly (State.answer_fits ?_ r _)
      exact hstores _
  · exact h

theorem State.route_orderly (p : Port) (f : Frame) (arrival : Ticks) : (s.route p f arrival).engine.Orderly := by
  have htransit := (s.inTransit_kept p f).orderly h
  have hmis : (s.misaddress p f).engine.Orderly := by rwa [s.misaddress_engine]
  unfold State.route
  split
  case h_1 =>
    split
    · exact hmis
    · exact (s.classify_kept p f arrival).orderly h
  case h_2 =>
    unfold State.routeBeat
    split
    · exact (eitherOrder_kept s (fun x => x.inTransit_kept p f) fun x => x.reportBeat_kept arrival).orderly h
    · exact htransit
  case h_3 =>
    unfold State.routeControl
    split
    · refine eitherOrder_preserves (P := fun t => t.engine.Orderly) ?_ ?_
      · exact (State.broadcastCopy_kept _ p f).orderly (State.deliverRequest_orderly (s := s.draw.2) h f p)
      · exact State.deliverRequest_orderly ((State.broadcastCopy_kept s.draw.2 p f).orderly h) f p
    · split
      · exact State.deliverRequest_orderly h f p
      · exact htransit
  case h_6 =>
    unfold State.routeAck
    split
    · exact (State.takeAck_kept (s.returnBlocks _) _ _).orderly h
    · exact htransit
  all_goals
    split
    · exact hmis
    · exact htransit

theorem State.endFrame_orderly (p : Port) (bytes : List Byte) : (s.endFrame p bytes).engine.Orderly := by
  have hidle : (s.setReceiver p .idle).engine.Orderly := by rwa [State.setReceiver_engine]
  unfold State.endFrame
  split
  · exact h
  · exact hidle
  · split
    · unfold State.endReception
      dsimp only
      split
      · rw [State.countPort_engine]; exact hidle
      · rw [State.countPort_engine]; exact hidle
      · refine State.route_orderly ?_ p _ _
        rwa [State.countPort_engine]
    · exact h

/-! ## Every event and every step -/

theorem State.Effect.orderly {u : State} (hu : s.Effect u) : u.engine.Orderly := by
  cases hu with
  | nothing => exact h
  | linkUp p => exact (s.raiseLink_kept p).orderly h
  | linkDown p => exact (s.dropLink_kept p).orderly h
  | frameStart p => rwa [State.startFrame_engine]
  | headerCompletion p bytes => rwa [State.completeHeader_engine]
  | blockBoundary p bytes => rwa [State.crossBoundary_engine]
  | surplusByte p bytes => rwa [State.takeSurplus_engine]
  | endOfFrame p bytes => exact State.endFrame_orderly h p bytes
  | completion p t => exact (State.completeTransmission_kept _ p).orderly h
  | scheduledStart t => exact (State.scheduledStart_kept _).orderly h
  | windowChange p t => exact (State.changeWindow_kept _ p).orderly h
  | leaseExpiry t => exact (State.expireLease_kept _).orderly h
  | retryExpiry t => exact (State.retryExpired_kept _).orderly h
  | purgeVisit => exact State.visitNext_orderly h
  | take o => exact State.takeRequest_orderly h o

end

theorem State.engineSound_iff (s : State) : s.EngineSound ↔ s.engine.Orderly ∧ s.engine.state ≠ .resetDue := by
  constructor
  · rintro ⟨hq, hm, hn, hx, hd⟩
    exact ⟨⟨⟨hq, hm, hn⟩, hx⟩, hd⟩
  · rintro ⟨⟨⟨hq, hm, hn⟩, hx⟩, hd⟩
    exact ⟨hq, hm, hn, hx, hd⟩

/-- A reset engine is IDLE, without requests and without stored replies (R133, R134). -/
theorem State.engineSound_of_default {s : State} (h : s.engine = Engine.default) : s.EngineSound := by
  unfold State.EngineSound
  rw [h]
  decide

/-- A unit reset that is due is performed, so no event ends with one due (R132). -/
theorem State.settle_engineSound {s : State} (h : s.engine.Orderly) : s.settle.EngineSound := by
  by_cases hd : s.engine.state = .resetDue
  · rw [s.settle_due hd]
    exact State.engineSound_of_default rfl
  · rw [s.settle_eq hd]
    exact s.engineSound_iff.2 ⟨h, hd⟩

theorem State.EngineSound.exec {s t : State} {i : Instr} (h : s.EngineSound) (ht : exec i s = .next t) :
    t.EngineSound := by
  obtain ⟨station, held, rfl⟩ | rfl | ⟨u, hu, rfl⟩ := exec_spec ht
  · exact State.engineSound_of_default rfl
  · exact h
  · exact State.settle_engineSound (hu.orderly (s.engineSound_iff.1 h).1)

/-- Settles O8: a take, an admission and a purge visit keep the two stores within bounds and end outside EXECUTING, every
other effect leaves them alone, and settling performs a unit reset that is due. -/
theorem everyStepKeepsEngineSound : Obligations.EveryStepKeepsEngineSound := by
  intro s t h ht
  obtain ⟨i, rest, _, e⟩ | ⟨_, e⟩ := step_spec s <;> rw [e] at ht
  · exact State.EngineSound.exec (s := { s with pending := rest }) h ht
  · obtain e | e | e | ⟨i, e | e⟩ := idle_spec s <;> rw [e] at ht
    · cases ht; exact h
    · cases ht; exact h
    · cases ht; exact h
    · exact h.exec ht
    · exact State.EngineSound.exec (s := s.draw.2) h ht

end Sys2Proof.Machine
end

section
/-! SUPPORT. The unit reset's values (O16), the admission of requests (O25), and the take up to step 6: refusals and repeats
(O47). -/

namespace Sys2Proof.Machine

/-! ## The unit reset (R133) -/

/-- The unit reset resets each port (R133). -/
theorem State.unitReset_port (s : State) (p : Port) : s.unitReset.port p = (s.port p).unitReset s.localTime := by
  cases p <;> rfl

/-- Settles O16: the table is empty, each port is reset, and the other values stand in the definition. -/
theorem unitResetValues : Obligations.UnitResetValues := by
  intro s
  refine ⟨fun i => by simp [State.entry, State.unitReset], fun p => ?_, rfl, rfl, rfl, rfl, rfl, rfl, rfl, rfl, rfl⟩
  rw [State.unitReset_port]
  refine ⟨rfl, rfl, rfl, rfl, rfl, rfl, rfl, fun q => ?_⟩
  rw [State.queue, State.unitReset_port]
  simp [PortState.unitReset, Queue.freshAll, Queue.fresh, Queue.defaultLimit]

/-! ## Admission (R118 to R120) -/

/-- A CONTROL frame for the device's own address goes to the request queue alone (R16). -/
theorem State.route_request (s : State) (p : Port) (f : Frame) (arrival : Ticks) (hk : f.kind = .control)
    (hd : f.dest = s.station) (hb : s.station ≠ 0xFFFF) : s.route p f arrival = s.deliverRequest f p := by
  simp only [State.route, hk]
  rw [State.routeControl, if_neg (hd ▸ hb), if_pos hd]

/-- Settles O25: the event is the delivery to the request queue; an IDLE engine's take in it is the take by command. -/
theorem requestsAreAdmitted : Obligations.RequestsAreAdmitted := by
  intro s p bytes f h hk hd hb
  have hstation : (s.received p).station = s.station := s.received_station p
  have hqueue : (s.received p).engine.queue = s.engine.queue := by rw [s.received_engine]
  have hroute : (s.received p).route p f s.localTime = (s.received p).deliverRequest f p :=
    State.route_request _ p f _ hk (hd.trans hstation.symm) (hstation ▸ hb)
  have hrequest : ∀ {n c : Byte} {ops : List Byte}, f.payload = n :: c :: ops →
      requestOf f p = ⟨⟨f.src, p⟩, false, f.seq, n, c, ops⟩ := by
    intro n c ops hp
    have hne : (f.dest == 0xFFFF) = false := by rw [hd]; simpa using hb
    rw [requestOf_cons f p hp, hne]
  refine ⟨fun hp => h.routed (hroute.trans ?_) ?_, fun hp hq => h.routed (hroute.trans ?_) ?_,
    fun n c ops hp hq hi => h.routed (hroute.trans ?_) rfl, fun n c ops r rest hp hq hi hr => ?_⟩
  · rw [State.deliverRequest_malformed _ f p hp]
    cases p <;> rfl
  · cases p <;> rfl
  · rw [State.deliverRequest_dropped _ f p hp (by rwa [hqueue])]
    cases p <;> rfl
  · cases p <;> rfl
  · rw [State.deliverRequest_waits _ f p (by simp [hp]) (by rwa [hqueue]) (by rwa [s.received_engine]), State.queueing,
      hrequest hp, s.received_engine]
  · have hqueued : (s.received p).queueing f p =
        { s.received p with engine := { s.engine with queue := r :: rest } } := by
      rw [State.queueing, hrequest hp, s.received_engine, hr]
    rw [h.event, hroute, State.deliverRequest_admitted _ f p (by simp [hp]) (by rwa [hqueue]), hqueued]
    refine (exec_takeInstr_head _ ?_ rfl).symm
    cases p <;> exact h.plain.running

/-! ## The device at step 6 (R120, R138) -/

/-- A renewal changes the expiry of the holder's session alone (R138). -/
theorem State.renewLease_session (s : State) (q : Requester) :
    (s.renewLease q).session =
      s.session.map fun x => if x.holder = q then { x with expiry := s.localTime + x.leaseMs * 100000 } else x := by
  unfold State.renewLease
  cases hs : s.session with
  | none => simp [hs]
  | some x => by_cases hx : x.holder = q <;> simp [hs, hx]

section
variable (s : State) (r : Request) (rest : List Request)

@[simp] theorem State.atStep6_station : (s.atStep6 r rest).station = s.station := State.renewLease_station _ _
@[simp] theorem State.atStep6_pool : (s.atStep6 r rest).pool = s.pool + r.blocks := State.renewLease_pool _ _
@[simp] theorem State.atStep6_notice : (s.atStep6 r rest).notice = s.notice := State.renewLease_notice _ _

/-- A renewal leaves the holder. -/
theorem State.atStep6_holder : (s.atStep6 r rest).session.map Session.holder = s.session.map Session.holder :=
  State.renewLease_holder _ _

/-- The take of a request, up to step 6: its blocks are back, it is counted, and a holder's lease is renewed. -/
theorem State.atStep6_eq :
    s.atStep6 r rest =
      { s with
        pool := s.pool + (18 + r.operands.length + 255) / 256
        engine :=
          { s.engine with
            queue := rest
            state := .executing
            counters := { s.engine.counters with requestsTaken := countUp s.engine.counters.requestsTaken } }
        session := s.session.map fun x =>
          if x.holder = r.requester then { x with expiry := s.localTime + x.leaseMs * 100000 } else x } := by
  have hblocks : r.blocks = (18 + r.operands.length + 255) / 256 := by
    simp only [Request.blocks, blocksFor, Config.blockBytes]
    omega
  rw [State.atStep6, State.renewLease_eq, State.renewLease_session, ← hblocks]
  rfl

end

/-! ## Operation codes, operand lengths and sessions (R172, R123) -/

/-- A code that no request has is unknown (R121). -/
theorem Op.ofCode_eq_none {b : Byte} (h : b ∉ Op.all.map Op.code) : Op.ofCode b = none :=
  List.find?_eq_none.2 fun o ho he => h (List.mem_map.2 ⟨o, ho, by simpa using he⟩)

/-! ## Steps 1 to 5 of the handling series (R121) -/

theorem MemoryEntry.answers_iff (m : MemoryEntry) (r : Request) :
    m.answers r = true ↔ m.requester = r.requester ∧ m.number = r.number ∧ m.op = r.op := by
  simp [MemoryEntry.answers, and_assoc]

section
variable {s : State} {o : Option Op} {r : Request}

theorem State.screen_broadcast (hb : r.isBroadcast = true) (ho : o ≠ some .identify) :
    s.screen o r = .refused ⟨.broadcastRefused, []⟩ := by
  simp [State.screen, hb, ho]

/-- Step 1 lets through what is no broadcast, and an IDENTIFY. -/
theorem unicast_not_refused (hb : r.isBroadcast = false ∨ o = some .identify) :
    ¬ (r.isBroadcast && o != some .identify) = true := by
  rcases hb with hb | rfl
  · simp [hb]
  · simp

/-- The first stored entry that answers the request is answered again (R121 step 2). -/
theorem State.screen_repeated (hb : r.isBroadcast = false ∨ o = some .identify) {before after : List MemoryEntry}
    {m : MemoryEntry} (hm : s.engine.memory = before ++ m :: after)
    (hbefore : ∀ x ∈ before, ¬ (x.requester = r.requester ∧ x.number = r.number ∧ x.op = r.op))
    (hans : m.requester = r.requester ∧ m.number = r.number ∧ m.op = r.op) : s.screen o r = .repeated m := by
  have hfind : s.engine.memory.find? (fun m => m.answers r) = some m := by
    refine List.find?_eq_some_iff_append.2 ⟨(m.answers_iff r).2 hans, before, after, hm, fun x hx => ?_⟩
    simpa [← MemoryEntry.answers_iff] using hbefore x hx
  unfold State.screen
  rw [if_neg (unicast_not_refused hb)]
  simp only [hfind]

/-- No stored entry answers a new request. -/
theorem find_answers_eq_none {l : List MemoryEntry}
    (hnew : ∀ x ∈ l, ¬ (x.requester = r.requester ∧ x.number = r.number ∧ x.op = r.op)) :
    l.find? (fun m => m.answers r) = none :=
  List.find?_eq_none.2 fun x hx => by simpa only [MemoryEntry.answers_iff] using hnew x hx

variable (hb : r.isBroadcast = false ∨ o = some .identify)
  (hnew : ∀ x ∈ s.engine.memory, ¬ (x.requester = r.requester ∧ x.number = r.number ∧ x.op = r.op))
include hb hnew

theorem State.screen_unknown (ho : o = none) : s.screen o r = .refused ⟨.unknownRequest, []⟩ := by
  unfold State.screen
  rw [if_neg (unicast_not_refused hb)]
  simp only [find_answers_eq_none hnew, ho]

theorem State.screen_badLength {q : Op} (ho : o = some q) (hl : q.lengthAgrees r.operands = false) :
    s.screen o r = .refused ⟨.badLength, []⟩ := by
  unfold State.screen
  rw [if_neg (unicast_not_refused hb)]
  simp only [find_answers_eq_none hnew, ho, hl, Bool.not_false, if_true]

theorem State.screen_noHolder {q : Op} (ho : o = some q) (hl : q.lengthAgrees r.operands = true)
    (hn : q.needsSession r.operands = true) (hh : ∀ x, s.session = some x → x.holder ≠ r.requester) :
    s.screen o r = .refused s.sessionRefusal := by
  have hholder : s.isHolder r.requester = false := by
    unfold State.isHolder
    split
    · rename_i x hx
      simpa using hh x hx
    · rfl
  unfold State.screen
  rw [if_neg (unicast_not_refused hb)]
  simp [find_answers_eq_none hnew, ho, hl, hn, hholder]

end

/-! ## Takes that end before step 6 (R121, R122) -/

section
variable {s : State} {r : Request} {rest : List Request} (hrun : s.resetHeld = false) (hidle : s.engine.state = .idle)
  (hq : s.engine.queue = r :: rest)
include hrun hidle hq

/-- The take by command is the handling of the head request and its end. -/
theorem exec_take_handles :
    exec (takeInstr (Op.ofCode r.op)) s =
      .next (((s.takeHead r rest).handle (Op.ofCode r.op) (serveOf (Op.ofCode r.op)) r).endTake).settle := by
  rw [exec_takeInstr, runEvent_running _ _ hrun]
  simp only [State.takeRequest, hidle, hq, if_true]

theorem exec_take_refused {a : Answer} (h : (s.takeHead r rest).screen (Op.ofCode r.op) r = .refused a) :
    ∃ t, exec (takeInstr (Op.ofCode r.op)) s = .next t ∧ (s.takeHead r rest).Answered r a.status a.results t := by
  have ha := (s.takeHead r rest).answer_answered r a (s.takeHead_state r rest)
  refine ⟨_, ?_, ha⟩
  rw [exec_take_handles hrun hidle hq, State.handle]
  simp only [h]
  rw [State.settle_eq _ (ha.idle.trans_ne (by decide))]

/-- A repeat renews a holder's lease, is counted, and is answered with the stored payload; nothing is stored. -/
theorem exec_take_repeated {m : MemoryEntry} (h : (s.takeHead r rest).screen (Op.ofCode r.op) r = .repeated m) :
    ∃ t, exec (takeInstr (Op.ofCode r.op)) s = .next t
      ∧ ((s.atStep6 r rest).countManagement fun c => { c with repeats := countUp c.repeats }).Replied r m.payload t := by
  have hr := ((s.atStep6 r rest).countManagement fun c => { c with repeats := countUp c.repeats }).sendReply_replied r
    m.payload (s.atStep6_state r rest)
  have hdue := hr.idle.trans_ne (show EngineState.idle ≠ .resetDue by decide)
  refine ⟨_, ?_, hr⟩
  rw [exec_take_handles hrun hidle hq, State.handle]
  simp only [h]
  exact congrArg _ (State.settle_eq _ hdue)

end

/-- Settles O47: the codes and lengths request by request, then each way in which steps 1 to 5 send a request. -/
theorem refusalsAndRepeats : Obligations.RefusalsAndRepeats := by
  refine ⟨⟨rfl, rfl, rfl, rfl, rfl, rfl, rfl, rfl, rfl, rfl, rfl, rfl, rfl, rfl, rfl, rfl, rfl, rfl, rfl, rfl, rfl, rfl,
    rfl, rfl, rfl, rfl, fun b hb => Op.ofCode_eq_none hb⟩, fun o ops => ⟨?_, ?_⟩, fun s r rest hrun hidle hq => ?_⟩
  · cases o <;> simp [Op.lengthAgrees, streamWriteLength, marksOf]
  · cases o <;> simp [Op.needsSession, flagOf]
  have hrefused := fun a => exec_take_refused hrun hidle hq (a := a)
  refine ⟨s.atStep6_eq r rest, fun hb ho => hrefused _ (State.screen_broadcast hb ho), fun hb => ⟨?_, fun hnew => ?_⟩⟩
  · intro before after m hm hbefore h1 h2 h3
    exact exec_take_repeated hrun hidle hq (State.screen_repeated hb hm hbefore ⟨h1, h2, h3⟩)
  refine ⟨fun hnone => ?_, fun o ho => ?_⟩
  · have h := hrefused _ (State.screen_unknown (s := s.takeHead r rest) hb hnew hnone)
    rwa [hnone] at h
  · rw [← ho]
    have hnoHolder := State.screen_noHolder (s := s.takeHead r rest) hb hnew ho
    refine ⟨fun hl => hrefused _ (State.screen_badLength (s := s.takeHead r rest) hb hnew ho hl),
      fun hl hn hs => ?_, fun hl hn x hx hne => ?_⟩
    · have h := hnoHolder hl hn (by simp [hs])
      rw [State.sessionRefusal, State.takeHead_session, hs] at h
      exact hrefused _ h
    · have h := hnoHolder hl hn (by simpa [hx] using hne)
      rw [State.sessionRefusal, State.takeHead_session, hx] at h
      exact hrefused _ h

end Sys2Proof.Machine
end

section
/-! SUPPORT. The requests that read the device: IDENTIFY, TIME_READ, QUEUE_READ, PLAN_READ and NOTICE_READ (O48). -/

namespace Sys2Proof.Machine

/-! ## Results in the layouts of R173 -/

/-- The holder's station and port, or 0000h and FFh (R131). -/
theorem stationBytes_holder (x : Option Session) :
    stationBytes (x.map Session.holder) =
      match x with
      | some x => beBytes 2 x.holder.station.toNat ++ [portByte x.holder.port]
      | none => [0x00, 0x00, 0xFF] := by
  cases x <;> rfl

theorem portOrNone_eq (x : Option Port) :
    portOrNone x =
      match x with
      | some p => portByte p
      | none => 0xFF := by
  cases x <;> rfl

/-- The last error as a presence byte and a signed value (R94). -/
theorem errorBytes_eq (x : Option Int) :
    errorBytes x =
      match x with
      | some v => 0x01 :: beBytes 4 (BitVec.ofInt 32 v).toNat
      | none => [0x00, 0x00, 0x00, 0x00, 0x00] := by
  cases x <;> rfl

/-- The enqueue cycle index of the head (R78). -/
theorem optionBytes_head (fs : List QueuedFrame) :
    optionBytes 4 (fs.head?.map fun f => f.enqueueIndex.toNat) =
      match fs with
      | f :: _ => 0x01 :: beBytes 4 f.enqueueIndex.toNat
      | [] => [0x00, 0x00, 0x00, 0x00, 0x00] := by
  cases fs <;> rfl

/-- The last swap index (R103). -/
theorem optionBytes_index (x : Option CycleIndex) :
    optionBytes 4 (x.map BitVec.toNat) =
      match x with
      | some i => 0x01 :: beBytes 4 i.toNat
      | none => [0x00, 0x00, 0x00, 0x00, 0x00] := by
  cases x <;> rfl

/-- The state byte and the attempts of a list entry (R161). -/
theorem NoticeEntry.statusBytes (x : NoticeEntry) :
    [flagByte x.isInFlight, BitVec.ofNat 8 x.attempts] =
      match x.status with
      | .waiting => [0x00, 0x00]
      | .inFlight n _ => [0x01, BitVec.ofNat 8 n] := by
  unfold NoticeEntry.isInFlight NoticeEntry.isWaiting NoticeEntry.attempts
  cases x.status <;> rfl

/-! ## Step 6 of the reads -/

section
variable {s : State} {r : Request} {rest : List Request}

theorem serveQueueRead_reads {p : Port} {q : QueueNo} (hp : byteAt r.operands 0 = portByte p)
    (hq : (byteAt r.operands 1).toNat = q.val) :
    serveQueueRead r (s.atStep6 r rest) =
      (s.atStep6 r rest, some ⟨.ok, queueResults (s.queue p q) (s.pool + r.blocks)⟩) := by
  simp only [serveQueueRead, portOf_eq_some.2 hp, queueOf_eq_some.2 hq, State.atStep6_queue, State.atStep6_pool]

theorem serveQueueRead_refused (h : portOf (byteAt r.operands 0) = none ∨ queueOf (byteAt r.operands 1) = none) :
    serveQueueRead r s = (s, some ⟨.badValue, []⟩) := by
  unfold serveQueueRead
  split
  · rename_i hp hq
    simp [hp, hq] at h
  · rfl

/-- A selector byte names the active bank or the staged one (section 11.2). -/
theorem PlanBanks.bankOf_eq_some {b : PlanBanks} {x : Byte} {k : Bank}
    (h : x = 0x00 ∧ k = b.active ∨ x = 0x01 ∧ k = b.active.other) : b.bankOf x = some k := by
  obtain ⟨rfl, rfl⟩ | ⟨rfl, rfl⟩ := h <;> rfl

theorem PlanBanks.bankOf_eq_none {b : PlanBanks} {x : Byte} (h : 1 < x.toNat) : b.bankOf x = none := by
  have h0 : x ≠ 0 := by rintro rfl; simp at h
  have h1 : x ≠ 1 := by rintro rfl; simp at h
  rw [PlanBanks.bankOf, if_neg h0, if_neg h1]

theorem servePlanRead_reads {p : Port} {k : Bank} (hp : byteAt r.operands 0 = portByte p)
    (hk : s.plans.bankOf (byteAt r.operands 1) = some k) :
    servePlanRead r (s.atStep6 r rest) = (s.atStep6 r rest, some ⟨.ok, s.plans.readResults p k⟩) := by
  simp only [servePlanRead, portOf_eq_some.2 hp, State.atStep6_plans, hk]

theorem servePlanRead_refused (h : portOf (byteAt r.operands 0) = none ∨ s.plans.bankOf (byteAt r.operands 1) = none) :
    servePlanRead r s = (s, some ⟨.badValue, []⟩) := by
  unfold servePlanRead
  split
  · rename_i hp hk
    simp [hp, hk] at h
  · rfl

end

/-- Settles O48: step 6 of each read changes nothing, and its results are the values at the take in their layouts. -/
theorem readsReportTheDevice : Obligations.ReadsReportTheDevice := by
  intro s r rest
  have hx := s.atStep6_state r rest
  refine ⟨fun h => ?_, fun h => ?_, fun h => ⟨fun p q hp hq => ?_, fun hbad => ?_⟩,
    fun h => ⟨fun p k hp hk => ?_, fun hbad => ?_⟩, fun h => ?_⟩
  · refine h.event_results rfl hx ?_
    simp only [State.identity, State.atStep6_holder, stationBytes_holder, State.atStep6_station,
      State.atStep6_localTime, List.append_assoc] <;> rfl
  · refine h.event_results rfl hx ?_
    simp only [State.timeResults, portOrNone_eq, errorBytes_eq, State.atStep6_localTime, State.atStep6_timer,
      State.atStep6_beat] <;> rfl
  · refine h.event_results (serveQueueRead_reads hp hq) hx ?_
    rw [queueResults, optionBytes_head] <;> rfl
  · refine h.event (serveQueueRead_refused ?_) hx
    rwa [portOf_eq_none, queueOf_eq_none]
  · refine h.event_results (servePlanRead_reads hp (PlanBanks.bankOf_eq_some hk)) hx ?_
    rw [PlanBanks.readResults, optionBytes_index] <;> rfl
  · refine h.event (servePlanRead_refused (hbad.imp portOf_eq_none.2 fun hb => ?_)) hx
    exact PlanBanks.bankOf_eq_none hb
  · refine h.event_results rfl hx ?_
    rw [State.atStep6_notice]
    refine congrArg (fun bytes => _ ++ List.flatMap bytes _) (funext fun x => ?_)
    exact congrArg (fun bytes => _ ++ bytes ++ optionBytes 2 (x.number.map BitVec.toNat)) x.statusBytes

end Sys2Proof.Machine
end

section
/-! SUPPORT. What a unit reset does not see (R133), and that handing on an event does not look at the *dropped full* count of
a queue (R69, R150). -/

namespace Sys2Proof.Machine

/-! ## What a unit reset sees -/

/-- Two states that a unit reset takes to one: they agree in what it keeps, and in the sum of all blocks, from which it
refills the pool. -/
structure State.ResetAlike (s t : State) : Prop where
  pending : t.pending = s.pending
  freeCount : t.freeCount = s.freeCount
  resetHeld : t.resetHeld = s.resetHeld
  station : t.station = s.station
  localTime : t.localTime = s.localTime
  index : t.timer.index = s.timer.index
  link : ∀ p, (t.port p).link = (s.port p).link
  pin : ∀ p, (t.port p).linkPinHigh = (s.port p).linkPinHigh
  receiver : ∀ p, (t.port p).receiver = (s.port p).receiver
  transmitter : ∀ p, (t.port p).transmitter = (s.port p).transmitter
  total : t.totalBlocks = s.totalBlocks

theorem State.ResetAlike.unitReset {s t : State} (h : s.ResetAlike t) : t.unitReset = s.unitReset := by
  have hport : ∀ p, (t.port p).unitReset t.localTime = (s.port p).unitReset s.localTime := by
    intro p
    simp only [PortState.unitReset, h.link, h.pin, h.receiver, h.transmitter, h.localTime]
  have hU : t.portU.receiver = s.portU.receiver ∧ t.portU.transmitter = s.portU.transmitter :=
    ⟨h.receiver .u, h.transmitter .u⟩
  have hD : t.portD.receiver = s.portD.receiver ∧ t.portD.transmitter = s.portD.transmitter :=
    ⟨h.receiver .d, h.transmitter .d⟩
  have hpool : t.pool + t.portU.queueBlocks + t.portD.queueBlocks + requestBlocks t.engine.queue =
      s.pool + s.portU.queueBlocks + s.portD.queueBlocks + requestBlocks s.engine.queue := by
    have ht := h.total
    simp only [State.totalBlocks, PortState.heldBlocks, hU.1, hU.2, hD.1, hD.2] at ht
    omega
  have hu : t.portU.unitReset t.localTime = s.portU.unitReset s.localTime := hport .u
  have hd : t.portD.unitReset t.localTime = s.portD.unitReset s.localTime := hport .d
  unfold State.unitReset
  rw [hpool, hu, hd, h.pending, h.freeCount, h.resetHeld, h.station, h.localTime, h.index]

/-- What only sends leaves what a unit reset sees, the transmitters, the draws and the sum of blocks apart. -/
theorem State.ResetAlike.of_sending {a s t : State} (hs : a.OnlySending s) (ht : a.OnlySending t)
    (hfree : t.freeCount = s.freeCount) (htx : ∀ p, (t.port p).transmitter = (s.port p).transmitter)
    (htotal : t.totalBlocks = s.totalBlocks) : s.ResetAlike t where
  pending := ht.pending.trans hs.pending.symm
  freeCount := hfree
  resetHeld := ht.resetHeld.trans hs.resetHeld.symm
  station := ht.station.trans hs.station.symm
  localTime := ht.localTime.trans hs.localTime.symm
  index := by rw [ht.timer, hs.timer]
  link p := (ht.port p).link.trans (hs.port p).link.symm
  pin p := (ht.port p).pin.trans (hs.port p).pin.symm
  receiver p := (ht.port p).receiver.trans (hs.port p).receiver.symm
  transmitter := htx
  total := htotal

/-- A unit reset does not see the engine, but for the blocks of its requests. -/
theorem State.withEngine_unitReset (s : State) (e : Engine) (h : e.queue = s.engine.queue) :
    (s.withEngine e).unitReset = s.unitReset := by
  simp only [State.unitReset, State.withEngine, h]

/-! ## Counting *dropped full* -/

/-- A queue that has refused one more frame as *dropped full* (R69). -/
def Queue.overflowed (Q : Queue) : Queue :=
  { Q with counters := { Q.counters with droppedFull := countUp Q.counters.droppedFull } }

/-- The device with one more frame counted as *dropped full* at a queue. -/
def State.overflowed (s : State) (p : Port) (q : QueueNo) : State := s.modQueue p q Queue.overflowed

/-- Changes of queues that commute at a queue commute. -/
theorem State.modQueue_comm (s : State) (p p' : Port) (q q' : QueueNo) {f g : Queue → Queue}
    (h : ∀ Q, f (g Q) = g (f Q)) : (s.modQueue p q g).modQueue p' q' f = (s.modQueue p' q' f).modQueue p q g := by
  have hqueues : ∀ v : Vector Queue 4, (v.set q (g v[q])).set q' (f (v.set q (g v[q]))[q']) =
      (v.set q' (f v[q'])).set q (g (v.set q' (f v[q']))[q]) := by
    intro v
    by_cases hq : q = q'
    · subst hq
      simp [h]
    · have hne : q.val ≠ q'.val := fun e => hq (Fin.ext e)
      simp only [Fin.getElem_fin, Vector.getElem_set_ne _ _ hne, Vector.getElem_set_ne _ _ hne.symm]
      exact Vector.set_comm _ _ hne
  cases p <;> cases p' <;> simp only [State.modQueue, State.modPort, hqueues]

section
variable (s : State) (p : Port) (q : QueueNo)

theorem State.overflowed_onlySending : s.OnlySending (s.overflowed p q) :=
  s.countQueue_onlySending p q fun c => { c with droppedFull := countUp c.droppedFull }

theorem State.overflowed_frames (p' : Port) (k : QueueNo) :
    ((s.overflowed p q).queue p' k).frames = (s.queue p' k).frames :=
  s.countQueue_frames p p' q k fun c => { c with droppedFull := countUp c.droppedFull }

theorem State.overflowed_transmitter (p' : Port) :
    ((s.overflowed p q).port p').transmitter = (s.port p').transmitter := s.modQueue_transmitter p p' q _

theorem State.overflowed_engine : (s.overflowed p q).engine = s.engine := s.modQueue_engine p q _

theorem State.overflowed_judgeOffer (p' : Port) (k : QueueNo) (f : Frame) :
    (s.overflowed p q).judgeOffer p' k f = s.judgeOffer p' k f := by
  have hlimit : ((s.overflowed p q).queue p' k).limit = (s.queue p' k).limit :=
    ((s.overflowed_onlySending p q).port p').limit k
  simp only [State.judgeOffer, Queue.blocks, ((s.overflowed_onlySending p q).port p').link, s.overflowed_frames p q,
    hlimit] <;> rfl

theorem State.overflowed_headFits (p' : Port) : (s.overflowed p q).headFits p' = s.headFits p' := by
  have hsend := s.overflowed_onlySending p q
  funext k
  simp only [State.headFits, State.queueOpen, State.timeRemaining, (hsend.port p').gate, hsend.plans, hsend.localTime,
    s.overflowed_frames p q] <;> rfl

theorem State.overflowed_setTransmitter (p' : Port) (x : Transmitter) :
    (s.overflowed p q).setTransmitter p' x = (s.setTransmitter p' x).overflowed p q := by
  cases p <;> cases p' <;> rfl

theorem State.overflowed_returnBlocks (n : Nat) :
    (s.overflowed p q).returnBlocks n = (s.returnBlocks n).overflowed p q := by
  cases p <;> rfl

theorem State.overflowed_withEngine (e : Engine) :
    (s.withEngine e).overflowed p q = (s.overflowed p q).withEngine e := s.withEngine_modQueue e p q _

theorem State.overflowed_modQueue (p' : Port) (k : QueueNo) (f : Queue → Queue)
    (h : ∀ Q : Queue, f Q.overflowed = (f Q).overflowed) :
    (s.overflowed p q).modQueue p' k f = (s.modQueue p' k f).overflowed p q := s.modQueue_comm p p' q k h

theorem State.overflowed_notice : (s.overflowed p q).notice = s.notice := s.modQueue_notice p q _

theorem State.overflowed_reportDeparture (o : Origin) :
    (s.overflowed p q).reportDeparture o = (s.reportDeparture o).overflowed p q := by
  unfold State.reportDeparture
  rw [s.overflowed_engine]
  split
  · exact (s.overflowed_withEngine p q _).symm
  · rfl

/-! ## Selections and offers do not look at the count -/

theorem State.overflowed_sendHead (p' : Port) (k : QueueNo) :
    (s.overflowed p q).sendHead p' k = (s.sendHead p' k).overflowed p q := by
  unfold State.sendHead
  rw [s.overflowed_frames p q p' k, (s.overflowed_onlySending p q).localTime]
  split
  · rfl
  · rename_i g behind _
    rw [s.overflowed_modQueue p q p' k (fun Q => { Q with frames := behind }) fun _ => rfl,
      State.overflowed_setTransmitter, State.overflowed_reportDeparture]

theorem State.overflowed_trySelect (p' : Port) :
    (s.overflowed p q).trySelect p' = (s.trySelect p').overflowed p q := by
  unfold State.trySelect State.canSend State.selected
  rw [s.overflowed_headFits p q, ((s.overflowed_onlySending p q).port p').link, s.overflowed_transmitter p q]
  split
  · split
    · exact s.overflowed_sendHead p q p' _
    · rfl
  · rfl

theorem State.overflowed_enqueue (p' : Port) (k : QueueNo) (f : Frame) (o : Origin) :
    (s.overflowed p q).enqueue p' k f o = (s.enqueue p' k f o).overflowed p q := by
  have hsend := s.overflowed_onlySending p q
  rw [State.enqueue_eq, State.enqueue_eq, (hsend.port p').gate, hsend.plans, hsend.timer,
    s.overflowed_modQueue p q p' k (·.enqueued f s.timer.index o) fun _ => rfl]
  split
  · exact State.overflowed_trySelect _ p q p'
  · rfl

theorem State.overflowed_offer (p' : Port) (k : QueueNo) (f : Frame) (o : Origin) :
    (s.overflowed p q).offer p' k f o = (s.offer p' k f o).overflowed p q := by
  unfold State.offer
  rw [s.overflowed_judgeOffer p q, s.overflowed_returnBlocks p q]
  split
  · exact State.modQueue_comm _ p p' q k fun _ => rfl
  · rw [← State.overflowed_reportDeparture]
    exact congrArg (State.reportDeparture · o) (State.modQueue_comm _ p p' q k fun _ => rfl)
  · exact s.overflowed_enqueue p q p' k f o

/-! ## Notices do not look at the count -/

theorem State.overflowed_listEvent (e : Event) :
    (s.overflowed p q).listEvent e = (s.listEvent e).overflowed p q := by
  cases p <;> rfl

theorem State.overflowed_offerNotice (p' : Port) (f : Frame) :
    (s.overflowed p q).offerNotice p' f = (s.offerNotice p' f).overflowed p q := by
  unfold State.offerNotice
  rw [s.overflowed_judgeOffer p q, s.overflowed_offer p q]
  split
  · exact State.overflowed_listEvent _ p q _
  · rfl

theorem State.overflowed_takeBlocks (n : Nat) :
    (s.overflowed p q).takeBlocks n = (s.takeBlocks n).map (·.overflowed p q) := by
  have hpool : (s.overflowed p q).pool = s.pool := s.modQueue_pool p q _
  unfold State.takeBlocks
  rw [hpool]
  split
  · cases p <;> rfl
  · rfl

theorem State.overflowed_firstSend (dest : Requester) (x : NoticeEntry) :
    (s.overflowed p q).firstSend dest x = (s.firstSend dest x).overflowed p q := by
  unfold State.firstSend
  rw [s.overflowed_takeBlocks p q]
  cases s.takeBlocks noticeBlocks with
  | none => cases p <;> rfl
  | some t =>
    refine Eq.trans ?_ (State.overflowed_offerNotice _ p q _ _)
    cases p <;> rfl

theorem State.overflowed_trySend : (s.overflowed p q).trySend = s.trySend.overflowed p q := by
  unfold State.trySend
  rw [s.overflowed_notice p q]
  split
  · rfl
  · split
    · rw [((s.overflowed_onlySending p q).port _).link]
      split
      · exact s.overflowed_firstSend p q _ _
      · rfl
    · rfl

/-- Handing an event to the Notice Unit does not look at what a queue has refused. -/
theorem State.overflowed_raise (e : Event) : (s.overflowed p q).raise e = (s.raise e).overflowed p q := by
  rw [State.raise, s.overflowed_listEvent p q, State.overflowed_trySend]
  rfl

/-- A unit reset clears the count. -/
theorem State.overflowed_unitReset : (s.overflowed p q).unitReset = s.unitReset :=
  have hsend := s.overflowed_onlySending p q
  State.ResetAlike.unitReset (.of_sending (.refl s) hsend (s.modQueue_freeCount p q _) (s.overflowed_transmitter p q)
    (s.totalBlocks_countQueue p q fun c => { c with droppedFull := countUp c.droppedFull }))

end

end Sys2Proof.Machine
end

section
/-! SUPPORT. The take of UNIT_RESET (R132): the reply that the engine awaits is not built, is refused by Q3, leaves at once,
or waits (O51). -/

namespace Sys2Proof.Machine

/-! ## The reply that the engine awaits (R125, R132) -/

/-- The REPLY of UNIT_RESET, a payload of 3 bytes, takes one block. -/
theorem State.replyFrame_ok_blocks (s : State) (r : Request) (a b c : Byte) : (s.replyFrame r [a, b, c]).blocks = 1 := by
  simp [State.replyFrame, builtFrame, Frame.blocks, Frame.size]
  decide

theorem State.canReply_iff {s : State} {r : Request} {payload : List Byte} :
    s.canReply r payload = true ↔
      (s.port r.requester.port).link = .up ∧ (s.replyFrame r payload).blocks ≤ s.pool := by
  simp [State.canReply]

/-- Whether a reply can be built does not depend on the engine. -/
theorem State.withEngine_canReply (s : State) (e : Engine) (r : Request) (payload : List Byte) :
    (s.withEngine e).canReply r payload = s.canReply r payload := by
  simp only [State.canReply, State.withEngine_port]
  rfl

/-- In RESETTING a reply that is not built makes the unit reset due (R125, R132). -/
theorem State.sendReply_awaited_dropped {s : State} {r : Request} {payload : List Byte}
    (h : s.engine.state = .resetting) (hc : s.canReply r payload = false) :
    s.sendReply r payload =
      s.withEngine { s.engine with state := .resetDue, counters := s.engine.counters.replied false } := by
  have hdrop : s.dropReply =
      s.withEngine { s.engine with state := .resetDue, counters := s.engine.counters.replied false } := by
    rw [State.dropReply, State.countManagement_engine, if_pos h]
    rfl
  have hbuild : (s.port r.requester.port).link = .up → ¬ (s.replyFrame r payload).blocks ≤ s.pool :=
    fun hl hb => by rw [State.canReply_iff.2 ⟨hl, hb⟩] at hc; cases hc
  unfold State.sendReply State.takeBlocks
  dsimp only
  split
  · exact hdrop
  · rename_i hl
    rw [if_neg (hbuild (by cases e : (s.port r.requester.port).link <;> simp_all))]
    exact hdrop

/-- In RESETTING a reply that is built takes its blocks, is counted, and is offered to Q3 as the awaited one. -/
theorem State.sendReply_awaited_built {s : State} {r : Request} {payload : List Byte}
    (h : s.engine.state = .resetting) (hc : s.canReply r payload = true) :
    s.sendReply r payload =
      (({ s with pool := s.pool - (s.replyFrame r payload).blocks } : State).countManagement fun c =>
        c.replied true).offerFrame r.requester.port 3 (s.replyFrame r payload) (.reply true) := by
  obtain ⟨hl, hb⟩ := State.canReply_iff.1 hc
  unfold State.sendReply State.takeBlocks
  simp [hl, hb, h]
  rfl

/-! ## The device in RESETTING at the take -/

section
variable (s : State) (r : Request) (rest : List Request) (payload : List Byte)

/-- The device in step 6 of UNIT_RESET: in RESETTING, the reply stored but not sent (R132, R125). -/
def State.awaiting : State :=
  (s.atStep6 r rest).withEngine { ((s.atStep6 r rest).storeReply r payload).engine with state := .resetting }

/-- The device in RESETTING with the frame of its reply built, not yet offered to Q3 (R125). -/
def State.awaitingBuilt : State :=
  { (s.atStep6 r rest).storeReply r payload with
    pool := (s.atStep6 r rest).pool - 1
    engine :=
      { ((s.atStep6 r rest).storeReply r payload).engine with
        state := .resetting
        counters := (s.atStep6 r rest).engine.counters.replied true } }

/-- The device in RESETTING with its reply at the tail of Q3 (R69). -/
def State.awaitingQueued : State :=
  (s.awaitingBuilt r rest payload).modQueue r.requester.port 3 fun Q =>
    Q.enqueued (s.replyFrame r payload) s.timer.index (.reply true)

theorem State.awaiting_replyFrame : (s.awaiting r rest payload).replyFrame r payload = s.replyFrame r payload :=
  congrArg (builtFrame r.requester.station · .reply r.seq payload) (s.atStep6_station r rest)

theorem State.awaitingBuilt_port (p : Port) : (s.awaitingBuilt r rest payload).port p = s.port p := by
  rw [← s.atStep6_port r rest p]
  cases p <;> rfl

theorem State.awaitingBuilt_queue (p : Port) (q : QueueNo) :
    (s.awaitingBuilt r rest payload).queue p q = s.queue p q := by
  rw [State.queue, State.awaitingBuilt_port, State.queue]

theorem State.awaitingBuilt_timer : (s.awaitingBuilt r rest payload).timer = s.timer := s.atStep6_timer r rest

theorem State.awaitingBuilt_plans : (s.awaitingBuilt r rest payload).plans = s.plans := s.atStep6_plans r rest

theorem State.awaitingBuilt_localTime : (s.awaitingBuilt r rest payload).localTime = s.localTime :=
  s.atStep6_localTime r rest

theorem State.awaitingQueued_state : (s.awaitingQueued r rest payload).engine.state = .resetting := by
  rw [State.awaitingQueued, State.modQueue_engine]
  rfl

/-- Only Q3 of the requester's port has another frame, the reply at its tail. -/
theorem State.awaitingQueued_frames (p : Port) (q : QueueNo) :
    ((s.awaitingQueued r rest payload).queue p q).frames =
      (s.queue p q).frames ++
        if p = r.requester.port ∧ q = 3 then [⟨s.replyFrame r payload, s.timer.index, .reply true⟩] else [] := by
  unfold State.awaitingQueued
  split
  · rename_i h
    obtain ⟨rfl, rfl⟩ := h
    rw [State.modQueue_queue, State.awaitingBuilt_queue]
    rfl
  · rename_i h
    rw [State.modQueue_queue_ne _ _ _ _ _ _ (by tauto), State.awaitingBuilt_queue, List.append_nil]

theorem State.awaitingQueued_onlySending :
    (s.awaitingBuilt r rest payload).OnlySending (s.awaitingQueued r rest payload) :=
  State.modQueue_onlySending _ _ _ _ (fun _ => rfl) fun _ => rfl

theorem State.awaitingQueued_link (p : Port) :
    ((s.awaitingQueued r rest payload).port p).link = (s.port p).link := by
  rw [((s.awaitingQueued_onlySending r rest payload).port p).link, State.awaitingBuilt_port]

theorem State.awaitingQueued_gate (p : Port) :
    ((s.awaitingQueued r rest payload).port p).gate = (s.port p).gate := by
  rw [((s.awaitingQueued_onlySending r rest payload).port p).gate, State.awaitingBuilt_port]

theorem State.awaitingQueued_transmitter (p : Port) :
    ((s.awaitingQueued r rest payload).port p).transmitter = (s.port p).transmitter := by
  rw [State.awaitingQueued, State.modQueue_transmitter, State.awaitingBuilt_port]

theorem State.awaitingQueued_plans : (s.awaitingQueued r rest payload).plans = s.plans :=
  (s.awaitingQueued_onlySending r rest payload).plans.trans (s.awaitingBuilt_plans r rest payload)

theorem State.awaitingQueued_localTime : (s.awaitingQueued r rest payload).localTime = s.localTime :=
  (s.awaitingQueued_onlySending r rest payload).localTime.trans (s.awaitingBuilt_localTime r rest payload)

/-- The frame brings its blocks to Q3. -/
theorem State.awaitingQueued_totalBlocks :
    (s.awaitingQueued r rest payload).totalBlocks =
      (s.awaitingBuilt r rest payload).totalBlocks + (s.replyFrame r payload).blocks := by
  have hqueue := (s.awaitingBuilt r rest payload).totalBlocks_modQueue r.requester.port 3 fun Q =>
    Q.enqueued (s.replyFrame r payload) s.timer.index (.reply true)
  have hframes : ∀ Q : Queue, (Q.enqueued (s.replyFrame r payload) s.timer.index (.reply true)).blocks =
      Q.blocks + (s.replyFrame r payload).blocks := fun Q => by simp [Queue.blocks, Queue.enqueued]
  rw [hframes] at hqueue
  rw [State.awaitingQueued]
  omega

end

/-! ## The event -/

section
variable {s : State} {r : Request} {rest : List Request} {payload : List Byte} (h : s.Taking .unitReset r rest)
  (hpayload : payload = [r.number, r.op, 0x00])
include h hpayload

/-- The take of UNIT_RESET enters RESETTING, sends the reply and settles. -/
theorem State.Taking.exec_unitReset :
    exec .unitReset s = .next (((s.awaiting r rest payload).sendReply r payload).endTake).settle := by
  have htake := exec_take_handles h.running h.idle h.head
  have hpassed := h.screened
  rw [h.code] at htake hpassed
  rw [State.handle, hpassed] at htake
  rw [hpayload]
  exact htake

/-- A reply that is not built: the unit reset is performed in the event of the take. -/
theorem State.Taking.exec_unitReset_dropped (hc : (s.atStep6 r rest).canReply r payload = false) :
    exec .unitReset s = .next (s.atStep6 r rest).unitReset := by
  have hdropped := State.sendReply_awaited_dropped (s := s.awaiting r rest payload) rfl
    ((State.withEngine_canReply _ _ r payload).trans hc)
  rw [h.exec_unitReset hpayload, hdropped, State.endTake, if_neg (by simp [State.withEngine]), State.settle_due _ rfl]
  exact congrArg _ (State.withEngine_unitReset _ _ rfl)

/-- A reply that is built: the event is the offer to Q3. -/
theorem State.Taking.exec_unitReset_built (hc : (s.atStep6 r rest).canReply r payload = true) :
    exec .unitReset s = .next
      ((s.awaitingBuilt r rest payload).offerFrame r.requester.port 3 (s.replyFrame r payload) (.reply true)).settle := by
  have hbuilt := State.sendReply_awaited_built (s := s.awaiting r rest payload) rfl
    ((State.withEngine_canReply _ _ r payload).trans hc)
  have hblocks : (s.replyFrame r payload).blocks = 1 := by rw [hpayload]; exact s.replyFrame_ok_blocks r _ _ _
  rw [State.awaiting_replyFrame, hblocks] at hbuilt
  have hstate := ((s.awaitingBuilt r rest payload).offerFrame_sendsOut r.requester.port 3 (s.replyFrame r payload)
    (.reply true)).state
  rw [h.exec_unitReset hpayload, hbuilt]
  refine congrArg (fun t => Host.Outcome.next (State.settle t)) (if_neg fun hx => ?_)
  obtain e | ⟨_, e⟩ := hstate
  · exact absurd (hx.symm.trans e) (by simp [State.awaitingBuilt])
  · exact absurd (hx.symm.trans e) (by simp)

end

end Sys2Proof.Machine
end

section
/-! SUPPORT. Where the reply of UNIT_RESET goes at its take, and how the device leaves RESETTING later (R132, R126), with
the settlement of O51. -/

namespace Sys2Proof.Machine

/-! ## Heads handed to the transmitter (R73) -/

theorem State.headSent_onlySending (s : State) (p : Port) (q : QueueNo) (f : QueuedFrame) (rest : List QueuedFrame) :
    s.OnlySending (s.headSent p q f rest) :=
  (s.modQueue_onlySending p q (fun Q => { Q with frames := rest }) (fun _ => rfl) fun _ => rfl).trans
    (State.setTransmitter_onlySending _ p _)

theorem State.headSent_freeCount (s : State) (p : Port) (q : QueueNo) (f : QueuedFrame) (rest : List QueuedFrame) :
    (s.headSent p q f rest).freeCount = s.freeCount := by
  rw [State.headSent, State.modPort_freeCount, State.modQueue_freeCount]

theorem State.setTransmitter_transmitter (s : State) (p k : Port) (x : Transmitter) :
    ((s.setTransmitter p x).port k).transmitter = if k = p then x else (s.port k).transmitter := by
  cases p <;> cases k <;> rfl

theorem State.headSent_transmitter (s : State) (p k : Port) (q : QueueNo) (f : QueuedFrame) (rest : List QueuedFrame) :
    ((s.headSent p q f rest).port k).transmitter =
      if k = p then .sending q f.frame (s.localTime + f.frame.occupancy) else (s.port k).transmitter := by
  have h := (s.modQueue p q fun Q => { Q with frames := rest }).setTransmitter_transmitter p k
    (.sending q f.frame (s.localTime + f.frame.occupancy))
  rwa [State.modQueue_transmitter] at h

/-- A head takes its blocks from its queue to the transmitter, which gives up those it held. -/
theorem State.totalBlocks_headSent_add (s : State) (p : Port) (q : QueueNo) (f : QueuedFrame) (rest : List QueuedFrame) :
    (s.headSent p q f rest).totalBlocks + (s.port p).transmitter.blocks + (s.queue p q).blocks =
      s.totalBlocks + f.frame.blocks + blocksOf rest := by
  have hqueue := s.totalBlocks_modQueue p q fun Q => { Q with frames := rest }
  have hsend : (s.headSent p q f rest).totalBlocks + _ = _ :=
    (s.modQueue p q fun Q => { Q with frames := rest }).totalBlocks_setTransmitter p
      (.sending q f.frame (s.localTime + f.frame.occupancy))
  rw [State.modQueue_transmitter, Transmitter.blocks_sending] at hsend
  simp only [Queue.blocks] at hqueue ⊢
  omega

/-- The awaited reply at the head of an open Q3, with room in the window and an IDLE transmitter, is selected, and its
departure makes the unit reset due (R113, R132). -/
theorem State.trySelect_awaited {s : State} {p : Port} {g : QueuedFrame} {behind : List QueuedFrame}
    (hr : s.engine.state = .resetting) (hl : (s.port p).link = .up) (ht : (s.port p).transmitter = .idle)
    (hq : (s.queue p 3).frames = g :: behind) (hg : g.origin = .reply true)
    (ho : (s.plans.activePlan p).opens (s.port p).gate.window 3 = true)
    (hfit : g.frame.occupancy ≤ (s.port p).gate.windowEnd - s.localTime) :
    s.trySelect p = (s.headSent p 3 g behind).withEngine { s.engine with state := .resetDue } := by
  have hsel : s.selected p = some 3 :=
    State.selected_eq_some (State.headFits_eq_true hq ho hfit) fun k hk =>
      absurd hk (Fin.not_lt.2 (Fin.le_last k))
  have hengine := s.headSent_engine p 3 g behind
  rw [State.trySelect_sends (State.canSend_iff.2 ⟨hl, ht⟩) hsel hq, hg,
    State.reportDeparture_awaited _ (hengine ▸ hr), hengine, State.withEngine]

/-- A selection of another frame than the awaited reply leaves the engine. -/
theorem State.trySelect_other {s : State} {p : Port}
    (h : ∀ q f rest, s.headFits p q = true → (s.queue p q).frames = f :: rest → f.origin ≠ .reply true) :
    (s.trySelect p).engine = s.engine := by
  obtain e | ⟨q, f, rest, _, hfits, hf, e⟩ := s.trySelect_spec p <;> rw [e]
  rw [State.sendHead, hf]
  dsimp only
  rw [State.reportDeparture_other _ _ fun ho => absurd ho (h q f rest hfits hf), State.setTransmitter_engine,
    State.modQueue_engine]

/-! ## The reply at its take -/

/-- A unit reset does not see whether the reply went through Q3 to the transmitter or stood there at once. -/
theorem State.awaitingQueued_sent_unitReset {s : State} (r : Request) (rest : List Request) (payload : List Byte)
    {g : QueuedFrame} (hg : g.frame = s.replyFrame r payload)
    (ht : (s.port r.requester.port).transmitter = .idle)
    (hq : ((s.awaitingQueued r rest payload).queue r.requester.port 3).frames = [g]) :
    ((s.awaitingQueued r rest payload).headSent r.requester.port 3 g []).unitReset =
      State.unitReset { (s.atStep6 r rest).setTransmitter r.requester.port
          (.sending 3 (s.replyFrame r payload) (s.localTime + (s.replyFrame r payload).occupancy)) with
        pool := (s.atStep6 r rest).pool - 1 } := by
  generalize hx : Transmitter.sending 3 (s.replyFrame r payload) (s.localTime + (s.replyFrame r payload).occupancy) = x
  have hbuilt : ({ (s.atStep6 r rest).setTransmitter r.requester.port x with
      pool := (s.atStep6 r rest).pool - 1 } : State).withEngine (s.awaitingBuilt r rest payload).engine =
      (s.awaitingBuilt r rest payload).setTransmitter r.requester.port x := by
    cases r.requester.port <;> rfl
  have hsending := (s.awaitingBuilt r rest payload).totalBlocks_setTransmitter r.requester.port x
  rw [State.awaitingBuilt_port, ht, Transmitter.blocks_idle, ← hx, Transmitter.blocks_sending, hx] at hsending
  have hheld := (s.awaitingQueued r rest payload).totalBlocks_headSent_add r.requester.port 3 g []
  rw [State.awaitingQueued_transmitter, ht, Transmitter.blocks_idle, Queue.blocks, hq, blocksOf_cons,
    State.awaitingQueued_totalBlocks, hg] at hheld
  rw [← State.withEngine_unitReset { (s.atStep6 r rest).setTransmitter r.requester.port x with
    pool := (s.atStep6 r rest).pool - 1 } (s.awaitingBuilt r rest payload).engine, hbuilt]
  · refine State.ResetAlike.unitReset (.of_sending (State.setTransmitter_onlySending _ _ x)
      ((s.awaitingQueued_onlySending r rest payload).trans (State.headSent_onlySending _ _ _ _ _)) ?_ (fun p => ?_)
      (by omega))
    · rw [State.headSent_freeCount, State.awaitingQueued, State.modQueue_freeCount, State.setTransmitter_freeCount]
    · rw [State.headSent_transmitter, State.setTransmitter_transmitter, State.awaitingQueued_localTime, hg, hx,
        State.awaitingQueued_transmitter, State.awaitingBuilt_port]
  · rw [State.setTransmitter_engine]
    rfl

section
variable {s : State} {r : Request} {rest : List Request} {payload : List Byte} (h : s.Taking .unitReset r rest)
  (hpayload : payload = [r.number, r.op, 0x00]) (hc : (s.atStep6 r rest).canReply r payload = true)
include h hpayload hc

/-- Q3 refuses the reply as *dropped full*: the unit reset comes after the notice of it. -/
theorem State.Taking.exec_unitReset_full
    (hb : (s.queue r.requester.port 3).limit < (s.queue r.requester.port 3).blocks + 1) :
    exec .unitReset s = .next ((s.atStep6 r rest).raise (.queueOverflow r.requester.port 3)).unitReset := by
  have hblocks : (s.replyFrame r payload).blocks = 1 := by rw [hpayload]; exact s.replyFrame_ok_blocks r _ _ _
  obtain ⟨hl, hpool⟩ := State.canReply_iff.1 hc
  have hpool : (s.atStep6 r rest).pool - 1 + 1 = (s.atStep6 r rest).pool := by
    have : (s.atStep6 r rest).replyFrame r payload = s.replyFrame r payload := s.awaiting_replyFrame r rest payload
    rw [this, hblocks] at hpool
    omega
  rw [State.atStep6_port] at hl
  have hengine : ∃ e : Engine, e.queue = (s.atStep6 r rest).engine.queue ∧ e.state = .resetDue ∧
      (((s.awaitingBuilt r rest payload).returnBlocks 1).countQueue r.requester.port 3 fun c =>
        { c with droppedFull := countUp c.droppedFull }).reportDeparture (.reply true) =
      ((s.atStep6 r rest).overflowed r.requester.port 3).withEngine e := by
    refine ⟨{ (s.awaitingBuilt r rest payload).engine with state := .resetDue }, rfl, rfl, ?_⟩
    rw [State.reportDeparture_awaited _ (by rw [State.countQueue_engine]; rfl), State.countQueue_engine]
    cases r.requester.port <;>
      simp only [State.returnBlocks, State.awaitingBuilt, State.storeReply, hpool] <;> rfl
  obtain ⟨e, hqueue, hdue, hoffered⟩ := hengine
  have hexec : (s.atStep6 r rest).engine.state ≠ .resetting := by rw [State.atStep6_state]; decide
  have hover : ((s.atStep6 r rest).overflowed r.requester.port 3).engine.state ≠ .resetting := by
    rwa [State.overflowed_engine]
  rw [h.exec_unitReset_built hpayload hc, State.offerFrame_full _ _ _ _ _ (by rwa [State.awaitingBuilt_port])
    (by rwa [State.awaitingBuilt_queue, hblocks]), hblocks, hoffered,
    State.withEngine_raise _ _ hover (by rw [hdue]; decide), State.settle_due _ hdue, State.overflowed_raise,
    State.withEngine_unitReset, State.overflowed_unitReset]
  rw [hqueue, State.overflowed_engine, State.raise_engine _ _ hexec]

/-- Q3 admits the reply: the event is its admission at the tail and, if Q3 is open, a selection. -/
theorem State.Taking.exec_unitReset_admitted
    (hb : (s.queue r.requester.port 3).blocks + 1 ≤ (s.queue r.requester.port 3).limit) :
    exec .unitReset s = .next
      (if (s.plans.activePlan r.requester.port).opens (s.port r.requester.port).gate.window 3 = true then
        (s.awaitingQueued r rest payload).trySelect r.requester.port
      else s.awaitingQueued r rest payload).settle := by
  have hblocks : (s.replyFrame r payload).blocks = 1 := by rw [hpayload]; exact s.replyFrame_ok_blocks r _ _ _
  have hl := (State.canReply_iff.1 hc).1
  rw [State.atStep6_port] at hl
  rw [h.exec_unitReset_built hpayload hc, State.offerFrame_admitted _ _ _ _ _ (by rwa [State.awaitingBuilt_port])
    (by rwa [State.awaitingBuilt_queue, hblocks]), State.awaitingBuilt_plans, State.awaitingBuilt_port,
    State.awaitingBuilt_timer]
  rfl

/-- Behind a frame in transmission the reply waits. -/
theorem State.Taking.exec_unitReset_busy (ht : (s.port r.requester.port).transmitter ≠ .idle)
    (hb : (s.queue r.requester.port 3).blocks + 1 ≤ (s.queue r.requester.port 3).limit) :
    exec .unitReset s = .next (s.awaitingQueued r rest payload) := by
  have hstay : (s.awaitingQueued r rest payload).trySelect r.requester.port = s.awaitingQueued r rest payload := by
    refine State.trySelect_nothing (.inl ?_)
    rw [← Bool.not_eq_true, State.canSend_iff]
    rintro ⟨_, hidle⟩
    rw [State.awaitingQueued, State.modQueue_transmitter, State.awaitingBuilt_port] at hidle
    exact ht hidle
  rw [h.exec_unitReset_admitted hpayload hc hb, hstay, ite_self,
    State.settle_eq _ (by rw [State.awaitingQueued_state]; decide)]

/-- With nothing ahead of it, an open Q3 and room in the window, the reply leaves at once. -/
theorem State.Taking.exec_unitReset_sent (ht : (s.port r.requester.port).transmitter = .idle)
    (hq : (s.queue r.requester.port 3).frames = []) (hb : 1 ≤ (s.queue r.requester.port 3).limit)
    (ho : (s.plans.activePlan r.requester.port).opens (s.port r.requester.port).gate.window 3 = true)
    (hfit : (s.replyFrame r payload).occupancy ≤ (s.port r.requester.port).gate.windowEnd - s.localTime) :
    exec .unitReset s = .next
      (State.unitReset { (s.atStep6 r rest).setTransmitter r.requester.port
          (.sending 3 (s.replyFrame r payload) (s.localTime + (s.replyFrame r payload).occupancy)) with
        pool := (s.atStep6 r rest).pool - 1 }) := by
  have hframes := s.awaitingQueued_frames r rest payload r.requester.port 3
  rw [hq, if_pos ⟨rfl, rfl⟩, List.nil_append] at hframes
  have hroom : (s.queue r.requester.port 3).blocks + 1 ≤ (s.queue r.requester.port 3).limit := by
    rwa [Queue.blocks, hq, blocksOf_nil, Nat.zero_add]
  have hsent : (s.awaitingQueued r rest payload).trySelect r.requester.port =
      ((s.awaitingQueued r rest payload).headSent r.requester.port 3
        ⟨s.replyFrame r payload, s.timer.index, .reply true⟩ []).withEngine
          { (s.awaitingQueued r rest payload).engine with state := .resetDue } := by
    refine State.trySelect_awaited (s.awaitingQueued_state r rest payload) ?_ ?_ hframes rfl ?_ ?_
    · rw [State.awaitingQueued_link]
      exact s.atStep6_port r rest r.requester.port ▸ (State.canReply_iff.1 hc).1
    · rwa [State.awaitingQueued_transmitter]
    · rwa [State.awaitingQueued_plans, State.awaitingQueued_gate]
    · rwa [State.awaitingQueued_gate, State.awaitingQueued_localTime]
  rw [h.exec_unitReset_admitted hpayload hc hroom, if_pos ho, hsent, State.settle_due _ rfl,
    State.withEngine_unitReset _ _ (by rw [State.headSent_engine])]
  exact congrArg _ (State.awaitingQueued_sent_unitReset r rest payload rfl ht hframes)

/-- In a closed Q3 the reply waits. -/
theorem State.Taking.exec_unitReset_closed
    (hb : (s.queue r.requester.port 3).blocks + 1 ≤ (s.queue r.requester.port 3).limit)
    (ho : (s.plans.activePlan r.requester.port).opens (s.port r.requester.port).gate.window 3 = false) :
    exec .unitReset s = .next (s.awaitingQueued r rest payload) := by
  rw [h.exec_unitReset_admitted hpayload hc hb, if_neg (by simp [ho]),
    State.settle_eq _ (by rw [State.awaitingQueued_state]; decide)]

end

/-- In an open Q3 the reply is not selected behind another head, nor while it does not fit the window. -/
theorem State.awaitingQueued_trySelect {s : State} (r : Request) (rest : List Request) (payload : List Byte)
    (hnone : ∀ (k : QueueNo), ∀ g ∈ (s.queue r.requester.port k).frames, g.origin ≠ .reply true)
    (hwaits : (s.queue r.requester.port 3).frames ≠ []
      ∨ (s.port r.requester.port).gate.windowEnd - s.localTime < (s.replyFrame r payload).occupancy) :
    ((s.awaitingQueued r rest payload).trySelect r.requester.port).engine.state = .resetting := by
  rw [State.trySelect_other, State.awaitingQueued_state]
  intro q f behind hfits hf
  rw [State.awaitingQueued_frames] at hf
  by_cases hq : q = 3
  · subst hq
    rw [if_pos ⟨rfl, rfl⟩] at hf
    cases hs : (s.queue r.requester.port 3).frames with
    | nil =>
      rw [hs, List.nil_append, List.cons_eq_cons] at hf
      have hfalse : (s.awaitingQueued r rest payload).headFits r.requester.port 3 = false := by
        refine State.headFits_eq_false.2 (.inr fun g hg => ?_)
        rw [State.awaitingQueued_frames, hs, if_pos ⟨rfl, rfl⟩] at hg
        obtain rfl : _ = g := by simpa using hg
        rw [State.awaitingQueued_gate, State.awaitingQueued_localTime]
        exact hwaits.resolve_left fun hne => hne hs
      rw [hfalse] at hfits
      cases hfits
    | cons g gs =>
      rw [hs, List.cons_append, List.cons_eq_cons] at hf
      exact hf.1 ▸ hnone 3 g (by simp [hs])
  · rw [if_neg fun h => hq h.2, List.append_nil] at hf
    exact hnone q f (by simp [hf])

end Sys2Proof.Machine
end

section
/-! SUPPORT. How the device leaves RESETTING (R132, R126), with the settlement of O51. -/

namespace Sys2Proof.Machine

/-! ## Takes in RESETTING (R120) -/

/-- Only an IDLE engine takes a request. -/
theorem State.takeRequest_notIdle {s : State} (h : s.engine.state ≠ .idle) (o : Option Op)
    (serve : Request → State → Served) : s.takeRequest o serve = s := by
  unfold State.takeRequest
  split
  · rename_i hidle _
    exact absurd hidle h
  · rfl

/-- In RESETTING the command for a take changes nothing (log entry 3). -/
theorem exec_takeInstr_resetting {s : State} (h : s.engine.state = .resetting) (o : Option Op) :
    exec (takeInstr o) s = .next s := by
  rw [exec_takeInstr]
  cases hheld : s.resetHeld
  · rw [runEvent_running _ _ hheld, State.takeRequest_notIdle (by rw [h]; decide), State.settle_eq _ (by rw [h]; decide)]
  · exact runEvent_held _ _ hheld

/-! ## The flush of the awaited reply (R76, R3) -/

theorem PortState.mem_queuedFrames {P : PortState} {q : QueueNo} {g : QueuedFrame} (h : g ∈ P.queues[q].frames) :
    g ∈ P.queuedFrames :=
  List.mem_flatMap.2 ⟨P.queues[q], by simp, h⟩

/-- A unit reset sees of a link-down what the port keeps and the blocks it returns, not the counts. -/
theorem State.dropped_unitReset (s : State) (p : Port) (n : Nat) :
    State.unitReset { s.modPort p PortState.dropped with pool := n } =
      State.unitReset { s.modPort p fun P =>
          { P with
            link := .down
            linkPinHigh := true
            receiver := .idle
            transmitter := .idle
            queues := P.queues.map fun Q => { Q with frames := [] } } with
        pool := n } := by
  refine State.ResetAlike.unitReset
    { pending := by simp, freeCount := by simp, resetHeld := by simp, station := by simp, localTime := by simp,
      index := by simp, link := fun k => ?_, pin := fun k => ?_, receiver := fun k => ?_, transmitter := fun k => ?_,
      total := ?_ }
  · cases p <;> cases k <;> rfl
  · cases p <;> cases k <;> rfl
  · cases p <;> cases k <;> rfl
  · cases p <;> cases k <;> rfl
  · cases p <;> simp [State.totalBlocks, State.modPort, PortState.heldBlocks, PortState.dropped, PortState.queueBlocks,
      vector4_toList, Queue.blocks, Queue.flushed]

/-- A link-down of the port whose Q3 holds the awaited reply ends in the unit reset. -/
theorem exec_linkDown_awaited {s : State} {p : Port} (hrun : s.resetHeld = false) (hr : s.engine.state = .resetting)
    (hl : (s.port p).link = .up) {g : QueuedFrame} (hq : g ∈ (s.queue p 3).frames) (hg : g.origin = .reply true) :
    exec (.linkDown p) s = .next
      (State.unitReset { s.modPort p PortState.dropped with pool := s.pool + (s.port p).heldBlocks }) := by
  have hdue := Engine.departs_awaited hr (PortState.mem_queuedFrames hq) hg
  show runEvent s (fun s => s.dropLink p) = _
  rw [runEvent_running _ _ hrun, s.dropLink_eq p hl, hdue, State.settle_due _ rfl]
  refine congrArg _ (State.withEngine_unitReset { s.modPort p PortState.dropped with
    pool := s.pool + (s.port p).heldBlocks } { s.engine with state := .resetDue } ?_)
  rw [State.modPort_engine]

/-! ## The ageing of the awaited reply (R74, R75) -/

/-- A frame ages out with all frames ahead of it if all of them are of age. -/
theorem mem_agedFrames {a : Nat} {c : CycleIndex} {old behind : List QueuedFrame} {g : QueuedFrame}
    (h : ∀ f ∈ old ++ [g], a ≤ (c.toNat + 4294967296 - f.enqueueIndex.toNat) % 4294967296) :
    g ∈ agedFrames a c (old ++ g :: behind) := by
  have hsplit : old ++ g :: behind = (old ++ [g]) ++ behind := by simp
  rw [agedFrames, hsplit, List.takeWhile_append_of_pos fun f hf => decide_eq_true (age_toNat c _ ▸ h f hf)]
  simp

/-- What sends frames does not take back a unit reset that is due. -/
theorem State.SendsOut.due {s t : State} (h : s.SendsOut t) (hd : s.engine.state = .resetDue) :
    t.engine.state = .resetDue := by
  obtain e | ⟨hr, _⟩ := h.state
  · exact e.trans hd
  · rw [hd] at hr
    cases hr

/-- Work that ages the awaited reply makes the unit reset due, whatever is done before and after. -/
theorem foldl_runWork_due {s : State} {ws : List Work} {p : Port} {old behind : List QueuedFrame} {g : QueuedFrame}
    (hr : s.engine.state = .resetting) (hw : .age p 3 ∈ ws) (hq : (s.queue p 3).frames = old ++ g :: behind)
    (hg : g.origin = .reply true) (ha : 1 ≤ (s.queue p 3).ageLimit)
    (hold : ∀ f ∈ old ++ [g], (s.queue p 3).ageLimit ≤
      (s.timer.index.toNat + 4294967296 - f.enqueueIndex.toNat) % 4294967296) :
    (ws.foldl (fun x w => runWork w x) s).engine.state = .resetDue := by
  obtain ⟨pre, post, rfl⟩ := List.append_of_mem hw
  rw [List.foldl_append, List.foldl_cons]
  have hpre := foldl_runWork_sendsOut pre s
  generalize pre.foldl (fun x w => runWork w x) s = x at hpre ⊢
  refine (foldl_runWork_sendsOut post _).due ?_
  obtain hx | ⟨_, hx⟩ := hpre.state
  · obtain ⟨old', behind', hframes, hahead⟩ := (hq ▸ hpre.queues hr (hx.trans hr) p 3).awaited hg
    have hlimit : (x.queue p 3).ageLimit = (s.queue p 3).ageLimit := (hpre.sending.port p).ageLimit 3
    have haged : g ∈ agedFrames (x.queue p 3).ageLimit x.timer.index (x.queue p 3).frames := by
      rw [hframes, hlimit, hpre.sending.timer]
      refine mem_agedFrames fun f hf => hold f ?_
      simp only [List.mem_append] at hf ⊢
      exact hf.imp (hahead f) id
    show (x.ageQueue p 3).engine.state = _
    rw [State.ageQueue_pos (by omega), Engine.departs_awaited (hx.trans hr) haged hg]
  · exact (runWork_sendsOut _ x).due hx

/-- A cycle start that ages the awaited reply ends in the unit reset. -/
theorem exec_scheduledCycleStart_awaited {s : State} {p : Port} {old behind : List QueuedFrame} {g : QueuedFrame}
    (hrun : s.resetHeld = false) (hr : s.engine.state = .resetting) (hfirst : s.First s.timer.scheduledEnd)
    (hq : (s.queue p 3).frames = old ++ g :: behind) (hg : g.origin = .reply true) (ha : 1 ≤ (s.queue p 3).ageLimit)
    (hold : ∀ f ∈ old ++ [g], (s.queue p 3).ageLimit ≤
      (s.timer.index.toNat + 1 + 4294967296 - f.enqueueIndex.toNat) % 4294967296) :
    ∃ u : State, exec .scheduledCycleStart s = .next u.unitReset ∧ u.timer.index = s.timer.index + 1
      ∧ u.localTime = max s.localTime s.timer.scheduledEnd := by
  obtain ⟨n, ws, _, _, hmem, hdone⟩ :=
    ({ s with localTime := max s.localTime s.timer.scheduledEnd } : State).scheduledStart_eachDone
  have hbrings : Work.age p 3 ∈ ws := (hmem _).2 (.inl (.inr (.inl ⟨p, 3, rfl, by cases p <;> exact ha⟩)))
  have hsends := hdone ▸ foldl_runWork_sendsOut ws _
  refine ⟨({ s with localTime := max s.localTime s.timer.scheduledEnd } : State).scheduledStart, ?_, ?_, ?_⟩
  · show runEvent s (fun s => s.whenReached (some s.timer.scheduledEnd) State.scheduledStart) = _
    rw [runEvent_running _ _ hrun, State.whenReached_first hfirst, State.settle_due _ ?_]
    rw [hdone]
    refine foldl_runWork_due (old := old) (behind := behind) (g := g) hr hbrings ?_ hg ?_ ?_
    · rw [← hq]
      cases p <;> rfl
    · cases p <;> exact ha
    · intro x hx
      have hx := hold x hx
      have hage := age_toNat (s.timer.index + 1) x.enqueueIndex
      have hindex : (s.timer.index.toNat + 1 + 4294967296 - x.enqueueIndex.toNat) % 4294967296 =
          (s.timer.index + 1 - x.enqueueIndex).toNat := by bv_omega
      rw [hindex, hage] at hx
      cases p <;> exact hx
  · rw [hsends.sending.timer]
    rfl
  · rw [hsends.sending.localTime]
    rfl

/-! ## The selection of the awaited reply after a transmission (R73, R113) -/

/-- Two states that a unit reset takes to one are so after the same head has gone from the same queue. -/
theorem State.ResetAlike.headSent {s t : State} (h : s.ResetAlike t) {p : Port} {q : QueueNo} {f : QueuedFrame}
    {rest : List QueuedFrame} (hq : (t.queue p q).frames = (s.queue p q).frames) :
    (s.headSent p q f rest).ResetAlike (t.headSent p q f rest) := by
  have hs := s.headSent_onlySending p q f rest
  have ht := t.headSent_onlySending p q f rest
  exact
    { pending := ht.pending.trans (h.pending.trans hs.pending.symm)
      freeCount := by rw [State.headSent_freeCount, State.headSent_freeCount, h.freeCount]
      resetHeld := ht.resetHeld.trans (h.resetHeld.trans hs.resetHeld.symm)
      station := ht.station.trans (h.station.trans hs.station.symm)
      localTime := ht.localTime.trans (h.localTime.trans hs.localTime.symm)
      index := by rw [ht.timer, hs.timer, h.index]
      link := fun k => (ht.port k).link.trans ((h.link k).trans (hs.port k).link.symm)
      pin := fun k => (ht.port k).pin.trans ((h.pin k).trans (hs.port k).pin.symm)
      receiver := fun k => (ht.port k).receiver.trans ((h.receiver k).trans (hs.port k).receiver.symm)
      transmitter := fun k => by rw [State.headSent_transmitter, State.headSent_transmitter, h.localTime, h.transmitter]
      total := by
        have hs' := s.totalBlocks_headSent_add p q f rest
        have ht' := t.totalBlocks_headSent_add p q f rest
        rw [h.transmitter p, Queue.blocks, hq, h.total] at ht'
        rw [Queue.blocks] at hs'
        omega }

/-- A unit reset does not see that a completed transmission is counted (R79). -/
theorem State.completed_resetAlike (s : State) (p : Port) (q : QueueNo) (f : Frame) (c : Ticks) :
    State.ResetAlike { s.setTransmitter p .idle with localTime := max s.localTime c, pool := s.pool + f.blocks }
      (s.completed p q f c) := by
  have hcounted : s.completed p q f c =
      ({ s.setTransmitter p .idle with localTime := max s.localTime c, pool := s.pool + f.blocks } : State).countQueue p q
        fun c => { c with transmitted := countUp c.transmitted } := by
    cases p <;> rfl
  rw [hcounted]
  exact .of_sending (.refl _) (State.countQueue_onlySending _ _ _ _) (State.modQueue_freeCount _ _ _ _)
    (fun k => State.modQueue_transmitter _ _ _ _ _) (State.totalBlocks_countQueue _ _ _ _)

/-- A unit reset after a completion and a selection sees the frame that leaves and the blocks of the one that has left. -/
theorem State.completed_headSent_unitReset (s : State) (p : Port) (q : QueueNo) (f : Frame) (c : Ticks)
    (g : QueuedFrame) (behind : List QueuedFrame) :
    ((s.completed p q f c).headSent p 3 g behind).unitReset =
      State.unitReset { s.modPort p fun P =>
          { P with
            transmitter := .sending 3 g.frame (max s.localTime c + g.frame.occupancy)
            queues := P.queues.set 3 { P.queues[3] with frames := behind } } with
        localTime := max s.localTime c
        pool := s.pool + f.blocks } := by
  have hframes : ((s.completed p q f c).queue p 3).frames =
      (({ s.setTransmitter p .idle with localTime := max s.localTime c, pool := s.pool + f.blocks } : State).queue
        p 3).frames := by
    rw [State.completed_frames]
    cases p <;> rfl
  refine ((s.completed_resetAlike p q f c).headSent hframes).unitReset.trans (congrArg State.unitReset ?_)
  cases p <;> rfl

/-- A completion after which Q3 is open to the awaited reply at its head ends in the unit reset. -/
theorem exec_transmissionCompletion_awaited {s : State} {p : Port} {q : QueueNo} {f : Frame} {c : Ticks}
    {g : QueuedFrame} {behind : List QueuedFrame} (hrun : s.resetHeld = false) (hr : s.engine.state = .resetting)
    (ht : (s.port p).transmitter = .sending q f c) (hfirst : s.First c) (hl : (s.port p).link = .up)
    (hq : (s.queue p 3).frames = g :: behind) (hg : g.origin = .reply true)
    (ho : (s.plans.activePlan p).opens (s.port p).gate.window 3 = true)
    (hfit : g.frame.occupancy ≤ (s.port p).gate.windowEnd - max s.localTime c) :
    exec (.transmissionCompletion p) s = .next ((s.completed p q f c).headSent p 3 g behind).unitReset := by
  have hsent : (s.completed p q f c).trySelect p =
      ((s.completed p q f c).headSent p 3 g behind).withEngine
        { (s.completed p q f c).engine with state := .resetDue } := by
    refine State.trySelect_awaited (by rwa [State.completed_engine]) ?_ ?_ (by rwa [State.completed_frames]) hg ?_ ?_
    · cases p <;> exact hl
    · cases p <;> rfl
    · cases p <;> exact ho
    · cases p <;> exact hfit
  show runEvent s (fun s => s.whenReached (s.port p).completion fun s => s.completeTransmission p) = _
  rw [runEvent_running _ _ hrun, State.whenReached_completion ht hfirst, hsent, State.settle_due _ rfl,
    State.withEngine_unitReset _ _ (by rw [State.headSent_engine])]

/-- Settles O51: the reply's fate at the take, case by case, then the ways in which the device leaves RESETTING. -/
theorem unitResetAwaitsItsReply : Obligations.UnitResetAwaitsItsReply := by
  refine ⟨fun s r rest payload h hp => ⟨h.exec_unitReset_dropped hp, h.exec_unitReset_busy hp,
    h.exec_unitReset_full hp, h.exec_unitReset_sent hp, ?_⟩, fun s o h => exec_takeInstr_resetting h o, ?_, ?_, ?_⟩
  · rintro u rfl hc hb
    have hopen := fun ho => (h.exec_unitReset_admitted hp hc hb).trans (by rw [if_pos ho])
    refine ⟨h.exec_unitReset_closed hp hc hb, hopen, fun ho hnone hwaits => ?_⟩
    have hstate := State.awaitingQueued_trySelect r rest payload hnone hwaits
    exact ⟨(hopen ho).trans (by rw [State.settle_eq _ (by rw [hstate]; decide)]; rfl), hstate⟩
  · rintro s p hrun hr hl ⟨g, hq, hg⟩
    rw [exec_linkDown_awaited hrun hr hl hq hg, State.dropped_unitReset]
  · rintro s p old behind g now hrun hr hfirst rfl hq hg ha hold
    obtain ⟨u, hexec, hindex, htime⟩ := exec_scheduledCycleStart_awaited hrun hr hfirst hq hg ha hold
    obtain ⟨hentries, hports, _, hplans, htimer, hbeat, hsession, hnotice, hengine, _⟩ := unitResetValues u
    refine ⟨_, hexec, ?_, hengine, hsession, hnotice, hplans, hbeat, hentries, fun k q => ?_⟩
    · rw [htimer, hindex, htime, BitVec.add_assoc]
      rfl
    · obtain ⟨_, _, _, _, _, _, _, hqueue⟩ := hports k
      exact hqueue q
  · rintro s p q f c now g behind hrun hr ht hfirst rfl hl hq hg ho hfit
    rw [exec_transmissionCompletion_awaited hrun hr ht hfirst hl hq hg ho hfit]
    exact congrArg _ (State.completed_headSent_unitReset s p q f c g behind)

end Sys2Proof.Machine
end

section
/-! SUPPORT. What leaves the Session Record alone (chapter 8): the sending of frames, the notices, the cycles and the
beats, reception, transmission and links, and every request but SESSION_OPEN and SESSION_CLOSE. -/

namespace Sys2Proof.Machine

/-! ## Notices (chapter 9) -/

section
variable (s : State)

theorem State.changeDestination_session (dest : Option Requester) :
    (s.changeDestination dest).session = s.session := by
  unfold State.changeDestination State.drawTieIndex
  split
  · rfl
  · dsimp only
    split <;> rfl

theorem State.recomputeDestination_session : s.recomputeDestination.session = s.session := by
  unfold State.recomputeDestination
  split
  · rfl
  · exact s.changeDestination_session _

theorem State.updateDestination_session : s.updateDestination.session = s.session := by
  unfold State.updateDestination
  split
  · rfl
  · exact (State.trySend_onlySending _).session.trans (s.changeDestination_session _)

theorem State.setNotices_session (x : NoticeSettings) : (s.setNotices x).session = s.session :=
  (State.trySend_onlySending _).session.trans (State.recomputeDestination_session _)

theorem State.takeAck_session (station : Half) (payload : List Byte) :
    (s.takeAck station payload).session = s.session := by
  unfold State.takeAck
  dsimp only
  split
  · rfl
  · exact (State.trySend_onlySending _).session

theorem State.retryNotice_session (x : NoticeEntry) (attempts : Nat) :
    (s.retryNotice x attempts).session = s.session := by
  unfold State.retryNotice
  dsimp only
  split
  · rfl
  · split
    · rfl
    · split
      · rfl
      · rename_i t ht
        exact (State.offerNotice_onlySending _ _ _).session.trans (State.takeBlocks_onlySending ht).session

theorem State.retryExpired_session : s.retryExpired.session = s.session := by
  unfold State.retryExpired
  dsimp only
  split
  · exact (State.trySend_onlySending _).session
  · split
    · rfl
    · split
      · exact State.retryNotice_session { s with notice := { s.notice with retryTimer := none } } _ _
      · exact (State.trySend_onlySending _).session

/-! ## Cycles and beats (chapter 5) -/

theorem State.scheduledStart_session : s.scheduledStart.session = s.session :=
  s.scheduledStart_eachDone.handsOn.sending.session

theorem State.reportBeat_session (now : Ticks) : (s.reportBeat now).session = s.session := by
  obtain ⟨u, hu, ht⟩ := s.reportBeat_judged now
  have hjudged : u.session = s.session := by cases hu <;> rfl
  exact ht.sending.session.trans hjudged

/-! ## Reception, transmission and links (chapter 1) -/

theorem State.startFrame_session (p : Port) : (s.startFrame p).session = s.session := by
  unfold State.startFrame
  split
  · split
    · rename_i t ht
      exact (t.setReceiver_session p _).trans (State.takeBlocks_onlySending ht).session
    · simp
  · rfl

theorem State.abandon_session (p : Port) (bytes : List Byte) (f : PortCounters → PortCounters) :
    (s.abandon p bytes f).session = s.session := by simp [State.abandon]

theorem State.completeHeader_session (p : Port) (bytes : List Byte) :
    (s.completeHeader p bytes).session = s.session := by
  unfold State.completeHeader
  split
  · split_ifs
    · rfl
    · exact s.abandon_session p _ _
    · exact s.abandon_session p _ _
    · exact s.setReceiver_session p _
  · rfl

theorem State.crossBoundary_session (p : Port) (bytes : List Byte) :
    (s.crossBoundary p bytes).session = s.session := by
  unfold State.crossBoundary
  split
  · split_ifs
    · exact State.setReceiver_session _ p _
    · exact s.abandon_session p _ _
    · rfl
  · rfl

theorem State.takeSurplus_session (p : Port) (bytes : List Byte) : (s.takeSurplus p bytes).session = s.session := by
  unfold State.takeSurplus
  split
  · split
    · exact s.abandon_session p _ _
    · rfl
  · rfl

theorem State.completeTransmission_session (p : Port) : (s.completeTransmission p).session = s.session := by
  unfold State.completeTransmission
  split
  · rfl
  · exact (State.trySelect_onlySending _ p).session.trans (by simp)

theorem State.changeWindow_session (p : Port) : (s.changeWindow p).session = s.session :=
  (State.trySelect_onlySending _ p).session.trans (s.modPort_session p _)

theorem State.raiseLink_session (p : Port) : (s.raiseLink p).session = s.session := by
  unfold State.raiseLink State.noticeLinkUp
  split
  · have hup := (State.trySelect_onlySending _ p).session.trans
      (s.modPort_session p fun P => { P with link := .up, linkPinHigh := false })
    split
    · exact (State.trySend_onlySending _).session.trans hup
    · exact hup
  · rfl

theorem State.dropLink_session (p : Port) : (s.dropLink p).session = s.session := by
  cases hl : (s.port p).link with
  | down => rw [s.dropLink_down p hl]
  | up =>
    rw [s.dropLink_eq p hl]
    exact s.modPort_session p PortState.dropped

/-! ## DATA frames and transit (R14, R17, R23, R24) -/

/-- Two things that both leave the session leave it in either order. -/
theorem eitherOrder_session {f g : State → State} (hf : ∀ x, (f x).session = x.session)
    (hg : ∀ x, (g x).session = x.session) : (eitherOrder f g s).session = s.session :=
  eitherOrder_preserves (P := fun t => t.session = s.session) ((hg _).trans (hf _)) ((hf _).trans (hg _))

theorem State.inTransit_session (p : Port) (f : Frame) : (s.inTransit p f).session = s.session :=
  (s.offerFrame_onlySending _ _ _ _).session

theorem State.misaddress_session (p : Port) (f : Frame) : (s.misaddress p f).session = s.session := by
  simp [State.misaddress]

theorem State.unlisted_session (p : Port) (f : Frame) : (s.unlisted p f).session = s.session := by
  unfold State.unlisted
  split
  · exact (State.offerFrame_onlySending _ _ _ _ _).session.trans (s.countPort_session p _)
  · simp

theorem State.classify_session (p : Port) (f : Frame) (arrival : Ticks) :
    (s.classify p f arrival).session = s.session := by
  have hmiss : (s.miss p f).session = s.session :=
    eitherOrder_session s (fun x => x.unlisted_session p f) fun x => (x.raise_onlySending _).session
  unfold State.classify
  split
  · exact hmiss
  · split
    · exact hmiss
    · exact (State.hit_onlySending rfl).session

theorem State.broadcastCopy_session (p : Port) (f : Frame) : (s.broadcastCopy p f).session = s.session := by
  unfold State.broadcastCopy
  split
  · exact s.countPort_session p _
  · rename_i t ht
    exact (t.inTransit_session p f).trans (State.takeBlocks_onlySending ht).session

/-! ## Requests (chapters 2 to 10) -/

theorem State.offerRequest_session (f : Frame) (arrival : Port) : (s.offerRequest f arrival).session = s.session := by
  unfold State.offerRequest
  split_ifs <;> rfl

theorem State.clearSet_session (c : CounterSet) : (s.clearSet c).session = s.session := by
  cases c with
  | port p => exact s.countPort_session p _
  | queue p q => exact s.countQueue_session p q _
  | gate p => exact s.modPort_session p _
  | stream _ | beat | management | notice => rfl

/-- Step 6 of a request that neither opens nor closes a session leaves the session (R136). -/
theorem Op.serve_session {o : Op} (hopen : o ≠ .sessionOpen) (hclose : o ≠ .sessionClose) (r : Request) :
    (o.serve r s).1.session = s.session := by
  cases o
  case sessionOpen => exact absurd rfl hopen
  case sessionClose => exact absurd rfl hclose
  case noticeSet =>
    simp only [Op.serve, serveNoticeSet]
    split
    · exact s.setNotices_session _
    · rfl
  case unlistedSet =>
    simp only [Op.serve, serveUnlistedSet]
    split
    · exact s.modPort_session _ _
    · rfl
  case queueSet =>
    simp only [Op.serve, serveQueueSet]
    split
    · split
      · exact s.modQueue_session _ _ _
      · rfl
    · rfl
  case counterRead =>
    simp only [Op.serve, serveCounterRead]
    split
    · rfl
    · split
      · rfl
      · dsimp only
        split
        · exact s.clearSet_session _
        · rfl
  case streamWrite | streamState | streamReset | streamFind | streamPurge | sessionKeep | queueRead | beatSet |
      planHeader | planWindows | planRead | planRevert | planCommit | planCancel =>
    simp only [Op.serve, serveStreamWrite, serveStreamState, serveStreamReset, serveStreamFind, serveStreamPurge,
      serveSessionKeep, serveQueueRead, serveBeatSet, servePlanHeader, servePlanWindows, servePlanRead, servePlanRevert,
      servePlanCommit, servePlanCancel]
    repeat' split
    all_goals rfl
  case identify | unitReset | streamClear | streamRead | timeRead | noticeRead => rfl

theorem State.answer_session (r : Request) (a : Answer) : (s.answer r a).session = s.session :=
  (State.sendReply_onlySending _ _ _).session

theorem State.endTake_session : s.endTake.session = s.session := by
  unfold State.endTake
  split <;> rfl

end

end Sys2Proof.Machine
end

section
/-! SUPPORT. The holder of the session at every step (R136), and the take of a request whose requester does not hold the
session (R121, R123, R129), with the settlement of O14. -/

namespace Sys2Proof.Machine

/-! ## The holder stays -/

/-- From `s` to `t` a session that is open in both keeps its holder. -/
def State.HolderStays (s t : State) : Prop :=
  ∀ x y, s.session = some x → t.session = some y → y.holder = x.holder

theorem State.HolderStays.of_holder {s t : State}
    (h : t.session.map Session.holder = s.session.map Session.holder) : s.HolderStays t := by
  intro x y hx hy
  simpa [hx, hy] using h

theorem State.HolderStays.of_eq {s t : State} (h : t.session = s.session) : s.HolderStays t := .of_holder (by rw [h])

theorem State.HolderStays.of_none {s t : State} (h : t.session = none) : s.HolderStays t :=
  fun _ y _ hy => by rw [h] at hy; cases hy

/-- What leaves the holder, followed by what keeps it. -/
theorem State.HolderStays.after {s t u : State} (k : t.HolderStays u)
    (h : t.session.map Session.holder = s.session.map Session.holder) : s.HolderStays u := by
  intro x y hx hy
  have ht : t.session.map Session.holder = some x.holder := by rw [h, hx]; rfl
  obtain ⟨z, hz, hzx⟩ := Option.map_eq_some_iff.1 ht
  exact (k z y hz hy).trans hzx

/-- What keeps the holder, followed by what leaves the session. -/
theorem State.HolderStays.then_eq {s t u : State} (h : s.HolderStays t) (e : u.session = t.session) :
    s.HolderStays u :=
  fun x y hx hy => h x y hx (e ▸ hy)

/-! ## Requests and takes (R137, R140, R120) -/

section
variable (s : State)

/-- SESSION_OPEN opens a session only where none is, and renews only the holder's (R137). -/
theorem serveSessionOpen_holderStays (r : Request) : s.HolderStays (serveSessionOpen r s).1 := by
  unfold serveSessionOpen
  dsimp only
  split
  · exact .of_eq rfl
  · split
    · rename_i x hx
      split
      · exact .of_holder (by simp [hx])
      · exact .of_eq rfl
    · rename_i hnone
      intro x y hx hy
      rw [hnone] at hx
      cases hx

theorem Op.serve_holderStays (o : Op) (r : Request) : s.HolderStays (o.serve r s).1 := by
  by_cases hopen : o = .sessionOpen
  · subst hopen
    exact serveSessionOpen_holderStays s r
  · by_cases hclose : o = .sessionClose
    · subst hclose
      exact .of_none (State.updateDestination_session s.endSession)
    · exact .of_eq (Op.serve_session s hopen hclose r)

theorem serveOf_holderStays (o : Option Op) (r : Request) : s.HolderStays (serveOf o r s).1 := by
  cases o with
  | none => exact .of_eq rfl
  | some o => exact o.serve_holderStays s r

theorem State.handle_holderStays (o : Option Op) (r : Request) : s.HolderStays (s.handle o (serveOf o) r) := by
  unfold State.handle
  split
  · exact .of_eq (s.answer_session r _)
  · refine .then_eq (.of_holder (s.renewLease_holder r.requester)) ?_
    exact (State.sendReply_onlySending _ _ _).session
  · have hserve := (serveOf_holderStays (s.renewLease r.requester) o r).after (s.renewLease_holder r.requester)
    split <;> rename_i t he <;> rw [he] at hserve
    · exact hserve.then_eq (State.answer_session _ r _)
    · exact hserve

theorem State.takeRequest_holderStays (o : Option Op) : s.HolderStays (s.takeRequest o (serveOf o)) := by
  unfold State.takeRequest
  split
  · rename_i r rest _ _
    split
    · exact ((State.handle_holderStays (s.takeHead r rest) o r).after rfl).then_eq (State.endTake_session _)
    · exact .of_eq rfl
  · exact .of_eq rfl

theorem State.deliverRequest_holderStays (f : Frame) (arrival : Port) :
    s.HolderStays (s.deliverRequest f arrival) := by
  have hoffer := s.offerRequest_session f arrival
  unfold State.deliverRequest State.takeNext
  split
  · split
    · exact .of_eq hoffer
    · exact (State.takeRequest_holderStays _ _).after (by rw [hoffer])
  · exact .of_eq hoffer

theorem State.expireLease_holderStays : s.HolderStays s.expireLease := by
  unfold State.expireLease
  split
  · exact .of_eq rfl
  · exact .of_none ((State.trySend_onlySending _).session.trans (State.recomputeDestination_session s.endSession))

theorem State.visitNext_session : s.visitNext.session = s.session := by
  unfold State.visitNext
  split
  · rename_i r source i cleared takenAt _
    have hclear : (if s.hasSource source i then s.setEntry i none else s).session = s.session := by split <;> rfl
    dsimp only
    split
    · exact hclear
    · exact ((State.endTake_session _).trans (State.answer_session _ r _)).trans hclear
  · rfl

/-! ## Routing and the end of a frame (R10 to R17) -/

theorem State.routeControl_holderStays (p : Port) (f : Frame) : s.HolderStays (s.routeControl p f) := by
  unfold State.routeControl
  split
  · refine eitherOrder_preserves (P := s.HolderStays) ?_ ?_
    · exact ((State.deliverRequest_holderStays s.draw.2 f p).after rfl).then_eq (State.broadcastCopy_session _ p f)
    · exact (State.deliverRequest_holderStays _ f p).after (by rw [State.broadcastCopy_session]; rfl)
  · split
    · exact s.deliverRequest_holderStays f p
    · exact .of_eq (s.inTransit_session p f)

theorem State.route_holderStays (p : Port) (f : Frame) (arrival : Ticks) : s.HolderStays (s.route p f arrival) := by
  have htransit : s.HolderStays (s.inTransit p f) := .of_eq (s.inTransit_session p f)
  have hmis : s.HolderStays (s.misaddress p f) := .of_eq (s.misaddress_session p f)
  cases hk : f.kind <;> simp only [State.route, hk]
  case data =>
    split
    · exact hmis
    · exact .of_eq (s.classify_session p f arrival)
  case beat =>
    unfold State.routeBeat
    split
    · exact .of_eq (eitherOrder_session s (fun x => x.inTransit_session p f) fun x => x.reportBeat_session arrival)
    · exact htransit
  case control => exact s.routeControl_holderStays p f
  case ack =>
    unfold State.routeAck
    split
    · exact .of_eq (State.takeAck_session _ _ _)
    · exact htransit
  case reply | notice =>
    split
    · exact hmis
    · exact htransit

theorem State.endFrame_holderStays (p : Port) (bytes : List Byte) : s.HolderStays (s.endFrame p bytes) := by
  have hidle := s.setReceiver_session p .idle
  unfold State.endFrame
  split
  · exact .of_eq rfl
  · exact .of_eq hidle
  · split
    · unfold State.endReception
      dsimp only
      split
      · exact .of_eq (by simp)
      · exact .of_eq (by simp)
      · exact (State.route_holderStays _ p _ _).after (by simp)
    · exact .of_eq rfl

end

/-! ## Every event and every step -/

theorem State.Effect.holderStays {s u : State} (h : s.Effect u) : s.HolderStays u := by
  cases h with
  | nothing => exact .of_eq rfl
  | linkUp p => exact .of_eq (s.raiseLink_session p)
  | linkDown p => exact .of_eq (s.dropLink_session p)
  | frameStart p => exact .of_eq (s.startFrame_session p)
  | headerCompletion p bytes => exact .of_eq (s.completeHeader_session p bytes)
  | blockBoundary p bytes => exact .of_eq (s.crossBoundary_session p bytes)
  | surplusByte p bytes => exact .of_eq (s.takeSurplus_session p bytes)
  | endOfFrame p bytes => exact s.endFrame_holderStays p bytes
  | completion p t => exact .of_eq (State.completeTransmission_session _ p)
  | scheduledStart t => exact .of_eq (State.scheduledStart_session _)
  | windowChange p t => exact .of_eq (State.changeWindow_session _ p)
  | leaseExpiry t => exact (State.expireLease_holderStays _).after rfl
  | retryExpiry t => exact .of_eq (State.retryExpired_session _)
  | purgeVisit => exact .of_eq s.visitNext_session
  | take o => exact s.takeRequest_holderStays o

/-- The unit reset that an event may end with leaves no session (R133). -/
theorem State.HolderStays.settle {s t : State} (h : s.HolderStays t) : s.HolderStays t.settle := by
  unfold State.settle
  split
  · exact .of_none rfl
  · exact h

theorem exec_holderStays {i : Instr} {s t : State} (h : exec i s = .next t) : s.HolderStays t := by
  obtain ⟨station, held, rfl⟩ | rfl | ⟨u, hu, rfl⟩ := exec_spec h
  · exact .of_none rfl
  · exact .of_eq rfl
  · exact hu.holderStays.settle

theorem step_holderStays {s t : State} (h : step s = .next t) : s.HolderStays t := by
  obtain ⟨i, rest, _, e⟩ | ⟨_, e⟩ := step_spec s <;> rw [e] at h
  · exact (exec_holderStays h).after rfl
  · obtain e | e | e | ⟨i, e | e⟩ := idle_spec s <;> rw [e] at h
    · cases h; exact .of_eq rfl
    · cases h; exact .of_eq rfl
    · cases h; exact .of_eq rfl
    · exact exec_holderStays h
    · exact (exec_holderStays h).after rfl

/-! ## The take of another's request (R121, R123, R129) -/

/-- From `s` to `t` everything stands that a request may change only for the holder: the entries, the plans, the cycle,
beat following, the session, the notice settings, and of the ports all that sending leaves alone. -/
structure State.Guarded (s t : State) : Prop where
  table : t.table = s.table
  plans : t.plans = s.plans
  timer : t.timer = s.timer
  beat : t.beat = s.beat
  session : t.session = s.session
  settings : t.notice.settings = s.notice.settings
  portU : s.portU.OnlySending t.portU
  portD : s.portD.OnlySending t.portD

theorem State.Guarded.refl (s : State) : s.Guarded s := ⟨rfl, rfl, rfl, rfl, rfl, rfl, .refl _, .refl _⟩

theorem State.OnlySending.guarded {s t : State} (h : s.OnlySending t) : s.Guarded t :=
  ⟨h.table, h.plans, h.timer, h.beat, h.session, h.settings, h.portU, h.portD⟩

section
variable {s : State} {r : Request} (hno : s.isHolder r.requester = false)
include hno

/-- No lease is renewed for a requester that does not hold the session (R138). -/
theorem State.renewLease_of_not_holder : s.renewLease r.requester = s := by
  unfold State.isHolder at hno
  unfold State.renewLease
  split
  · rename_i x hx
    rw [hx] at hno
    exact if_neg (by simpa using hno)
  · rfl

/-- A request of another than the holder reaches step 6 only if it needs no session (R121, R123). -/
theorem State.screen_passed_needsNone {o : Option Op} (h : s.screen o r = .passed) :
    ∃ q, o = some q ∧ q.needsSession r.operands = false := by
  unfold State.screen at h
  split at h
  · cases h
  · split at h
    · cases h
    · cases o with
      | none => cases h
      | some q =>
        refine ⟨q, rfl, ?_⟩
        simp only [hno, Bool.not_false, Bool.and_true] at h
        split at h
        · cases h
        · split at h
          · cases h
          · rename_i hneeds
            simpa using hneeds

end

/-- Step 6 of a request that needs no session, SESSION_OPEN apart, changes nothing and answers (section 7.8). -/
theorem Op.serve_reads {o : Op} {r : Request} (s : State) (hn : o.needsSession r.operands = false)
    (ho : o ≠ .sessionOpen) : ∃ a, o.serve r s = (s, some a) := by
  cases o
  case sessionOpen => exact absurd rfl ho
  case identify | streamRead | timeRead | noticeRead => exact ⟨_, rfl⟩
  case streamFind | queueRead | planRead =>
    simp only [Op.serve, serveStreamFind, serveQueueRead, servePlanRead]
    repeat' split
    all_goals exact ⟨_, rfl⟩
  case counterRead =>
    have hflag : flagOf (byteAt r.operands 3) = false := hn
    simp only [Op.serve, serveCounterRead, hflag, Bool.false_eq_true, if_false]
    repeat' split
    all_goals exact ⟨_, rfl⟩
  all_goals cases hn

/-- The handling of another's request, SESSION_OPEN apart, is a reply: before it only the engine's memory and counters
change (R121, R127). -/
theorem State.handle_of_not_holder {s : State} {r : Request} {o : Option Op} (hno : s.isHolder r.requester = false)
    (ho : o ≠ some .sessionOpen) :
    ∃ e payload, e.state = s.engine.state ∧ s.handle o (serveOf o) r = (s.withEngine e).sendReply r payload := by
  have hanswer : ∀ a, ∃ e payload, e.state = s.engine.state ∧ s.answer r a = (s.withEngine e).sendReply r payload :=
    fun a => ⟨(s.storeReply r (replyPayload r a)).engine, replyPayload r a, rfl, rfl⟩
  unfold State.handle
  rw [State.renewLease_of_not_holder hno]
  split
  · exact hanswer _
  · rename_i m _
    exact ⟨(s.countManagement fun c => { c with repeats := countUp c.repeats }).engine, m.payload, rfl, rfl⟩
  · rename_i hpass
    obtain ⟨q, rfl, hneeds⟩ := State.screen_passed_needsNone hno hpass
    obtain ⟨a, ha⟩ := Op.serve_reads s hneeds (by rintro rfl; exact ho rfl)
    simp only [serveOf, ha]
    exact hanswer a

/-- The take of another's request, SESSION_OPEN apart, leaves all that only the holder's may change, and makes no unit
reset due (R121, R123). -/
theorem State.takeNext_of_not_holder {s : State} {r : Request} {rest : List Request} (h : s.Plain)
    (hq : s.engine.queue = r :: rest) (hno : s.isHolder r.requester = false)
    (ho : Op.ofCode r.op ≠ some .sessionOpen) :
    s.Guarded s.takeNext ∧ s.takeNext.engine.state ≠ .resetDue := by
  by_cases hi : s.engine.state = .idle
  · obtain ⟨e, payload, he, hhandle⟩ := State.handle_of_not_holder (s := s.takeHead r rest) hno ho
    have hx : (((s.takeHead r rest).withEngine e).sendReply r payload).engine.state = .executing := by
      rw [State.sendReply_engine _ _ _ (by simp [State.withEngine, he])]
      exact he
    have htake : s.takeNext =
        { ((s.takeHead r rest).withEngine e).sendReply r payload with
          engine := { (((s.takeHead r rest).withEngine e).sendReply r payload).engine with state := .idle } } := by
      rw [← State.endTake_executing _ hx, ← hhandle]
      simp only [State.takeNext, State.takeRequest, hi, hq, if_true]
    rw [htake]
    obtain ⟨htable, hplans, htimer, hbeat, hsession, hsettings, hU, hD⟩ :=
      (((s.takeHead r rest).withEngine e).sendReply_onlySending r payload).guarded
    exact ⟨⟨htable, hplans, htimer, hbeat, hsession, hsettings, hU, hD⟩, by simp⟩
  · rw [s.takeNext_busy hi]
    exact ⟨.refl s, h.notDue⟩

/-- Settles O14: every event keeps the holder, with one take at most in it; and another's request is refused, is a
repeat or is a read, each of which is a reply alone. -/
theorem theHolderRules : Obligations.TheHolderRules := by
  refine ⟨fun s t x y hx ht hy => step_holderStays ht x y hx hy, fun s t r rest h hq hno ho ht => ?_⟩
  obtain ⟨⟨htable, hplans, htimer, hbeat, hsession, hsettings, hU, hD⟩, hdue⟩ :=
    State.takeNext_of_not_holder h hq hno ho
  rw [exec_takeInstr_head s h.running hq, State.settle_eq _ hdue] at ht
  cases ht
  exact ⟨htable, hplans, htimer, hbeat, hsession, hsettings, hU, hD⟩

end Sys2Proof.Machine
end

section
/-! SUPPORT. The change of the notice destination with the session (R149, R158), the lease expiry (O41) and the session
requests (O50). -/

namespace Sys2Proof.Machine

/-! ## A change of destination (R149, R158) -/

section
variable (s : State)

/-- A change of destination touches the destination, the entry in flight and the retry timer alone (R158). -/
theorem State.changeDestination_onlySending (dest : Option Requester) :
    ({ s with notice := { s.notice with destination := dest } } : State).OnlySending (s.changeDestination dest) := by
  unfold State.changeDestination State.drawTieIndex
  split
  · exact State.notice_onlySending _ _ rfl rfl
  · dsimp only
    split
    · exact (State.freeCount_onlySending _ _).trans (State.notice_onlySending _ _ rfl rfl)
    · exact State.notice_onlySending _ _ rfl rfl

/-- A destination that is already in place needs no change. -/
theorem State.destination_onlySending {dest : Option Requester} (h : s.notice.destination = dest) :
    ({ s with notice := { s.notice with destination := dest } } : State).OnlySending s := by
  subst h
  exact .refl s

theorem State.recomputeDestination_onlySending :
    ({ s with notice := { s.notice with destination := s.wantedDestination } } : State).OnlySending
      s.recomputeDestination := by
  unfold State.recomputeDestination
  split
  · exact s.destination_onlySending ‹_›
  · exact s.changeDestination_onlySending _

theorem State.updateDestination_onlySending :
    ({ s with notice := { s.notice with destination := s.wantedDestination } } : State).OnlySending
      s.updateDestination := by
  unfold State.updateDestination
  split
  · exact s.destination_onlySending ‹_›
  · exact (s.changeDestination_onlySending _).trans (State.trySend_onlySending _)

/-- Outside RESETTING a recomputed destination, with the send it tries, leaves the engine alone (R126). -/
theorem State.updateDestination_engine (h : s.engine.state ≠ .resetting) : s.updateDestination.engine = s.engine := by
  unfold State.updateDestination
  split
  · rfl
  · rw [State.trySend_engine _ (by rwa [s.changeDestination_engine]), s.changeDestination_engine]

end

/-! ## The notice list within an event (R150, R152, R158) -/

theorem changeFirst_length (test : NoticeEntry → Bool) (f : NoticeEntry → NoticeEntry) (l : List NoticeEntry) :
    (changeFirst test f l).length = l.length := by
  induction l with
  | nil => rfl
  | cons x xs ih =>
    unfold changeFirst
    split <;> simp [ih]

theorem changeFirst_map_event {test : NoticeEntry → Bool} {f : NoticeEntry → NoticeEntry}
    (hf : ∀ x, (f x).event = x.event) (l : List NoticeEntry) :
    (changeFirst test f l).map NoticeEntry.event = l.map NoticeEntry.event := by
  induction l with
  | nil => rfl
  | cons x xs ih =>
    unfold changeFirst
    split <;> simp [hf, ih]

/-- Returning the entry in flight to WAITING makes the list no longer: it takes its twin in (R158). -/
theorem returnInFlight_length_le (l : List NoticeEntry) (x : NoticeEntry) (tieIndex : CycleIndex) :
    (returnInFlight l x tieIndex).length ≤ l.length := by
  unfold returnInFlight
  split
  · exact (changeFirst_length _ _ l).le
  · exact (changeFirst_length _ _ _).trans_le (List.length_filter_le _ l)

theorem State.recomputeDestination_list_length_le (s : State) :
    s.recomputeDestination.notice.list.length ≤ s.notice.list.length := by
  unfold State.recomputeDestination State.changeDestination
  split
  · exact le_rfl
  · split
    · exact le_rfl
    · exact returnInFlight_length_le _ _ _

/-- Judging an event drops no event from the list (R150). -/
theorem NoticeUnit.judge_keeps (n : NoticeUnit) (e : Event) (now : Ticks) (index : CycleIndex) :
    n.list.map NoticeEntry.event ⊆ (n.judge e now index).list.map NoticeEntry.event := by
  unfold NoticeUnit.judge
  split
  · exact List.Subset.refl _
  · split
    · dsimp only
      rw [changeFirst_map_event (f := NoticeEntry.countOne) fun _ => rfl]
      exact List.Subset.refl _
    · split
      · have hmark : NoticeEntry.event ∘ NoticeEntry.clearMark = NoticeEntry.event := by
          funext x
          simp only [Function.comp, NoticeEntry.clearMark]
          split <;> rfl
        simp [NoticeUnit.markLoss, hmark]
      · simp

/-- An enabled event stands in the list once it is judged, unless it is lost to a full list (R150). -/
theorem NoticeUnit.judge_lists {n : NoticeUnit} {e : Event} (now : Ticks) (index : CycleIndex)
    (hm : n.settings.master = true) (he : n.settings.enables e = true) (hl : n.list.length < 16) :
    e ∈ (n.judge e now index).list.map NoticeEntry.event := by
  unfold NoticeUnit.judge
  simp only [hm, he, Bool.and_self, Bool.not_true, Bool.false_eq_true, if_false]
  split
  · rename_i hany
    obtain ⟨x, hx, hfor⟩ := List.any_eq_true.1 hany
    have hevent : x.event = e := by
      simp only [NoticeEntry.isWaitingFor, Bool.and_eq_true, beq_iff_eq] at hfor
      exact hfor.2
    dsimp only
    rw [changeFirst_map_event (f := NoticeEntry.countOne) fun _ => rfl]
    exact List.mem_map.2 ⟨x, hx, hevent⟩
  · rw [if_neg (by simpa [Config.noticeListMax] using hl)]
    simp

/-! What sends a frame leaves the Notice Unit to itself, but for the QUEUE_OVERFLOW of an offer (R69, R73). -/

section
variable (s : State)

theorem State.reportDeparture_notice (o : Origin) : (s.reportDeparture o).notice = s.notice := by
  unfold State.reportDeparture
  split <;> rfl

theorem State.trySelect_notice (p : Port) : (s.trySelect p).notice = s.notice := by
  obtain e | ⟨q, f, rest, _, _, hf, e⟩ := s.trySelect_spec p <;> rw [e]
  rw [State.sendHead, hf]
  simp [State.reportDeparture_notice]

theorem State.offer_notice (p : Port) (q : QueueNo) (f : Frame) (o : Origin) : (s.offer p q f o).notice = s.notice := by
  unfold State.offer State.enqueue
  split
  · simp
  · simp [State.reportDeparture_notice]
  · dsimp only
    split <;> simp [State.trySelect_notice]

theorem State.offerNotice_keeps (p : Port) (f : Frame) :
    s.notice.list.map NoticeEntry.event ⊆ (s.offerNotice p f).notice.list.map NoticeEntry.event := by
  have hoffer := s.offer_notice p 3 f .notice
  unfold State.offerNotice
  split
  · rw [← hoffer]
    exact NoticeUnit.judge_keeps _ _ _ _
  · rw [hoffer]
    exact List.Subset.refl _

/-- Sending a notice drops no event from the list (R153). -/
theorem State.trySend_keeps : s.notice.list.map NoticeEntry.event ⊆ s.trySend.notice.list.map NoticeEntry.event := by
  unfold State.trySend State.firstSend
  split
  · exact List.Subset.refl _
  · split
    · split
      · split
        · exact List.Subset.refl _
        · rename_i x _ _ _ _ t ht
          refine List.Subset.trans ?_ (State.offerNotice_keeps _ _ _)
          obtain ⟨_, e⟩ | ⟨_, e⟩ := s.takeBlocks_spec noticeBlocks <;> rw [ht] at e <;> cases e
          dsimp only
          rw [changeFirst_map_event]
          · exact List.Subset.refl _
          · exact fun _ => rfl
      · exact List.Subset.refl _
    · exact List.Subset.refl _

end

/-! ## The lease expiry (R141) -/

/-- With no session the wanted destination is the standing one (R149). -/
theorem State.endSession_wantedDestination (s : State) :
    s.endSession.wantedDestination = s.notice.settings.standing := rfl

section
variable {s : State} {x : Session} (hx : s.session = some x)
include hx

theorem State.expireLease_eq :
    s.expireLease = (s.endSession.recomputeDestination.listEvent (.sessionExpired x.holder.station)).trySend := by
  simp [State.expireLease, hx]

/-- The expiry in its order: the change of destination, if there is one, the judgement, the send (R141, R158, R150). -/
theorem State.expireLease_judges {w : State}
    (hstands : s.notice.destination = s.notice.settings.standing → w = s.endSession)
    (hchanges : s.notice.destination ≠ s.notice.settings.standing →
      w = s.endSession.changeDestination s.notice.settings.standing) :
    s.expireLease = State.trySend { w with
      notice := w.notice.judge (.sessionExpired x.holder.station) s.localTime s.timer.index } := by
  have hw : s.endSession.recomputeDestination = w := by
    unfold State.recomputeDestination
    rw [State.endSession_wantedDestination]
    split
    · exact (hstands ‹_›).symm
    · exact (hchanges ‹_›).symm
  have hframe := s.endSession.recomputeDestination_onlySending
  rw [hw] at hframe
  rw [State.expireLease_eq hx, hw, State.listEvent, hframe.localTime, hframe.timer]
  rfl

theorem State.expireLease_onlySending :
    ({ s.endSession with notice := { s.notice with destination := s.notice.settings.standing } } : State).OnlySending
      s.expireLease := by
  rw [State.expireLease_eq hx]
  exact (s.endSession.recomputeDestination_onlySending.trans (State.listEvent_onlySending _ _)).trans
    (State.trySend_onlySending _)

/-- SESSION_EXPIRED is listed at the expiry where its kind is enabled and the list has room (R141, R150). -/
theorem State.expireLease_lists (hm : s.notice.settings.master = true)
    (hk : s.notice.settings.kinds.getLsbD 4 = true) (hl : s.notice.list.length < 16) :
    ∃ y ∈ s.expireLease.notice.list, y.event = .sessionExpired x.holder.station := by
  have hsettings : s.endSession.recomputeDestination.notice.settings = s.notice.settings :=
    s.endSession.recomputeDestination_onlySending.settings
  have hroom : s.endSession.recomputeDestination.notice.list.length < 16 :=
    (s.endSession.recomputeDestination_list_length_le).trans_lt hl
  have hlisted := NoticeUnit.judge_lists (e := .sessionExpired x.holder.station)
    s.endSession.recomputeDestination.localTime s.endSession.recomputeDestination.timer.index
    (hsettings ▸ hm) (by rw [hsettings]; exact hk) hroom
  rw [State.expireLease_eq hx]
  exact List.mem_map.1 (State.trySend_keeps _ hlisted)

end

/-- The event of a lease expiry (log entry 5). -/
theorem State.Plain.leaseExpiry {s : State} (h : s.Plain) {x : Session} (hx : s.session = some x)
    (hf : s.First x.expiry) :
    exec .leaseExpiry s = .next ({ s with localTime := max s.localTime x.expiry } : State).expireLease := by
  have hdue : s.session.map Session.expiry = some x.expiry := by rw [hx]; rfl
  have hreached : s.whenReached (s.session.map Session.expiry) State.expireLease =
      ({ s with localTime := max s.localTime x.expiry } : State).expireLease := by
    rw [hdue, State.whenReached_first hf]
  have hkept := State.expireLease_kept { s with localTime := max s.localTime x.expiry }
  refine (h.event (effect := fun s => s.whenReached (s.session.map Session.expiry) State.expireLease) ?_).trans
    (congrArg _ hreached)
  show (s.whenReached (s.session.map Session.expiry) State.expireLease).engine.state = _
  rw [hreached]
  obtain he | ⟨he, _⟩ := hkept.state
  · exact he
  · exact absurd he h.notResetting

/-- Settles O41: the expiry is the model's, at its instant; a change of destination is acted on before SESSION_EXPIRED
is judged, and sending drops no entry. -/
theorem leaseExpiryEndsTheSession : Obligations.LeaseExpiryEndsTheSession := by
  intro s h
  refine ⟨fun x hx hf => ?_, fun hnone => ?_⟩
  · rw [h.leaseExpiry hx hf]
    have hopen : ({ s with localTime := max s.localTime x.expiry } : State).session = some x := hx
    refine ⟨⟨_, rfl, State.expireLease_onlySending hopen, State.expireLease_lists hopen⟩, ?_⟩
    rintro v w rfl hstands hchanges
    exact congrArg _ (State.expireLease_judges hopen hstands hchanges)
  · have hnothing : s.whenReached (s.session.map Session.expiry) State.expireLease = s := by rw [hnone]; rfl
    refine (h.event (effect := fun s => s.whenReached (s.session.map Session.expiry) State.expireLease) ?_).trans
      (congrArg _ hnothing)
    exact congrArg (fun t : State => t.engine.state) hnothing

/-! ## The session requests (R137 to R140) -/

section
variable {u : State} {r : Request} {ms : Nat} (hms : fieldAt r.operands 0 2 = ms)
include hms

theorem serveSessionOpen_refused (h : ms < 10 ∨ 60000 < ms) : serveSessionOpen r u = (u, some ⟨.badValue, []⟩) := by
  simp only [serveSessionOpen, hms]
  exact if_pos (by simpa using h)

variable (hlo : 10 ≤ ms) (hhi : ms ≤ 60000) {now : Ticks} (hnow : u.localTime = now)
include hlo hhi

theorem serveSessionOpen_held {x : Session} (hx : u.session = some x) (hne : x.holder ≠ r.requester) :
    serveSessionOpen r u =
      (u, some ⟨.held, beBytes 2 x.holder.station.toNat ++ [portByte x.holder.port]⟩) := by
  simp only [serveSessionOpen, hms, hx]
  rw [if_neg (by simp; omega), if_neg hne]
  rfl

include hnow

theorem serveSessionOpen_renews {x : Session} (hx : u.session = some x) (he : x.holder = r.requester) :
    serveSessionOpen r u =
      ({ u with session := some ⟨r.requester, ms, now + ms * 100000⟩ },
        some ⟨.ok, [0x01] ++ beBytes 2 ms ++ beBytes 8 (now + ms * 100000)⟩) := by
  subst hnow
  simp only [serveSessionOpen, hms, hx]
  rw [if_neg (by simp; omega), if_pos he, he]
  rfl

theorem serveSessionOpen_opens (hx : u.session = none) :
    serveSessionOpen r u =
      (({ u with session := some ⟨r.requester, ms, now + ms * 100000⟩ } : State).updateDestination,
        some ⟨.ok, [0x00] ++ beBytes 2 ms ++ beBytes 8 (now + ms * 100000)⟩) := by
  subst hnow
  simp only [serveSessionOpen, hms, hx]
  rw [if_neg (by simp; omega)]
  rfl

end

/-- SESSION_CLOSE ends the session, tells whether a commit was pending, and recomputes the destination (R140, R143). -/
theorem serveSessionClose_ends (u : State) (r : Request) {plans : PlanBanks} (hp : u.plans = plans) :
    serveSessionClose r u =
      (({ u with
            session := none
            plans := if plans.commitPending then plans else plans.revert } : State).updateDestination,
        some ⟨.ok, [if plans.commitPending then 0x01 else 0x00]⟩) := by
  subst hp
  rfl

/-- The session at step 6: the holder's lease has been renewed (R138). -/
theorem State.atStep6_session (s : State) (r : Request) (rest : List Request) :
    (s.atStep6 r rest).session =
      s.session.map fun x =>
        if x.holder = r.requester then { x with expiry := s.localTime + x.leaseMs * 100000 } else x :=
  (s.takeHead r rest).renewLease_session r.requester

section
variable {s : State} {r : Request} {rest : List Request}

/-- The take of SESSION_OPEN for an accepted lease, by who holds the session (R137). -/
theorem State.Taking.sessionOpen {ms : Nat} (h : s.Taking .sessionOpen r rest) (hms : fieldAt r.operands 0 2 = ms)
    (hlo : 10 ≤ ms) (hhi : ms ≤ 60000) :
    (∀ x, s.session = some x → x.holder ≠ r.requester →
      ∃ t, exec .sessionOpen s = .next t
        ∧ (s.atStep6 r rest).Answered r .held (beBytes 2 x.holder.station.toNat ++ [portByte x.holder.port]) t)
    ∧ ∀ x, s.session = some x → x.holder = r.requester →
      ∃ t, exec .sessionOpen s = .next t
        ∧ { s.atStep6 r rest with session := some ⟨r.requester, ms, s.localTime + ms * 100000⟩ }.Answered r .ok
            ([0x01] ++ beBytes 2 ms ++ beBytes 8 (s.localTime + ms * 100000)) t := by
  have hx0 := s.atStep6_state r rest
  refine ⟨fun x hx hne => ?_, fun x hx he => ?_⟩
  · have hx6 := s.atStep6_session r rest
    rw [hx, Option.map_some, if_neg hne] at hx6
    exact h.event (serveSessionOpen_held hms hlo hhi hx6 hne) hx0
  · have hx6 := s.atStep6_session r rest
    rw [hx, Option.map_some, if_pos he] at hx6
    exact h.event (serveSessionOpen_renews hms hlo hhi (s.atStep6_localTime r rest) hx6 he) hx0

/-- The take of SESSION_KEEP answers the lease that step 6 finds renewed (R138, R139). -/
theorem State.Taking.sessionKeep (h : s.Taking .sessionKeep r rest) {x : Session} (hx : s.session = some x) :
    ∃ t, exec .sessionKeep s = .next t
      ∧ (s.atStep6 r rest).Answered r .ok (beBytes 2 x.leaseMs ++ beBytes 8 (s.localTime + x.leaseMs * 100000)) t := by
  have hholder : x.holder = r.requester := by simpa [State.isHolder, hx] using h.holder rfl
  have hx6 := s.atStep6_session r rest
  rw [hx, Option.map_some, if_pos hholder] at hx6
  have hserve : serveSessionKeep r (s.atStep6 r rest) =
      (s.atStep6 r rest, some ⟨.ok, beBytes 2 x.leaseMs ++ beBytes 8 (s.localTime + x.leaseMs * 100000)⟩) := by
    rw [serveSessionKeep, hx6]
  exact h.event hserve (s.atStep6_state r rest)

/-- A take whose step 6 changes the session to that of `u`, and with it perhaps the destination: the change and the send
that it tries come before the answer (R149, R158, R124; log entry 24). -/
theorem State.Taking.redirects {o : Op} {serve : Request → State → Served} {a : Answer} {u : State}
    {dest : Option Requester} (h : s.Taking o r rest)
    (hserve : serve r (s.atStep6 r rest) = (u.updateDestination, some a)) (he : u.engine = (s.atStep6 r rest).engine)
    (hn : u.notice = s.notice) (hw : u.wantedDestination = dest) :
    ∃ t v, runEvent s (fun s => s.takeRequest (some o) serve) = .next t
      ∧ (∀ u' : State, u' = u →
          v = if s.notice.destination = dest then u' else (u'.changeDestination dest).trySend)
      ∧ ({ u with notice := { s.notice with destination := dest } } : State).OnlySending v
      ∧ v.Answered r a.status a.results t := by
  have hx : u.engine.state = .executing := by rw [he, s.atStep6_state]
  have hengine := u.updateDestination_engine (by rw [hx]; decide)
  have hframe := u.updateDestination_onlySending
  obtain ⟨t, ht, ha⟩ := h.event hserve (by rw [hengine, hx])
  rw [hn, hw] at hframe
  refine ⟨t, u.updateDestination, ht, ?_, hframe, ha⟩
  rintro _ rfl
  rw [State.updateDestination, hn, hw]

end

/-- Settles O50: at step 6 a renewed lease keeps its holder; and an opening or a close recomputes the destination, with
the send it tries, before the answer. -/
theorem sessionRequestsAreAnswered : Obligations.SessionRequestsAreAnswered := by
  intro s r rest ms hms
  have hx0 := s.atStep6_state r rest
  refine ⟨fun h => ⟨fun hr => h.event (serveSessionOpen_refused hms hr) hx0,
    fun hlo hhi => (h.sessionOpen hms hlo hhi).1, fun hlo hhi => (h.sessionOpen hms hlo hhi).2,
    fun hlo hhi hnone => ?_⟩, fun h x hx => h.sessionKeep hx, fun h => ?_⟩
  · have hnone6 : (s.atStep6 r rest).session = none := by rw [s.atStep6_session, hnone, Option.map_none]
    exact h.redirects (serveSessionOpen_opens hms hlo hhi (s.atStep6_localTime r rest) hnone6) rfl
      (s.atStep6_notice r rest) rfl
  · exact h.redirects (serveSessionClose_ends (s.atStep6 r rest) r (s.atStep6_plans r rest)) rfl
      (s.atStep6_notice r rest) (congrArg (fun n : NoticeUnit => n.settings.standing) (s.atStep6_notice r rest))

end Sys2Proof.Machine
end

section
/-! SUPPORT. The notice list (R150 to R158): what its entries' tests say, the list around the entry in flight, and the
laws of the Notice Unit through each change of the list. -/

namespace Sys2Proof.Machine

/-! ## Entries and the changes of one entry -/

theorem NoticeEntry.isWaiting_iff {x : NoticeEntry} : x.isWaiting = true ↔ x.status = .waiting := beq_iff_eq

theorem NoticeEntry.isInFlight_iff {x : NoticeEntry} : x.isInFlight = true ↔ x.status ≠ .waiting := by
  simp [NoticeEntry.isInFlight, NoticeEntry.isWaiting]

theorem NoticeEntry.isInFlight_eq_false {x : NoticeEntry} : x.isInFlight = false ↔ x.isWaiting = true := by
  simp [NoticeEntry.isInFlight]

theorem NoticeEntry.isWaitingFor_iff {e : Event} {x : NoticeEntry} :
    x.isWaitingFor e = true ↔ x.status = .waiting ∧ x.event = e := by
  simp [NoticeEntry.isWaitingFor, NoticeEntry.isWaiting]

/-- An entry in flight by its status. -/
theorem NoticeEntry.isInFlight_of_status {x : NoticeEntry} {attempts : Nat} {mark : Bool}
    (h : x.status = .inFlight attempts mark) : x.isInFlight = true := by
  simp [NoticeEntry.isInFlight_iff, h]

theorem NoticeEntry.clearMark_of_waiting {x : NoticeEntry} (h : x.isWaiting = true) : x.clearMark = x := by
  rw [NoticeEntry.clearMark, NoticeEntry.isWaiting_iff.1 h]

/-- With no entry in flight a loss clears no mark (R157). -/
theorem map_clearMark_of_waiting {l : List NoticeEntry} (h : ∀ x ∈ l, x.isWaiting = true) :
    l.map NoticeEntry.clearMark = l :=
  (List.map_congr_left fun x hx => NoticeEntry.clearMark_of_waiting (h x hx)).trans (List.map_id l)

/-- A list that holds an entry the test picks, around the first of them. -/
theorem exists_first {test : NoticeEntry → Bool} {l : List NoticeEntry} (h : l.any test = true) :
    ∃ before x after, l = before ++ x :: after ∧ test x = true ∧ ∀ y ∈ before, test y = false := by
  obtain ⟨x, hx⟩ := List.find?_isSome.2 (List.any_eq_true.1 h) |> Option.isSome_iff_exists.1
  obtain ⟨htest, before, after, rfl, hb⟩ := List.find?_eq_some_iff_append.1 hx
  exact ⟨before, x, after, rfl, htest, fun y hy => by simpa using hb y hy⟩

/-- A change of one entry relates the lists entry by entry. -/
theorem changeFirst_forall₂ {R : NoticeEntry → NoticeEntry → Prop} {test : NoticeEntry → Bool}
    {f : NoticeEntry → NoticeEntry} (hrefl : ∀ x, R x x) (hf : ∀ x, test x = true → R x (f x)) (l : List NoticeEntry) :
    List.Forall₂ R l (changeFirst test f l) := by
  induction l with
  | nil => exact .nil
  | cons x xs ih =>
    unfold changeFirst
    split
    · exact .cons (hf x ‹_›) (List.forall₂_same.2 fun y _ => hrefl y)
    · exact .cons (hrefl x) ih

/-! ## The list around the entry in flight -/

theorem find?_isInFlight_of_waiting {l : List NoticeEntry} (h : ∀ x ∈ l, x.isWaiting = true) :
    l.find? NoticeEntry.isInFlight = none := by
  rw [List.find?_eq_none]
  intro x hx
  simp [NoticeEntry.isInFlight_eq_false.2 (h x hx)]

section
variable {before after : List NoticeEntry} {x : NoticeEntry} (hw : ∀ y ∈ before ++ after, y.isWaiting = true)
  (hx : x.isInFlight = true)
include hw

theorem isInFlight_eq_false_of_before : ∀ y ∈ before, y.isInFlight = false := fun y hy =>
  NoticeEntry.isInFlight_eq_false.2 (hw y (List.mem_append_left _ hy))

include hx

theorem filter_isWaiting_around : (before ++ x :: after).filter NoticeEntry.isWaiting = before ++ after := by
  have hx' : x.isWaiting = false := by simpa [NoticeEntry.isInFlight] using hx
  rw [List.filter_append, List.filter_cons_of_neg (by simp [hx']), ← List.filter_append, List.filter_eq_self]
  exact hw

theorem filter_isInFlight_around : (before ++ x :: after).filter NoticeEntry.isInFlight = [x] := by
  have hnone : (before ++ after).filter NoticeEntry.isInFlight = [] :=
    List.filter_eq_nil_iff.2 (List.find?_eq_none.1 (find?_isInFlight_of_waiting hw))
  rw [List.filter_append, List.append_eq_nil_iff] at hnone
  rw [List.filter_append, List.filter_cons_of_pos hx, hnone.1, hnone.2, List.nil_append]

theorem find?_isInFlight_around : (before ++ x :: after).find? NoticeEntry.isInFlight = some x :=
  List.find?_eq_some_iff_append.2
    ⟨hx, before, after, rfl, fun y hy => by simp [isInFlight_eq_false_of_before hw y hy]⟩

theorem changeFirst_isInFlight_around (f : NoticeEntry → NoticeEntry) :
    changeFirst NoticeEntry.isInFlight f (before ++ x :: after) = before ++ f x :: after :=
  changeFirst_append (isInFlight_eq_false_of_before hw) hx

end

/-! ## The laws of the Notice Unit -/

/-- The laws of `State.NoticesSound` that concern the Notice Unit alone: at most 16 entries, at most one in flight and
one WAITING for any matter, and what an entry in flight has (R150, R153, R156, R158). -/
structure NoticeUnit.Sound (n : NoticeUnit) : Prop where
  length : n.list.length ≤ Config.noticeListMax
  oneInFlight : (n.list.filter NoticeEntry.isInFlight).length ≤ 1
  waitingOnce : ((n.list.filter NoticeEntry.isWaiting).map NoticeEntry.event).Nodup
  inFlight : ∀ x ∈ n.list, x.isInFlight = true →
    x.number.isSome = true ∧ 1 ≤ x.attempts ∧ n.destination.isSome = true ∧ n.retryTimer.isSome = true

theorem State.noticesSound_iff (s : State) :
    s.NoticesSound ↔ s.notice.Sound ∧ s.notice.destination = s.wantedDestination :=
  ⟨fun ⟨hl, hone, honce, hfly, hd⟩ => ⟨⟨hl, hone, honce, hfly⟩, hd⟩,
    fun ⟨⟨hl, hone, honce, hfly⟩, hd⟩ => ⟨hl, hone, honce, hfly, hd⟩⟩

theorem NoticeUnit.default_sound : NoticeUnit.default.Sound := by
  refine ⟨?_, ?_, ?_, ?_⟩ <;> simp [NoticeUnit.default]

namespace NoticeUnit.Sound

variable {n m : NoticeUnit}

/-- A list of WAITING entries, each for another matter. -/
theorem of_waiting (hl : n.list.length ≤ Config.noticeListMax) (hw : ∀ x ∈ n.list, x.isWaiting = true)
    (hn : (n.list.map NoticeEntry.event).Nodup) : n.Sound := by
  refine ⟨hl, ?_, ?_, fun x hx hfly => ?_⟩
  · rw [List.filter_eq_nil_iff.2 (List.find?_eq_none.1 (find?_isInFlight_of_waiting hw))]
    exact Nat.zero_le 1
  · rwa [List.filter_eq_self.2 hw]
  · rw [NoticeEntry.isInFlight_eq_false.2 (hw x hx)] at hfly
    cases hfly

variable (h : n.Sound)
include h

/-- Entries may leave the list; one in flight stays only with a destination and a running timer. -/
theorem of_sublist (hs : m.list.Sublist n.list)
    (hf : ∀ x ∈ m.list, x.isInFlight = true → m.destination.isSome = true ∧ m.retryTimer.isSome = true) : m.Sound where
  length := hs.length_le.trans h.length
  oneInFlight := (hs.filter _).length_le.trans h.oneInFlight
  waitingOnce := h.waitingOnce.sublist ((hs.filter _).map _)
  inFlight x hx hfly := by
    obtain ⟨hnumber, hattempts, -, -⟩ := h.inFlight x (hs.subset hx) hfly
    exact ⟨hnumber, hattempts, hf x hx hfly⟩

/-- What keeps the list, the destination and the timer keeps the laws. -/
theorem of_eq (hl : m.list = n.list) (hd : m.destination = n.destination) (ht : m.retryTimer = n.retryTimer) :
    m.Sound :=
  h.of_sublist (by rw [hl]) fun x hx hfly => by
    obtain ⟨-, -, hdest, htimer⟩ := h.inFlight x (hl ▸ hx) hfly
    exact ⟨hd ▸ hdest, ht ▸ htimer⟩

/-- The WAITING entries alone meet the laws, whatever the timer. -/
theorem waitingOnly (hl : m.list = n.list.filter NoticeEntry.isWaiting) : m.Sound :=
  h.of_sublist (hl ▸ List.filter_sublist) fun x hx hfly => by
    rw [hl, List.mem_filter, ← NoticeEntry.isInFlight_eq_false] at hx
    rw [hx.2] at hfly
    cases hfly

/-- The list of a sound unit around its entry in flight. -/
theorem around {x : NoticeEntry} (hx : n.list.find? NoticeEntry.isInFlight = some x) :
    x.isInFlight = true
      ∧ ∃ before after, n.list = before ++ x :: after ∧ ∀ y ∈ before ++ after, y.isWaiting = true := by
  obtain ⟨hfly, before, after, hl, hb⟩ := List.find?_eq_some_iff_append.1 hx
  have hone := h.oneInFlight
  rw [hl, List.filter_append, List.filter_cons_of_pos hfly, List.length_append, List.length_cons] at hone
  have hafter : after.filter NoticeEntry.isInFlight = [] := List.eq_nil_of_length_eq_zero (by omega)
  refine ⟨hfly, before, after, hl, fun y hy => ?_⟩
  rw [← NoticeEntry.isInFlight_eq_false]
  rcases List.mem_append.1 hy with hy | hy
  · simpa using hb y hy
  · simpa using List.filter_eq_nil_iff.1 hafter y hy

end NoticeUnit.Sound

/-! ## Entries that are alike to the laws -/

/-- Two entries that the laws of the list do not tell apart, but for a number or an attempt that only the second has. -/
structure NoticeEntry.Alike (x y : NoticeEntry) : Prop where
  event : y.event = x.event
  waiting : y.isWaiting = x.isWaiting
  number : x.number.isSome = true → y.number.isSome = true
  attempts : 1 ≤ x.attempts → 1 ≤ y.attempts

theorem NoticeEntry.Alike.refl (x : NoticeEntry) : x.Alike x := ⟨rfl, rfl, id, id⟩

theorem NoticeEntry.Alike.inFlight {x y : NoticeEntry} (h : x.Alike y) : y.isInFlight = x.isInFlight :=
  congrArg not h.waiting

theorem NoticeEntry.clearMark_alike (x : NoticeEntry) : x.Alike x.clearMark := by
  unfold NoticeEntry.clearMark
  split
  · exact .refl x
  · rename_i hs
    exact ⟨rfl, by simp [NoticeEntry.isWaiting, hs], id, by simp [NoticeEntry.attempts, hs]⟩

theorem filter_isWaiting_alike {l k : List NoticeEntry} (h : List.Forall₂ NoticeEntry.Alike l k) :
    (k.filter NoticeEntry.isWaiting).map NoticeEntry.event =
      (l.filter NoticeEntry.isWaiting).map NoticeEntry.event := by
  induction h with
  | nil => rfl
  | cons hxy _ ih =>
    simp only [List.filter_cons, hxy.waiting]
    split
    · rw [List.map_cons, List.map_cons, hxy.event, ih]
    · exact ih

theorem filter_isInFlight_alike {l k : List NoticeEntry} (h : List.Forall₂ NoticeEntry.Alike l k) :
    (k.filter NoticeEntry.isInFlight).length = (l.filter NoticeEntry.isInFlight).length := by
  induction h with
  | nil => rfl
  | cons hxy _ ih =>
    simp only [List.filter_cons, hxy.inFlight]
    split
    · rw [List.length_cons, List.length_cons, ih]
    · exact ih

theorem NoticeUnit.Sound.alike {n m : NoticeUnit} (h : n.Sound) (ha : List.Forall₂ NoticeEntry.Alike n.list m.list)
    (hd : m.destination = n.destination) (ht : m.retryTimer = n.retryTimer) : m.Sound where
  length := ha.length_eq ▸ h.length
  oneInFlight := (filter_isInFlight_alike ha).trans_le h.oneInFlight
  waitingOnce := by rw [filter_isWaiting_alike ha]; exact h.waitingOnce
  inFlight y hy hfly := by
    obtain ⟨x, hx, hxy⟩ : ∃ x ∈ n.list, x.Alike y := by
      obtain ⟨i, hi, rfl⟩ := List.getElem_of_mem hy
      exact ⟨_, List.getElem_mem (ha.length_eq ▸ hi), ha.get (ha.length_eq ▸ hi) hi⟩
    obtain ⟨hnumber, hattempts, hdest, htimer⟩ := h.inFlight x hx (hxy.inFlight ▸ hfly)
    exact ⟨hxy.number hnumber, hxy.attempts hattempts, hd ▸ hdest, ht ▸ htimer⟩

/-! ## Judging, sending and returning keep the laws -/

section
variable {n m : NoticeUnit} (h : n.Sound)
include h

/-- A judged event counts in its entry, is lost, or is the only WAITING entry for its matter (R150). -/
theorem NoticeUnit.Sound.judge (e : Event) (now : Ticks) (index : CycleIndex) : (n.judge e now index).Sound := by
  unfold NoticeUnit.judge
  split
  · exact h
  · split
    · exact h.alike (changeFirst_forall₂ .refl (fun _ _ => ⟨rfl, rfl, id, id⟩) _) rfl rfl
    · rename_i hany
      split
      · exact h.alike (List.forall₂_map_right_iff.2 (List.forall₂_same.2 fun x _ => x.clearMark_alike)) rfl rfl
      · rename_i hfull
        refine ⟨?_, ?_, ?_, fun x hx hfly => ?_⟩
        · rw [List.length_append]
          exact Nat.lt_of_not_le hfull
        · rw [List.filter_append, List.length_append]
          exact h.oneInFlight
        · rw [List.filter_append, List.map_append, List.nodup_append]
          refine ⟨h.waitingOnce, List.nodup_singleton _, fun a ha b hb hab => hany ?_⟩
          obtain ⟨x, hx, rfl⟩ := List.mem_map.1 ha
          obtain ⟨hmem, hwait⟩ := List.mem_filter.1 hx
          have hevent : x.event = e := hab.trans (List.mem_singleton.1 hb)
          have hfor := NoticeEntry.isWaitingFor_iff.2 ⟨NoticeEntry.isWaiting_iff.1 hwait, hevent⟩
          exact List.any_eq_true.2 ⟨x, hmem, hfor⟩
        · rcases List.mem_append.1 hx with hx | hx
          · exact h.inFlight x hx hfly
          · rw [List.mem_singleton.1 hx] at hfly
            cases hfly

/-- With every entry WAITING, one of them may go in flight with what an entry in flight has (R153). -/
theorem NoticeUnit.Sound.flies {test : NoticeEntry → Bool} {f : NoticeEntry → NoticeEntry}
    (hw : ∀ z ∈ n.list, z.isWaiting = true) (hany : n.list.any test = true) (hm : m.list = changeFirst test f n.list)
    (hf : ∀ y, (f y).isInFlight = true ∧ (f y).number.isSome = true ∧ 1 ≤ (f y).attempts)
    (hd : m.destination.isSome = true) (ht : m.retryTimer.isSome = true) : m.Sound := by
  obtain ⟨before, x, after, hl, hx, hb⟩ := exists_first hany
  obtain ⟨hy, hnumber, hattempts⟩ := hf x
  rw [hl, changeFirst_append hb hx] at hm
  have hsub : (before ++ after).Sublist n.list := hl ▸ (List.sublist_cons_self x after).append_left before
  have hrest : ∀ z ∈ before ++ after, z.isWaiting = true := fun z hz => hw z (hsub.subset hz)
  refine ⟨?_, ?_, ?_, fun z hz hfly => ?_⟩
  · have hlen := h.length
    rw [hl] at hlen
    rwa [hm, List.length_append, List.length_cons, ← List.length_cons (a := x), ← List.length_append]
  · rw [hm, filter_isInFlight_around hrest hy]
    exact le_rfl
  · rw [hm, filter_isWaiting_around hrest hy]
    have hnodup := h.waitingOnce
    rw [List.filter_eq_self.2 hw] at hnodup
    exact hnodup.sublist (hsub.map _)
  · have hz' : z = f x := by
      have := List.mem_filter.2 ⟨hz, hfly⟩
      rw [hm, filter_isInFlight_around hrest hy] at this
      exact List.mem_singleton.1 this
    exact hz' ▸ ⟨hnumber, hattempts, hd, ht⟩

/-- The returned entry lands in its place, and no other WAITING entry is for its matter (R158). -/
theorem NoticeUnit.Sound.returnInFlight_lands {x : NoticeEntry} (hx : n.list.find? NoticeEntry.isInFlight = some x)
    (tieIndex : CycleIndex) :
    ∃ before y after, returnInFlight n.list x tieIndex = before ++ y :: after ∧ y.isWaiting = true ∧ y.event = x.event
      ∧ (before ++ after).Sublist (n.list.filter NoticeEntry.isWaiting)
      ∧ ∀ z ∈ before ++ after, z.event ≠ x.event := by
  obtain ⟨hfly, before, after, hl, hw⟩ := h.around hx
  rw [hl, filter_isWaiting_around hw hfly]
  unfold returnInFlight
  split
  · rename_i hnone
    refine ⟨before, _, after, changeFirst_isInFlight_around hw hfly _, rfl, rfl, .refl _, fun z hz he => ?_⟩
    have hmem : z ∈ before ++ x :: after := ((List.sublist_cons_self x after).append_left before).subset hz
    have hwait := NoticeEntry.isWaiting_iff.1 (hw z hz)
    exact List.find?_eq_none.1 hnone z hmem (NoticeEntry.isWaitingFor_iff.2 ⟨hwait, he⟩)
  · rename_i twin _
    have hx' : x.isWaitingFor x.event = false := by
      rw [← Bool.not_eq_true, NoticeEntry.isWaitingFor_iff]
      exact fun hboth => NoticeEntry.isInFlight_iff.1 hfly hboth.1
    have hsub : (before.filter (fun y => !y.isWaitingFor x.event)
        ++ after.filter fun y => !y.isWaitingFor x.event).Sublist (before ++ after) :=
      List.filter_append .. ▸ List.filter_sublist
    refine ⟨before.filter fun y => !y.isWaitingFor x.event, x.merge twin tieIndex,
      after.filter fun y => !y.isWaitingFor x.event, ?_, rfl, rfl, hsub, fun z hz he => ?_⟩
    · rw [List.filter_append, List.filter_cons_of_pos (by simp [hx']),
        changeFirst_isInFlight_around (fun z hz => hw z (hsub.subset hz)) hfly]
    · rw [← List.filter_append] at hz
      obtain ⟨hmem, hnot⟩ := List.mem_filter.1 hz
      rw [NoticeEntry.isWaitingFor_iff.2 ⟨NoticeEntry.isWaiting_iff.1 (hw z hmem), he⟩] at hnot
      cases hnot

/-- A list whose entry in flight has returned meets the laws, whatever the destination and the timer (R158). -/
theorem NoticeUnit.Sound.returned {x : NoticeEntry} (hx : n.list.find? NoticeEntry.isInFlight = some x)
    {tieIndex : CycleIndex} (hm : m.list = returnInFlight n.list x tieIndex) : m.Sound := by
  obtain ⟨before, y, after, hland, hy, he, hsub, hne⟩ := h.returnInFlight_lands hx tieIndex
  refine .of_waiting ?_ ?_ ?_
  · rw [hm]
    exact (returnInFlight_length_le _ _ _).trans h.length
  · intro z hz
    rw [hm, hland] at hz
    rcases List.mem_cons.1 (List.perm_middle.mem_iff.1 hz) with rfl | hz
    · exact hy
    · exact (List.mem_filter.1 (hsub.subset hz)).2
  · rw [hm, hland, (List.perm_middle.map NoticeEntry.event).nodup_iff, List.map_cons, List.nodup_cons]
    refine ⟨fun hmem => ?_, h.waitingOnce.sublist (hsub.map _)⟩
    obtain ⟨z, hz, hze⟩ := List.mem_map.1 hmem
    exact hne z hz (hze.trans he)

end

end Sys2Proof.Machine
end

section
/-! SUPPORT. The send order (R151), and what a try of a send can do (R152 to R154). -/

namespace Sys2Proof.Machine

/-! ## The send order is a stable sort (R151) -/

/-- Entry `x` may stand before entry `y` in a send order: `y` does not lead it. -/
abbrev NoticeEntry.mayPrecede (x y : NoticeEntry) : Prop := y.leads x = false

theorem NoticeEntry.mayPrecede_iff {x y : NoticeEntry} :
    x.mayPrecede y ↔ x.event.priority < y.event.priority
      ∨ x.event.priority = y.event.priority ∧ x.firstTime ≤ y.firstTime := by
  simp only [NoticeEntry.mayPrecede, NoticeEntry.leads, Bool.or_eq_false_iff, Bool.and_eq_false_iff,
    decide_eq_false_iff_not, beq_eq_false_iff_ne]
  grind

theorem insertEntry_eq (x : NoticeEntry) (l : List NoticeEntry) :
    insertEntry x l = l.orderedInsert NoticeEntry.mayPrecede x := by
  induction l with
  | nil => rfl
  | cons y ys ih =>
    rw [insertEntry, List.orderedInsert_cons, ih]
    by_cases hl : y.leads x = true
    · rw [if_pos hl, if_neg (Bool.not_eq_false _ ▸ hl)]
    · rw [if_neg hl, if_pos (Bool.eq_false_iff.2 hl)]

theorem sendOrder_eq (l : List NoticeEntry) :
    sendOrder l = (l.filter NoticeEntry.isWaiting).insertionSort NoticeEntry.mayPrecede := by
  unfold sendOrder List.insertionSort
  congr 1
  funext x k
  exact insertEntry_eq x k

theorem sendOrder_perm (l : List NoticeEntry) : (sendOrder l).Perm (l.filter NoticeEntry.isWaiting) :=
  sendOrder_eq l ▸ List.perm_insertionSort _ _

theorem sendOrder_pairwise (l : List NoticeEntry) : (sendOrder l).Pairwise NoticeEntry.mayPrecede := by
  have htotal : Std.Total NoticeEntry.mayPrecede := ⟨fun x y => by simp only [NoticeEntry.mayPrecede_iff]; grind⟩
  have htrans : IsTrans NoticeEntry NoticeEntry.mayPrecede :=
    ⟨fun x y z => by simp only [NoticeEntry.mayPrecede_iff]; grind⟩
  exact sendOrder_eq l ▸ List.pairwise_insertionSort _ _

/-- Entries that a test holds equal in priority and time stand in the send order as in the list (R151). -/
theorem sendOrder_stable (l : List NoticeEntry) {test : NoticeEntry → Bool}
    (h : ∀ x y, test x = true → test y = true → x.mayPrecede y) :
    (sendOrder l).filter test = (l.filter NoticeEntry.isWaiting).filter test := by
  have hsorted : ((l.filter NoticeEntry.isWaiting).filter test).Pairwise NoticeEntry.mayPrecede :=
    List.pairwise_of_forall_mem_list fun x hx y hy => h x y (List.mem_filter.1 hx).2 (List.mem_filter.1 hy).2
  have hsub := (List.sublist_insertionSort hsorted List.filter_sublist).filter test
  rw [List.filter_eq_self.2 fun x hx => (List.mem_filter.1 hx).2, ← sendOrder_eq] at hsub
  exact (hsub.eq_of_length ((sendOrder_perm l).filter test).length_eq.symm).symm

theorem mem_of_sendOrder {l waiting : List NoticeEntry} {x : NoticeEntry} (h : sendOrder l = x :: waiting) :
    x ∈ l ∧ x.isWaiting = true :=
  List.mem_filter.1 ((sendOrder_perm l).subset (h ▸ List.mem_cons_self))

/-! ## When nothing is sent, and what a send is (R152) -/

/-- A send is possible for the entry `x` and the destination `dest` (R152). -/
structure State.SendsNext (s : State) (dest : Requester) (x : NoticeEntry) : Prop where
  waiting : ∀ y ∈ s.notice.list, y.isWaiting = true
  stopped : s.notice.retryTimer = none
  master : s.notice.settings.master = true
  destination : s.notice.destination = some dest
  up : (s.port dest.port).link = .up
  leading : ∃ others, sendOrder s.notice.list = x :: others

theorem State.SendsNext.trySend {s : State} {dest : Requester} {x : NoticeEntry} (h : s.SendsNext dest x) :
    s.trySend = s.firstSend dest x := by
  obtain ⟨others, hlead⟩ := h.leading
  have hnone : s.notice.list.any NoticeEntry.isInFlight = false :=
    List.any_eq_false.2 (List.find?_eq_none.1 (find?_isInFlight_of_waiting h.waiting))
  rw [State.trySend, if_neg (by simp [hnone, h.stopped, h.master]), h.destination, hlead]
  exact if_pos h.up

/-- A try sends the leading entry, or sends nothing and changes nothing (R152). -/
theorem State.trySend_spec (s : State) : s.trySend = s ∨ ∃ dest x, s.SendsNext dest x := by
  by_cases hq : (s.notice.list.any NoticeEntry.isInFlight || s.notice.retryTimer.isSome || !s.notice.settings.master)
      = true
  · exact .inl (if_pos hq)
  · rw [State.trySend, if_neg hq]
    simp only [Bool.or_eq_true, not_or, Bool.not_eq_true, List.any_eq_false, Bool.not_eq_false',
      Option.isSome_eq_false_iff, Option.isNone_iff_eq_none] at hq
    obtain ⟨⟨hnone, hstop⟩, hmaster⟩ := hq
    have hwait : ∀ y ∈ s.notice.list, y.isWaiting = true := fun y hy =>
      NoticeEntry.isInFlight_eq_false.1 (hnone y hy)
    split
    · rename_i dest x others hdest hlead
      split
      · rename_i hup
        exact .inr ⟨dest, x, hwait, hstop, hmaster, hdest, hup, others, hlead⟩
      · exact .inl rfl
    · exact .inl rfl

end Sys2Proof.Machine
end

section
/-! SUPPORT. The laws of the Notice Unit through the operations of chapter 9: sending, confirmation, retry, the change
of destination and the settings (R149 to R160). -/

namespace Sys2Proof.Machine

/-! ## Sending and retrying keep the laws of the unit -/

section
variable {s : State} (h : s.notice.Sound)
include h

theorem State.offerNotice_sound (p : Port) (f : Frame) : (s.offerNotice p f).notice.Sound := by
  have hoffer : (s.offer p 3 f .notice).notice.Sound := s.offer_notice p 3 f .notice ▸ h
  unfold State.offerNotice
  split
  · exact hoffer.judge _ _ _
  · exact hoffer

/-- A send puts one WAITING entry in flight, or starts the timer alone (R153). -/
theorem State.trySend_sound : s.trySend.notice.Sound := by
  obtain e | ⟨dest, x, hnext⟩ := s.trySend_spec
  · rwa [e]
  · rw [hnext.trySend]
    unfold State.firstSend
    obtain ⟨_, e⟩ | ⟨_, e⟩ := s.takeBlocks_spec noticeBlocks <;> rw [e]
    · obtain ⟨others, hlead⟩ := hnext.leading
      obtain ⟨hmem, hwait⟩ := mem_of_sendOrder hlead
      have hany : s.notice.list.any (NoticeEntry.isWaitingFor x.event) = true :=
        List.any_eq_true.2 ⟨x, hmem, NoticeEntry.isWaitingFor_iff.2 ⟨NoticeEntry.isWaiting_iff.1 hwait, rfl⟩⟩
      refine State.offerNotice_sound (h.flies hnext.waiting hany rfl (fun y => ?_) ?_ rfl) _ _
      · exact ⟨rfl, rfl, Nat.le_refl 1⟩
      · exact congrArg Option.isSome hnext.destination
    · exact h.waitingOnly (List.filter_eq_self.2 hnext.waiting).symm

theorem State.takeAck_sound (station : Half) (payload : List Byte) : (s.takeAck station payload).notice.Sound := by
  unfold State.takeAck
  dsimp only
  split
  · exact h.of_eq rfl rfl rfl
  · exact State.trySend_sound (h.waitingOnly rfl)

end

/-- An entry in flight stays so with another attempt made. -/
theorem NoticeEntry.retried_alike {x : NoticeEntry} (hx : x.isInFlight = true) (attempts : Nat) (mark : Bool) :
    x.Alike { x with status := .inFlight (attempts + 1) mark } where
  event := rfl
  waiting := congrArg not hx.symm |>.trans (Bool.not_not _)
  number := id
  attempts _ := Nat.le_add_left 1 attempts

/-- A retry starts the timer again, whatever becomes of the frame (R156). -/
theorem State.retryNotice_sound {s : State} (h : { s.notice with retryTimer := some s.retryExpiry }.Sound)
    (x : NoticeEntry) (attempts : Nat) : (s.retryNotice x attempts).notice.Sound := by
  have hagain : ∀ {m : NoticeUnit} {mark : Bool},
      m.list = changeFirst NoticeEntry.isInFlight (fun y => { y with status := .inFlight (attempts + 1) mark })
        s.notice.list →
      m.destination = s.notice.destination → m.retryTimer = some s.retryExpiry → m.Sound := fun hl hd ht =>
    h.alike (hl ▸ changeFirst_forall₂ .refl (fun _ hy => NoticeEntry.retried_alike hy attempts _) _) hd ht
  unfold State.retryNotice
  dsimp only
  split
  · exact hagain (mark := x.lostMark) rfl rfl rfl
  · split
    · exact hagain (mark := x.lostMark) rfl rfl rfl
    · obtain ⟨_, e⟩ | ⟨_, e⟩ := s.takeBlocks_spec noticeBlocks <;> rw [e]
      · refine State.offerNotice_sound ?_ _ _
        exact hagain (mark := s.notice.lostFlag) rfl rfl rfl
      · exact h

/-- The expiry stops the timer; an entry in flight is sent again or leaves (R156). -/
theorem State.retryExpired_sound {s : State} (h : s.notice.Sound) : s.retryExpired.notice.Sound := by
  unfold State.retryExpired
  dsimp only
  split
  · rename_i hnone
    refine State.trySend_sound (h.of_sublist (.refl _) fun x hx hfly => ?_)
    exact absurd hfly (List.find?_eq_none.1 hnone x hx)
  · rename_i x hx
    split
    · rename_i hwait
      exact absurd hwait (NoticeEntry.isInFlight_iff.1 (List.find?_some hx))
    · split
      · refine State.retryNotice_sound (s := { s with notice := { s.notice with retryTimer := none } })
          (h.of_sublist (.refl _) fun y hy hfly => ?_) _ _
        obtain ⟨-, -, hdest, -⟩ := h.inFlight y hy hfly
        exact ⟨hdest, rfl⟩
      · exact State.trySend_sound (h.waitingOnly (map_clearMark_of_waiting fun x hx => (List.mem_filter.1 hx).2))

/-! ## The change of destination keeps the laws of the unit -/

section
variable {s : State} (h : s.notice.Sound)
include h

theorem State.changeDestination_sound (dest : Option Requester) : (s.changeDestination dest).notice.Sound := by
  unfold State.changeDestination
  split
  · rename_i hnone
    exact h.of_sublist (.refl _) fun x hx hfly => absurd hfly (List.find?_eq_none.1 hnone x hx)
  · rename_i x hx
    exact h.returned hx rfl

theorem State.recomputeDestination_sound : s.recomputeDestination.notice.Sound := by
  unfold State.recomputeDestination
  split
  · exact h
  · exact State.changeDestination_sound h _

theorem State.updateDestination_sound : s.updateDestination.notice.Sound := by
  unfold State.updateDestination
  split
  · exact h
  · exact State.trySend_sound (State.changeDestination_sound h _)

/-- NOTICE_SET removes WAITING entries alone (R159, R160). -/
theorem State.setNotices_sound (x : NoticeSettings) : (s.setNotices x).notice.Sound := by
  refine State.trySend_sound (State.recomputeDestination_sound ?_)
  refine h.of_sublist List.filter_sublist fun y hy hfly => ?_
  obtain ⟨-, -, hdest, htimer⟩ := h.inFlight y (List.mem_of_mem_filter hy) hfly
  exact ⟨hdest, htimer⟩

end

/-! ## The destination that R149 gives -/

/-- The destination that R149 gives depends on the holder of the session and the standing destination alone. -/
theorem State.wantedDestination_congr {s t : State}
    (hx : t.session.map Session.holder = s.session.map Session.holder)
    (hn : t.notice.settings = s.notice.settings) : t.wantedDestination = s.wantedDestination := by
  have hwanted : ∀ u : State, u.wantedDestination = (u.session.map Session.holder).or u.notice.settings.standing := by
    intro u
    unfold State.wantedDestination
    cases u.session <;> rfl
  rw [hwanted, hwanted, hx, hn]

theorem State.OnlySending.wantedDestination {s t : State} (h : s.OnlySending t) :
    t.wantedDestination = s.wantedDestination :=
  State.wantedDestination_congr (congrArg _ h.session) h.settings

/-- A recomputed destination is the one R149 gives, and sending leaves it so. -/
theorem State.recomputeDestination_destination (s : State) :
    s.recomputeDestination.notice.destination = s.recomputeDestination.wantedDestination := by
  have hframe := s.recomputeDestination_onlySending
  rw [hframe.wantedDestination, hframe.destination]
  rfl

theorem State.updateDestination_destination (s : State) :
    s.updateDestination.notice.destination = s.updateDestination.wantedDestination := by
  have hframe := s.updateDestination_onlySending
  rw [hframe.wantedDestination, hframe.destination]
  rfl

/-! ## The law as a relation between states -/

/-- From `s` to `t` the laws of the Notice Unit are kept, and so is the destination that R149 gives. -/
structure State.NoticesKept (s t : State) : Prop where
  sound : s.notice.Sound → t.notice.Sound
  destination : s.notice.destination = s.wantedDestination → t.notice.destination = t.wantedDestination

theorem State.NoticesKept.noticesSound {s t : State} (h : s.NoticesKept t) (hs : s.NoticesSound) : t.NoticesSound := by
  rw [State.noticesSound_iff] at hs ⊢
  exact ⟨h.sound hs.1, h.destination hs.2⟩

theorem State.NoticesKept.refl (s : State) : s.NoticesKept s := ⟨id, id⟩

theorem State.NoticesKept.trans {s t u : State} (h : s.NoticesKept t) (k : t.NoticesKept u) : s.NoticesKept u :=
  ⟨k.sound ∘ h.sound, k.destination ∘ h.destination⟩

/-- What leaves the Notice Unit and the holder alone. -/
theorem State.NoticesKept.of_eq {s t : State} (hn : t.notice = s.notice)
    (hx : t.session.map Session.holder = s.session.map Session.holder) : s.NoticesKept t := by
  refine ⟨fun h => hn ▸ h, fun h => ?_⟩
  rw [State.wantedDestination_congr hx (congrArg _ hn), hn]
  exact h

/-- What only sends keeps the destination, so it need only keep the laws of the unit. -/
theorem State.OnlySending.noticesKept {s t : State} (h : s.OnlySending t)
    (hs : s.notice.Sound → t.notice.Sound) : s.NoticesKept t := by
  refine ⟨hs, fun hd => ?_⟩
  rw [h.destination, h.wantedDestination]
  exact hd

/-- What only sends and leaves the Notice Unit alone. -/
theorem State.OnlySending.noticesKept_of_eq {s t : State} (h : s.OnlySending t) (hn : t.notice = s.notice) :
    s.NoticesKept t :=
  .of_eq hn (congrArg _ h.session)

theorem eitherOrder_noticesKept {f g : State → State} (s : State) (hf : ∀ x : State, x.NoticesKept (f x))
    (hg : ∀ x : State, x.NoticesKept (g x)) : s.NoticesKept (eitherOrder f g s) := by
  have hdraw : s.NoticesKept s.draw.2 := .of_eq rfl rfl
  exact eitherOrder_preserves (P := s.NoticesKept) ((hdraw.trans (hf _)).trans (hg _))
    ((hdraw.trans (hg _)).trans (hf _))

section
variable (s : State)

theorem State.trySelect_noticesKept (p : Port) : s.NoticesKept (s.trySelect p) :=
  (s.trySelect_onlySending p).noticesKept_of_eq (s.trySelect_notice p)

theorem State.trySend_noticesKept : s.NoticesKept s.trySend := s.trySend_onlySending.noticesKept State.trySend_sound

theorem State.listEvent_noticesKept (e : Event) : s.NoticesKept (s.listEvent e) :=
  (s.listEvent_onlySending e).noticesKept fun h => h.judge _ _ _

theorem State.raise_noticesKept (e : Event) : s.NoticesKept (s.raise e) :=
  (s.listEvent_noticesKept e).trans (State.trySend_noticesKept _)

theorem State.offerFrame_noticesKept (p : Port) (q : QueueNo) (f : Frame) (o : Origin) :
    s.NoticesKept (s.offerFrame p q f o) := by
  have hoffer := (s.offer_onlySending p q f o).noticesKept_of_eq (s.offer_notice p q f o)
  unfold State.offerFrame
  split
  · exact hoffer.trans (State.raise_noticesKept _ _)
  · exact hoffer

/-- An ACK only sends: it stops the timer, takes an entry from the list and tries a send, or is stray (R155). -/
theorem State.takeAck_onlySending (station : Half) (payload : List Byte) :
    s.OnlySending (s.takeAck station payload) := by
  unfold State.takeAck
  dsimp only
  split
  · exact s.notice_onlySending _ rfl rfl
  · refine .trans ?_ (State.trySend_onlySending _)
    exact s.notice_onlySending _ rfl rfl

theorem State.retryNotice_onlySending (x : NoticeEntry) (attempts : Nat) :
    s.OnlySending (s.retryNotice x attempts) := by
  unfold State.retryNotice
  dsimp only
  split
  · exact s.notice_onlySending _ rfl rfl
  · split
    · exact s.notice_onlySending _ rfl rfl
    · obtain ⟨_, e⟩ | ⟨_, e⟩ := s.takeBlocks_spec noticeBlocks <;> rw [e]
      · refine ((s.pool_onlySending (s.pool - noticeBlocks)).trans ?_).trans (State.offerNotice_onlySending _ _ _)
        exact State.notice_onlySending _ _ rfl rfl
      · exact s.notice_onlySending _ rfl rfl

/-- The expiry of the retry timer only sends (R156). -/
theorem State.retryExpired_onlySending : s.OnlySending s.retryExpired := by
  have hstop : s.OnlySending { s with notice := { s.notice with retryTimer := none } } :=
    s.notice_onlySending _ rfl rfl
  unfold State.retryExpired
  dsimp only
  split
  · exact hstop.trans (State.trySend_onlySending _)
  · split
    · exact hstop
    · split
      · exact hstop.trans (State.retryNotice_onlySending _ _ _)
      · refine .trans ?_ (State.trySend_onlySending _)
        exact s.notice_onlySending _ rfl rfl

theorem State.takeAck_noticesKept (station : Half) (payload : List Byte) :
    s.NoticesKept (s.takeAck station payload) :=
  (s.takeAck_onlySending station payload).noticesKept fun h => State.takeAck_sound h station payload

theorem State.retryExpired_noticesKept : s.NoticesKept s.retryExpired :=
  s.retryExpired_onlySending.noticesKept State.retryExpired_sound

/-- A change of the session alone, followed by the recomputation of the destination (R149). -/
theorem State.updateDestination_noticesKept {t : State} (hn : t.notice = s.notice) :
    s.NoticesKept t.updateDestination :=
  ⟨fun h => State.updateDestination_sound (hn ▸ h), fun _ => t.updateDestination_destination⟩

theorem State.setNotices_noticesKept (x : NoticeSettings) : s.NoticesKept (s.setNotices x) :=
  ⟨fun h => State.setNotices_sound h x, fun _ =>
    (State.trySend_noticesKept _).destination (State.recomputeDestination_destination _)⟩

end

end Sys2Proof.Machine
end

section
/-! SUPPORT. The laws of the Notice Unit through the events of the other blocks, and at every step (O9). -/

namespace Sys2Proof.Machine

/-! ## What leaves the Notice Unit alone (chapters 1, 4 and 7) -/

section
variable (s : State)

theorem State.modPort_noticesKept (p : Port) (f : PortState → PortState) : s.NoticesKept (s.modPort p f) :=
  .of_eq (s.modPort_notice p f) (congrArg _ (s.modPort_session p f))

theorem State.countPort_noticesKept (p : Port) (f : PortCounters → PortCounters) : s.NoticesKept (s.countPort p f) :=
  s.modPort_noticesKept p _

theorem State.countQueue_noticesKept (p : Port) (q : QueueNo) (f : QueueCounters → QueueCounters) :
    s.NoticesKept (s.countQueue p q f) :=
  .of_eq (s.countQueue_notice p q f) (congrArg _ (s.countQueue_session p q f))

theorem State.returnBlocks_noticesKept (n : Nat) : s.NoticesKept (s.returnBlocks n) := .of_eq rfl rfl

theorem State.ageQueue_notice (p : Port) (q : QueueNo) : (s.ageQueue p q).notice = s.notice := by
  unfold State.ageQueue
  dsimp only
  split
  · rfl
  · rw [State.reportDepartures_eq]; simp

theorem State.startFrame_notice (p : Port) : (s.startFrame p).notice = s.notice := by
  unfold State.startFrame
  split
  · obtain ⟨_, e⟩ | ⟨_, e⟩ := s.takeBlocks_spec 1 <;> rw [e] <;> simp
  · rfl

theorem State.abandon_notice (p : Port) (bytes : List Byte) (f : PortCounters → PortCounters) :
    (s.abandon p bytes f).notice = s.notice := by simp [State.abandon]

theorem State.completeHeader_notice (p : Port) (bytes : List Byte) :
    (s.completeHeader p bytes).notice = s.notice := by
  unfold State.completeHeader
  split
  · split_ifs
    · rfl
    · exact s.abandon_notice p _ _
    · exact s.abandon_notice p _ _
    · exact s.setReceiver_notice p _
  · rfl

theorem State.crossBoundary_notice (p : Port) (bytes : List Byte) : (s.crossBoundary p bytes).notice = s.notice := by
  unfold State.crossBoundary
  split
  · split_ifs
    · exact State.setReceiver_notice _ p _
    · exact s.abandon_notice p _ _
    · rfl
  · rfl

theorem State.takeSurplus_notice (p : Port) (bytes : List Byte) : (s.takeSurplus p bytes).notice = s.notice := by
  unfold State.takeSurplus
  split
  · split
    · exact s.abandon_notice p _ _
    · rfl
  · rfl

theorem State.completeTransmission_notice (p : Port) : (s.completeTransmission p).notice = s.notice := by
  unfold State.completeTransmission
  split
  · rfl
  · exact (State.trySelect_notice _ p).trans (by simp)

theorem State.dropLink_notice (p : Port) : (s.dropLink p).notice = s.notice := by
  cases hl : (s.port p).link with
  | down => rw [s.dropLink_down p hl]
  | up =>
    rw [s.dropLink_eq p hl]
    exact s.modPort_notice p PortState.dropped

theorem State.offerRequest_notice (f : Frame) (arrival : Port) : (s.offerRequest f arrival).notice = s.notice := by
  unfold State.offerRequest
  split_ifs <;> rfl

theorem State.endTake_notice : s.endTake.notice = s.notice := by
  unfold State.endTake
  split <;> rfl

/-- The requests whose step 6 can change the Notice Unit (R137, R140, R159, R166). -/
def Op.touchesNotices (o : Op) : Prop := o ∈ [Op.sessionOpen, .sessionClose, .noticeSet, .counterRead]

/-- Step 6 of every other request leaves the Notice Unit as it is. -/
theorem Op.serve_notice {o : Op} (h : ¬ o.touchesNotices) (r : Request) : (o.serve r s).1.notice = s.notice := by
  cases o
  case sessionOpen | sessionClose | noticeSet | counterRead => exact absurd (by simp [Op.touchesNotices]) h
  case unlistedSet =>
    simp only [Op.serve, serveUnlistedSet]
    split
    · exact s.modPort_notice _ _
    · rfl
  case queueSet =>
    simp only [Op.serve, serveQueueSet]
    split
    · split
      · exact s.modQueue_notice _ _ _
      · rfl
    · rfl
  case streamWrite | streamState | streamReset | streamFind | streamPurge | sessionKeep | queueRead | beatSet |
      planHeader | planWindows | planRead | planRevert | planCommit | planCancel =>
    simp only [Op.serve, serveStreamWrite, serveStreamState, serveStreamReset, serveStreamFind, serveStreamPurge,
      serveSessionKeep, serveQueueRead, serveBeatSet, servePlanHeader, servePlanWindows, servePlanRead,
      servePlanRevert, servePlanCommit, servePlanCancel]
    repeat' split
    all_goals rfl
  case identify | unitReset | streamClear | streamRead | timeRead | noticeRead => rfl

/-! ## Cycles and beats (R83, R86 to R91) -/

theorem runWork_noticesKept (w : Work) : s.NoticesKept (runWork w s) := by
  cases w with
  | age p q => exact (s.ageQueue_onlySending p q).noticesKept_of_eq (s.ageQueue_notice p q)
  | select p => exact s.trySelect_noticesKept p
  | raise e => exact s.raise_noticesKept e

theorem inAnyOrder_noticesKept (l : List Work) : s.NoticesKept (inAnyOrder runWork l s) :=
  inAnyOrder_preserves (P := s.NoticesKept) (fun _ h => h.trans (.of_eq rfl rfl))
    (fun w x h => h.trans (runWork_noticesKept x w)) l s (.refl s)

theorem State.scheduledStart_noticesKept : s.NoticesKept s.scheduledStart := by
  refine .trans ?_ (inAnyOrder_noticesKept (s.startCycle s.timer.scheduledEnd false) _)
  exact .of_eq rfl rfl

theorem State.lockingBeat_noticesKept (t : Ticks) : s.NoticesKept (s.lockingBeat t) := by
  have hlock : s.NoticesKept s.lock := .of_eq rfl rfl
  unfold State.lockingBeat
  split
  · exact hlock.trans (State.raise_noticesKept _ _)
  · refine .trans ?_ (inAnyOrder_noticesKept _ _)
    exact .of_eq rfl rfl

theorem State.reAnchor_noticesKept (t : Ticks) : s.NoticesKept (s.reAnchor t) := by
  refine .trans (.trans ?_ (State.trySelect_noticesKept _ .u)) (State.trySelect_noticesKept _ .d)
  exact .of_eq rfl rfl

theorem State.beatFault_noticesKept : s.NoticesKept s.beatFault := by
  unfold State.beatFault
  dsimp only
  split
  · refine .trans ?_ (State.raise_noticesKept _ _)
    exact .of_eq rfl rfl
  · exact .of_eq rfl rfl

theorem State.firstBeat_noticesKept (t : Ticks) : s.NoticesKept (s.firstBeat t) := by
  unfold State.firstBeat
  dsimp only
  split
  · split
    · exact s.reAnchor_noticesKept t
    · exact s.beatFault_noticesKept
  · split
    · unfold State.earlyBeat
      refine .trans ?_ (inAnyOrder_noticesKept _ _)
      exact .of_eq rfl rfl
    · exact s.beatFault_noticesKept

theorem State.reportBeat_noticesKept (t : Ticks) : s.NoticesKept (s.reportBeat t) := by
  have hcount : ∀ f, s.NoticesKept (s.countBeat f) := fun _ => .of_eq rfl rfl
  unfold State.reportBeat
  split
  · exact .refl s
  · exact (hcount _).trans (State.lockingBeat_noticesKept _ t)
  · exact (hcount _).trans (State.lockingBeat_noticesKept _ t)
  · dsimp only
    split
    · exact .of_eq rfl rfl
    · exact (hcount _).trans (State.firstBeat_noticesKept _ t)

/-! ## Requests and takes (chapters 7 and 8) -/

/-- Clearing the counters of the Notice Unit keeps its laws (R166). -/
theorem State.clearSet_noticesKept (c : CounterSet) : s.NoticesKept (s.clearSet c) := by
  unfold State.clearSet
  cases c with
  | port p => exact s.countPort_noticesKept p _
  | queue p q => exact s.countQueue_noticesKept p q _
  | gate p => exact s.modPort_noticesKept p _
  | notice => exact ⟨fun h => h.of_eq rfl rfl rfl, id⟩
  | stream _ | beat | management => exact .of_eq rfl rfl

theorem serveSessionOpen_noticesKept (r : Request) : s.NoticesKept (serveSessionOpen r s).1 := by
  unfold serveSessionOpen
  dsimp only
  split
  · exact .refl s
  · split
    · rename_i x hx
      split
      · exact .of_eq rfl (by rw [hx]; rfl)
      · exact .refl s
    · exact s.updateDestination_noticesKept rfl

theorem Op.serve_noticesKept (o : Op) (r : Request) : s.NoticesKept (o.serve r s).1 := by
  by_cases ho : o.touchesNotices
  · simp only [Op.touchesNotices, List.mem_cons, List.not_mem_nil, or_false] at ho
    rcases ho with rfl | rfl | rfl | rfl
    · exact serveSessionOpen_noticesKept s r
    · exact s.updateDestination_noticesKept (t := s.endSession) rfl
    · simp only [Op.serve, serveNoticeSet]
      split
      · exact s.setNotices_noticesKept _
      · exact .refl s
    · simp only [Op.serve, serveCounterRead]
      split
      · exact .refl s
      · split
        · exact .refl s
        · dsimp only
          split
          · exact s.clearSet_noticesKept _
          · exact .refl s
  · have hx : (o.serve r s).1.session = s.session :=
      o.serve_session s (by rintro rfl; exact ho (by simp [Op.touchesNotices]))
        (by rintro rfl; exact ho (by simp [Op.touchesNotices])) r
    exact .of_eq (o.serve_notice s ho r) (congrArg _ hx)

theorem serveOf_noticesKept (o : Option Op) (r : Request) : s.NoticesKept (serveOf o r s).1 := by
  cases o with
  | none => exact .refl s
  | some o => exact o.serve_noticesKept s r

theorem State.sendReply_noticesKept (r : Request) (payload : List Byte) : s.NoticesKept (s.sendReply r payload) := by
  have hdrop : s.NoticesKept s.dropReply := by
    refine s.dropReply_onlySending.noticesKept_of_eq ?_
    unfold State.dropReply
    dsimp only
    split <;> rfl
  unfold State.sendReply
  dsimp only
  split
  · exact hdrop
  · obtain ⟨_, e⟩ | ⟨_, e⟩ := s.takeBlocks_spec (s.replyFrame r payload).blocks <;> rw [e]
    · refine .trans ?_ (State.offerFrame_noticesKept _ _ _ _ _)
      exact .of_eq rfl rfl
    · exact hdrop

theorem State.answer_noticesKept (r : Request) (a : Answer) : s.NoticesKept (s.answer r a) := by
  have hstore : s.NoticesKept (s.storeReply r (replyPayload r a)) := .of_eq rfl rfl
  exact hstore.trans (State.sendReply_noticesKept _ r (replyPayload r a))

theorem State.renewLease_noticesKept (q : Requester) : s.NoticesKept (s.renewLease q) :=
  .of_eq (s.renewLease_notice q) (s.renewLease_holder q)

theorem State.endTake_noticesKept : s.NoticesKept s.endTake :=
  .of_eq s.endTake_notice (congrArg _ s.endTake_session)

theorem State.handle_noticesKept (o o' : Option Op) (r : Request) : s.NoticesKept (s.handle o (serveOf o') r) := by
  have hlease := s.renewLease_noticesKept r.requester
  unfold State.handle
  split
  · exact s.answer_noticesKept r _
  · refine (hlease.trans ?_).trans (State.sendReply_noticesKept _ r _)
    exact .of_eq rfl rfl
  · have hserve := hlease.trans (serveOf_noticesKept (s.renewLease r.requester) o' r)
    split <;> rename_i t he <;> rw [he] at hserve
    · exact hserve.trans (State.answer_noticesKept _ r _)
    · exact hserve

theorem State.takeRequest_noticesKept (o : Option Op) : s.NoticesKept (s.takeRequest o (serveOf o)) := by
  unfold State.takeRequest
  split
  · rename_i r rest _ _
    have hhead : s.NoticesKept (s.takeHead r rest) := .of_eq rfl rfl
    split
    · exact (hhead.trans (State.handle_noticesKept _ o o r)).trans (State.endTake_noticesKept _)
    · exact .refl s
  · exact .refl s

theorem State.deliverRequest_noticesKept (f : Frame) (arrival : Port) :
    s.NoticesKept (s.deliverRequest f arrival) := by
  have hoffer : s.NoticesKept (s.offerRequest f arrival) :=
    .of_eq (s.offerRequest_notice f arrival) (congrArg _ (s.offerRequest_session f arrival))
  unfold State.deliverRequest State.takeNext
  split
  · split
    · exact hoffer
    · exact hoffer.trans (State.takeRequest_noticesKept _ _)
  · exact hoffer

/-- At the lease expiry the destination is recomputed before SESSION_EXPIRED is judged (R141, R158). -/
theorem State.expireLease_noticesKept : s.NoticesKept s.expireLease := by
  have hend : s.NoticesKept s.endSession.recomputeDestination :=
    ⟨fun h => State.recomputeDestination_sound (s := s.endSession) h,
      fun _ => State.recomputeDestination_destination _⟩
  unfold State.expireLease
  split
  · exact .refl s
  · exact (hend.trans (State.listEvent_noticesKept _ _)).trans (State.trySend_noticesKept _)

theorem State.visitNext_noticesKept : s.NoticesKept s.visitNext := by
  unfold State.visitNext
  split
  · rename_i r source i cleared takenAt _
    have hclear : s.NoticesKept (if s.hasSource source i then s.setEntry i none else s) := by
      split <;> exact .of_eq rfl rfl
    dsimp only
    split
    · exact hclear.trans (.of_eq rfl rfl)
    · refine ((hclear.trans ?_).trans (State.answer_noticesKept _ r _)).trans (State.endTake_noticesKept _)
      exact .of_eq rfl rfl
  · exact .refl s

/-! ## DATA frames, routing and the end of a frame (R10 to R17, R23, R24) -/

theorem State.inTransit_noticesKept (p : Port) (f : Frame) : s.NoticesKept (s.inTransit p f) :=
  s.offerFrame_noticesKept _ _ _ _

theorem State.misaddress_noticesKept (p : Port) (f : Frame) : s.NoticesKept (s.misaddress p f) :=
  (s.returnBlocks_noticesKept _).trans (State.countPort_noticesKept _ p _)

theorem State.unlisted_noticesKept (p : Port) (f : Frame) : s.NoticesKept (s.unlisted p f) := by
  unfold State.unlisted
  split
  · exact (s.countPort_noticesKept p _).trans (State.offerFrame_noticesKept _ _ _ _ _)
  · exact (s.returnBlocks_noticesKept _).trans (State.countPort_noticesKept _ p _)

theorem State.carryOut_noticesKept (p : Port) (f : Frame) (r : StreamRecord) (x : Fate) :
    s.NoticesKept (s.carryOut p f r x) := by
  cases x with
  | passed => exact s.offerFrame_noticesKept _ _ _ _
  | demoted q => exact s.offerFrame_noticesKept _ _ _ _
  | discarded _ => exact s.returnBlocks_noticesKept _

theorem State.hit_noticesKept (p : Port) (f : Frame) (arrival : Ticks) (i : StreamIndex) (e : StreamEntry) :
    s.NoticesKept (s.hit p f arrival i e) := by
  unfold State.hit
  dsimp only
  split
  · refine .trans ?_ (eitherOrder_noticesKept (s.setEntry i _) (fun x => x.carryOut_noticesKept p f _ _)
      fun x => x.raise_noticesKept _)
    exact .of_eq rfl rfl
  · refine .trans ?_ (State.carryOut_noticesKept (s.setEntry i _) p f _ _)
    exact .of_eq rfl rfl

theorem State.classify_noticesKept (p : Port) (f : Frame) (arrival : Ticks) :
    s.NoticesKept (s.classify p f arrival) := by
  have hmiss : s.NoticesKept (s.miss p f) :=
    eitherOrder_noticesKept s (fun x => x.unlisted_noticesKept p f) fun x => x.raise_noticesKept _
  unfold State.classify
  split
  · exact hmiss
  · split
    · exact hmiss
    · exact s.hit_noticesKept p f arrival _ _

theorem State.broadcastCopy_noticesKept (p : Port) (f : Frame) : s.NoticesKept (s.broadcastCopy p f) := by
  unfold State.broadcastCopy
  obtain ⟨_, e⟩ | ⟨_, e⟩ := s.takeBlocks_spec f.blocks <;> rw [e]
  · refine .trans ?_ (State.inTransit_noticesKept _ p f)
    exact .of_eq rfl rfl
  · exact s.countPort_noticesKept p _

theorem State.routeControl_noticesKept (p : Port) (f : Frame) : s.NoticesKept (s.routeControl p f) := by
  unfold State.routeControl
  split
  · exact eitherOrder_noticesKept s (fun x => x.deliverRequest_noticesKept f p) fun x =>
      x.broadcastCopy_noticesKept p f
  · split
    · exact s.deliverRequest_noticesKept f p
    · exact s.inTransit_noticesKept p f

theorem State.route_noticesKept (p : Port) (f : Frame) (arrival : Ticks) : s.NoticesKept (s.route p f arrival) := by
  have htransit := s.inTransit_noticesKept p f
  have hmis := s.misaddress_noticesKept p f
  cases hk : f.kind <;> simp only [State.route, hk]
  case data =>
    split
    · exact hmis
    · exact s.classify_noticesKept p f arrival
  case beat =>
    unfold State.routeBeat
    split
    · exact eitherOrder_noticesKept s (fun x => x.inTransit_noticesKept p f) fun x => x.reportBeat_noticesKept arrival
    · exact htransit
  case control => exact s.routeControl_noticesKept p f
  case ack =>
    unfold State.routeAck
    split
    · exact (s.returnBlocks_noticesKept _).trans (State.takeAck_noticesKept _ _ _)
    · exact htransit
  case reply | notice =>
    split
    · exact hmis
    · exact htransit

theorem State.endFrame_noticesKept (p : Port) (bytes : List Byte) : s.NoticesKept (s.endFrame p bytes) := by
  have hidle : s.NoticesKept (s.setReceiver p .idle) := s.modPort_noticesKept p _
  unfold State.endFrame
  split
  · exact .refl s
  · exact hidle
  · split
    · unfold State.endReception
      dsimp only
      split
      · exact (hidle.trans (State.returnBlocks_noticesKept _ _)).trans (State.countPort_noticesKept _ p _)
      · exact (hidle.trans (State.returnBlocks_noticesKept _ _)).trans (State.countPort_noticesKept _ p _)
      · exact (hidle.trans (State.countPort_noticesKept _ p _)).trans (State.route_noticesKept _ p _ _)
    · exact .refl s

/-- A link-up at the destination's port tries a send (R2, R152). -/
theorem State.raiseLink_noticesKept (p : Port) : s.NoticesKept (s.raiseLink p) := by
  unfold State.raiseLink State.noticeLinkUp
  split
  · have hup := (s.modPort_noticesKept p fun P => { P with link := .up, linkPinHigh := false }).trans
      (State.trySelect_noticesKept _ p)
    split
    · exact hup.trans (State.trySend_noticesKept _)
    · exact hup
  · exact .refl s

end

/-! ## Every event and every step -/

theorem State.Effect.noticesKept {s u : State} (h : s.Effect u) : s.NoticesKept u := by
  have htime : ∀ t, s.NoticesKept { s with localTime := t } := fun _ => .of_eq rfl rfl
  have halone : ∀ {u : State}, u.notice = s.notice → u.session = s.session → s.NoticesKept u :=
    fun hn hx => .of_eq hn (congrArg _ hx)
  cases h with
  | nothing => exact .refl s
  | linkUp p => exact s.raiseLink_noticesKept p
  | linkDown p => exact halone (s.dropLink_notice p) (s.dropLink_session p)
  | frameStart p => exact halone (s.startFrame_notice p) (s.startFrame_session p)
  | headerCompletion p bytes => exact halone (s.completeHeader_notice p bytes) (s.completeHeader_session p bytes)
  | blockBoundary p bytes => exact halone (s.crossBoundary_notice p bytes) (s.crossBoundary_session p bytes)
  | surplusByte p bytes => exact halone (s.takeSurplus_notice p bytes) (s.takeSurplus_session p bytes)
  | endOfFrame p bytes => exact s.endFrame_noticesKept p bytes
  | completion p t => exact halone (State.completeTransmission_notice _ p) (State.completeTransmission_session _ p)
  | scheduledStart t => exact (htime t).trans (State.scheduledStart_noticesKept _)
  | windowChange p t =>
    exact ((htime t).trans (State.modPort_noticesKept _ p _)).trans (State.trySelect_noticesKept _ p)
  | leaseExpiry t => exact (htime t).trans (State.expireLease_noticesKept _)
  | retryExpiry t => exact (htime t).trans (State.retryExpired_noticesKept _)
  | purgeVisit => exact s.visitNext_noticesKept
  | take o => exact s.takeRequest_noticesKept o

/-- A reset Notice Unit with no session is sound (R148, R136). -/
theorem State.noticesSound_of_default {s : State} (hn : s.notice = NoticeUnit.default) (hx : s.session = none) :
    s.NoticesSound := by
  rw [State.noticesSound_iff, State.wantedDestination, hx, hn]
  exact ⟨NoticeUnit.default_sound, rfl⟩

theorem State.NoticesSound.settle {s : State} (h : s.NoticesSound) : s.settle.NoticesSound := by
  unfold State.settle
  split
  · exact State.noticesSound_of_default rfl rfl
  · exact h

theorem State.NoticesSound.exec {i : Instr} {s t : State} (h : s.NoticesSound) (ht : exec i s = .next t) :
    t.NoticesSound := by
  obtain ⟨station, held, rfl⟩ | rfl | ⟨u, hu, rfl⟩ := exec_spec ht
  · exact State.noticesSound_of_default rfl rfl
  · exact h
  · exact (hu.noticesKept.noticesSound h).settle

/-- Settles O9: every event keeps the laws of the list, because an event listed has no WAITING entry yet, a send finds
none in flight and a returned entry takes its twin in; and each change of holder or settings recomputes the
destination. -/
theorem everyStepKeepsNoticesSound : Obligations.EveryStepKeepsNoticesSound := by
  intro s t h ht
  obtain ⟨i, rest, _, e⟩ | ⟨_, e⟩ := step_spec s <;> rw [e] at ht
  · exact State.NoticesSound.exec (s := { s with pending := rest }) h ht
  · obtain e | e | e | ⟨i, e | e⟩ := idle_spec s <;> rw [e] at ht
    · cases ht; exact h
    · cases ht; exact h
    · cases ht; exact h
    · exact h.exec ht
    · exact State.NoticesSound.exec (s := s.draw.2) h ht

end Sys2Proof.Machine
end

section
/-! SUPPORT. Events at the Notice Unit (O42), and the send of the leading entry with what becomes of its frame
(O43). -/

namespace Sys2Proof.Machine

/-! ## The judgement of an event, case by case (R150, R157) -/

section
variable {n : NoticeUnit} {e : Event}

theorem any_isWaitingFor_eq_false {l : List NoticeEntry} :
    l.any (NoticeEntry.isWaitingFor e) = false ↔ ∀ y ∈ l, ¬ (y.status = .waiting ∧ y.event = e) := by
  simp only [List.any_eq_false, NoticeEntry.isWaitingFor_iff]

theorem NoticeUnit.judge_disabled (h : (n.settings.master && n.settings.enables e) = false) (now : Ticks)
    (index : CycleIndex) : n.judge e now index = n := by
  rw [NoticeUnit.judge, h]
  rfl

variable (h : (n.settings.master && n.settings.enables e) = true) (now : Ticks) (index : CycleIndex)
include h

/-- An enabled event counts in the first WAITING entry for it. -/
theorem NoticeUnit.judge_counts {before after : List NoticeEntry} {x : NoticeEntry}
    (hl : n.list = before ++ x :: after) (hx : x.isWaitingFor e = true)
    (hb : ∀ y ∈ before, y.isWaitingFor e = false) :
    n.judge e now index = { n with list := before ++ x.countOne :: after } := by
  have hany : n.list.any (NoticeEntry.isWaitingFor e) = true :=
    List.any_eq_true.2 ⟨x, hl ▸ List.mem_append_cons_self, hx⟩
  rw [NoticeUnit.judge, h, if_neg (by decide), if_pos hany, hl, changeFirst_append hb hx]

variable (hnone : n.list.any (NoticeEntry.isWaitingFor e) = false)
include hnone

theorem NoticeUnit.judge_appends (hl : n.list.length < 16) :
    n.judge e now index = { n with list := n.list ++ [⟨e, now, index, 1, .waiting, none⟩] } := by
  rw [NoticeUnit.judge, h, if_neg (by decide), if_neg (by simp [hnone]), if_neg (Nat.not_le.2 hl)]

theorem NoticeUnit.judge_loses (hl : 16 ≤ n.list.length) :
    n.judge e now index =
      { n.markLoss with counters := { n.counters with noticesLost := countUp n.counters.noticesLost } } := by
  rw [NoticeUnit.judge, h, if_neg (by decide), if_neg (by simp [hnone]), if_pos hl]

end

/-- The mark of an entry in flight goes, and nothing else of it (R157). -/
theorem NoticeEntry.clearMark_eq (x : NoticeEntry) :
    x.clearMark =
      match x.status with
      | .waiting => x
      | .inFlight attempts _ => { x with status := .inFlight attempts false } := by
  unfold NoticeEntry.clearMark
  cases x.status <;> rfl

/-- Settles O42, by the cases of R150 in their order. -/
theorem eventsAreListed : Obligations.EventsAreListed := by
  refine ⟨fun n e now index => ⟨fun h => NoticeUnit.judge_disabled h now index, fun h => ⟨?_, fun hnone => ⟨?_, ?_⟩⟩⟩,
    fun s e => rfl⟩
  · intro before x after hl hx he hb
    refine NoticeUnit.judge_counts h now index hl (NoticeEntry.isWaitingFor_iff.2 ⟨hx, he⟩) fun y hy => ?_
    rw [← Bool.not_eq_true, NoticeEntry.isWaitingFor_iff]
    exact hb y hy
  · exact NoticeUnit.judge_appends h now index (any_isWaitingFor_eq_false.2 hnone)
  · intro hl
    rw [NoticeUnit.judge_loses h now index (any_isWaitingFor_eq_false.2 hnone) hl]
    exact congrArg (fun l => { n with
      lostFlag := true
      counters := { n.counters with noticesLost := countUp n.counters.noticesLost }
      list := l }) (List.map_congr_left fun x _ => NoticeEntry.clearMark_eq x)

/-! ## A NOTICE frame on its way to Q3 (R153, R69, R71) -/

/-- The device as a notice goes out, its frame not yet offered: one block is taken, the list and the next number are
these, the timer runs one retry interval, and *sent* counts (R153, R156). -/
def State.noticeSent (s : State) (list : List NoticeEntry) (next : Half) : State :=
  { s with
    pool := s.pool - 1
    notice :=
      { s.notice with
        list := list
        nextNumber := next
        retryTimer := some (s.localTime + s.notice.settings.retryMs * 100000)
        counters := { s.notice.counters with sent := countUp s.notice.counters.sent } } }

section
variable {s : State} {p : Port} {f : Frame} {list : List NoticeEntry} {next : Half} (hf : f.blocks = 1)
  (hu : (s.port p).link = .up)
include hf hu

section
variable (hl : (s.queue p 3).blocks + 1 ≤ (s.queue p 3).limit)
include hl

theorem State.noticeSent_admitted :
    (s.noticeSent list next).offerNotice p f =
      if (s.plans.activePlan p).opens (s.port p).gate.window 3 = true then
        ((s.noticeSent list next).modQueue p 3 fun Q => Q.enqueued f s.timer.index .notice).trySelect p
      else (s.noticeSent list next).modQueue p 3 fun Q => Q.enqueued f s.timer.index .notice := by
  have hport : (s.noticeSent list next).port p = s.port p := by cases p <;> rfl
  have hjudge : (s.noticeSent list next).judgeOffer p 3 f = .admitted :=
    State.judgeOffer_admitted _ _ _ _ (hport ▸ hu) (by rw [State.queue, hport, hf]; exact hl)
  rw [State.offerNotice, if_neg (by rw [hjudge]; decide), State.offer, hjudge, State.enqueue_eq, hport]
  rfl

/-- With the transmitter SENDING no selection is made (R113). -/
theorem State.noticeSent_waits (ht : (s.port p).transmitter ≠ .idle) :
    (s.noticeSent list next).offerNotice p f =
      (s.noticeSent list next).modQueue p 3 fun Q => Q.enqueued f s.timer.index .notice := by
  have hport : (s.noticeSent list next).port p = s.port p := by cases p <;> rfl
  rw [State.noticeSent_admitted hf hu hl, State.trySelect_nothing, ite_self]
  refine .inl (Bool.eq_false_iff.2 fun hc => ht ?_)
  have hidle := (State.canSend_iff.1 hc).2
  rwa [State.modQueue_transmitter, hport] at hidle

end

/-- A refusal returns the block and raises QUEUE_OVERFLOW, which is judged (R69, log entry 15). -/
theorem State.noticeSent_full (hl : (s.queue p 3).limit < (s.queue p 3).blocks + 1) (hp : 1 ≤ s.pool) :
    (s.noticeSent list next).offerNotice p f =
      ({ s.noticeSent list next with
          pool := s.pool
          notice := (s.noticeSent list next).notice.judge (.queueOverflow p 3) s.localTime s.timer.index }
        : State).countQueue p 3 fun c => { c with droppedFull := countUp c.droppedFull } := by
  have hport : (s.noticeSent list next).port p = s.port p := by cases p <;> rfl
  have hjudge : (s.noticeSent list next).judgeOffer p 3 f = .full :=
    State.judgeOffer_full _ _ _ _ (hport ▸ hu) (by rw [State.queue, hport, hf]; exact hl)
  have hpool : (s.noticeSent list next).returnBlocks 1 = { s.noticeSent list next with pool := s.pool } :=
    congrArg (fun n => { s.noticeSent list next with pool := n }) (Nat.sub_add_cancel hp)
  rw [State.offerNotice, if_pos hjudge, State.offer, hjudge, hf, hpool,
    State.reportDeparture_other _ _ fun h => by cases h]
  cases p <;> rfl

end

/-! ## The send of the leading entry (R152 to R154) -/

section
variable {s : State} {dest : Requester} {x : NoticeEntry}

/-- An empty pool refuses the block of a NOTICE frame, and any other grants it (R64, R153). -/
theorem State.takeBlocks_notice_refused (h : s.pool = 0) : s.takeBlocks noticeBlocks = none :=
  if_neg (by rw [h]; decide)

theorem State.takeBlocks_notice_granted (h : 1 ≤ s.pool) :
    s.takeBlocks noticeBlocks = some { s with pool := s.pool - 1 } :=
  if_pos h

/-- With no block free the entry stays WAITING and the timer is started (R153). -/
theorem State.firstSend_refused (hp : s.pool = 0) :
    s.firstSend dest x =
      { s with
        notice := { s.notice with retryTimer := some (s.localTime + s.notice.settings.retryMs * 100000) } } := by
  rw [State.firstSend, State.takeBlocks_notice_refused hp]
  rfl

/-- With a block free the entry goes in flight and its frame is offered (R153, R154). -/
theorem State.firstSend_granted {before after : List NoticeEntry} {number next : Half} (hp : 1 ≤ s.pool)
    (hl : s.notice.list = before ++ x :: after) (hx : x.status = .waiting) (hb : ∀ y ∈ before, y.event ≠ x.event)
    (hnumber : x.number = none ∧ number = s.notice.nextNumber ∧ next = s.notice.nextNumber + 1
      ∨ x.number = some number ∧ next = s.notice.nextNumber) :
    s.firstSend dest x =
      (s.noticeSent
        (before ++ { x with status := .inFlight 1 s.notice.lostFlag, number := some number } :: after)
        next).offerNotice dest.port (s.noticeFrame dest.station x number) := by
  have hfirst : ∀ f, changeFirst (NoticeEntry.isWaitingFor x.event) f s.notice.list = before ++ f x :: after := by
    intro f
    rw [hl]
    refine changeFirst_append (fun y hy => ?_) (NoticeEntry.isWaitingFor_iff.2 ⟨hx, rfl⟩)
    rw [← Bool.not_eq_true, NoticeEntry.isWaitingFor_iff]
    exact fun hboth => hb y hy hboth.2
  have htaken : x.number.getD s.notice.nextNumber = number
      ∧ (if x.number.isNone then s.notice.nextNumber + 1 else s.notice.nextNumber) = next := by
    obtain ⟨hnone, rfl, rfl⟩ | ⟨hkeeps, rfl⟩ := hnumber
    · simp [hnone]
    · simp [hkeeps]
  rw [State.firstSend, State.takeBlocks_notice_granted hp]
  dsimp only
  rw [hfirst, htaken.1, htaken.2]
  rfl

end

/-- Settles O43: the send order is a stable sort of the WAITING entries; a try that may send nothing is none; and the
leading entry goes in flight, with its frame admitted, admitted behind a transmission, or refused. -/
theorem sendsTakeTheLeadingEntry : Obligations.SendsTakeTheLeadingEntry := by
  refine ⟨fun l => ⟨sendOrder_perm l, (sendOrder_pairwise l).imp NoticeEntry.mayPrecede_iff.1, fun k t => ?_⟩,
    fun s hnot => ?_, ?_⟩
  · rw [sendOrder_stable, List.filter_filter]
    · simp only [Bool.and_comm]
    · simp only [Bool.and_eq_true, beq_iff_eq, NoticeEntry.mayPrecede_iff]
      rintro x y ⟨hx, hxt⟩ ⟨hy, hyt⟩
      exact .inr ⟨hx.trans hy.symm, (hxt.trans hyt.symm).le⟩
  · obtain e | ⟨dest, x, hnext⟩ := s.trySend_spec
    · exact e
    · obtain ⟨others, hlead⟩ := hnext.leading
      obtain ⟨hmem, hwait⟩ := mem_of_sendOrder hlead
      obtain ⟨y, hy, hfly⟩ | hruns | hoff | hnone | ⟨d, hd, hdown⟩ | hall := hnot
      · exact absurd (NoticeEntry.isWaiting_iff.1 (hnext.waiting y hy)) hfly
      · exact absurd hnext.stopped hruns
      · rw [hnext.master] at hoff; cases hoff
      · rw [hnext.destination] at hnone; cases hnone
      · rw [hnext.destination] at hd; cases hd
        rw [hnext.up] at hdown; cases hdown
      · exact absurd (NoticeEntry.isWaiting_iff.1 hwait) (hall x hmem)
  · intro s sent d x before after waiting number next frame _ hwait hstop hmaster hdest hup hlead hl hb hnumber hsent
      hframe
    have hnext : s.SendsNext d x :=
      ⟨fun y hy => NoticeEntry.isWaiting_iff.2 (hwait y hy), hstop, hmaster, hdest, hup, waiting, hlead⟩
    have hx : x.status = .waiting := hwait x (mem_of_sendOrder hlead).1
    have hblocks : (s.noticeFrame d.station x number).blocks = 1 := noticeFrame_blocks s d.station x number
    have hframe' : frame = s.noticeFrame d.station x number := hframe
    have hsent' : sent = s.noticeSent _ next := hsent
    have hgranted : 1 ≤ s.pool → s.trySend = sent.offerNotice d.port frame := fun hp => by
      rw [hnext.trySend, State.firstSend_granted hp hl hx hb hnumber, hframe', hsent']
    rw [hframe'] at hgranted ⊢
    rw [hsent'] at hgranted ⊢
    refine ⟨fun hp => ?_, fun _ => s.trySend_onlySending, fun hp hq => ?_, fun hp ht hq => ?_, fun hp hq => ?_⟩
    · rw [hnext.trySend, State.firstSend_refused hp]
    · rw [hgranted hp, State.noticeSent_admitted hblocks hup hq]
    · rw [hgranted hp, State.noticeSent_waits hblocks hup hq ht]
    · rw [hgranted hp, State.noticeSent_full hblocks hup hq hp]

end Sys2Proof.Machine
end

section
/-! SUPPORT. Confirmation (O44) and the expiry of the retry timer (O45). -/

namespace Sys2Proof.Machine

/-! ## Confirmation (R155, R174) -/

/-- A 16-bit number at the front of a payload is the field that is read there (R174). -/
theorem fieldAt_half_append (x : Half) (rest : List Byte) :
    BitVec.ofNat 16 (fieldAt (beBytes 2 x.toNat ++ rest) 0 2) = x := by
  have htake : (beBytes 2 x.toNat ++ rest).take 2 = beBytes 2 x.toNat := List.take_left' (beBytes_length 2 _)
  rw [fieldAt, List.drop_zero, htake, natOfBytes_half, BitVec.ofNat_toNat, BitVec.setWidth_eq]

theorem NoticeEntry.matches_iff {x : NoticeEntry} {dest : Option Requester} {station : Half} {payload : List Byte} :
    x.matches dest station payload = true ↔
      x.status ≠ .waiting ∧ 2 ≤ payload.length ∧ dest.map Requester.station = some station
        ∧ x.number = some (BitVec.ofNat 16 (fieldAt payload 0 2)) := by
  cases dest <;> simp [NoticeEntry.matches, NoticeEntry.isInFlight_iff, and_assoc]

section
variable {s : State} {station : Half} {payload : List Byte}

/-- An ACK that no entry in flight matches is stray. -/
theorem State.takeAck_stray
    (h : ∀ x ∈ s.notice.list, x.status ≠ .waiting → payload.length < 2
      ∨ s.notice.destination.map Requester.station ≠ some station
      ∨ x.number ≠ some (BitVec.ofNat 16 (fieldAt payload 0 2))) :
    s.takeAck station payload =
      { s with
        notice :=
          { s.notice with
            counters := { s.notice.counters with stray := countUp s.notice.counters.stray } } } := by
  have hnone : (s.notice.list.find? fun x => x.matches s.notice.destination station payload) = none := by
    rw [List.find?_eq_none]
    intro x hx hmatch
    obtain ⟨hfly, hlen, hstation, hnumber⟩ := NoticeEntry.matches_iff.1 hmatch
    obtain hshort | hother | hother := h x hx hfly
    · exact absurd hlen (Nat.not_le.2 hshort)
    · exact hother hstation
    · exact hother hnumber
  rw [State.takeAck]
  simp only [hnone]

/-- An ACK that matches takes the entry in flight from the list. -/
theorem State.takeAck_confirms {before after : List NoticeEntry} {x : NoticeEntry} {attempts : Nat} {mark : Bool}
    (hl : s.notice.list = before ++ x :: after) (hx : x.status = .inFlight attempts mark)
    (hw : ∀ y ∈ before ++ after, y.isWaiting = true)
    (hmatch : x.matches s.notice.destination station payload = true) :
    s.takeAck station payload =
      ({ s with
        notice :=
          { s.notice with
            list := before ++ after
            retryTimer := none
            lostFlag := s.notice.lostFlag && !mark
            counters := { s.notice.counters with acked := countUp s.notice.counters.acked } } } : State).trySend := by
  have hfind : (s.notice.list.find? fun x => x.matches s.notice.destination station payload) = some x := by
    refine List.find?_eq_some_iff_append.2 ⟨hmatch, before, after, hl, fun y hy => ?_⟩
    rw [Bool.not_eq_true', ← Bool.not_eq_true, NoticeEntry.matches_iff]
    exact fun h => h.1 (NoticeEntry.isWaiting_iff.1 (hw y (List.mem_append_left _ hy)))
  have hkept : s.notice.list.filter NoticeEntry.isWaiting = before ++ after := by
    rw [hl, filter_isWaiting_around hw (NoticeEntry.isInFlight_of_status hx)]
  have hmark : x.lostMark = mark := by rw [NoticeEntry.lostMark, hx]
  rw [State.takeAck]
  simp only [hfind, hkept, hmark]

end

theorem State.received_notice (s : State) (p : Port) : (s.received p).notice = s.notice := State.modPort_notice _ _ _

/-- An ACK for the device gives its blocks back and goes to the Notice Unit (R16, log entry 11). -/
theorem State.Accepting.ack {s t : State} {p : Port} {bytes : List Byte} {f : Frame} (h : s.Accepting p bytes f)
    (hk : f.kind = .ack) (hd : f.dest = s.station)
    (ht : ({ s.received p with pool := s.pool + f.blocks } : State).takeAck f.src f.payload = t) :
    exec (.endOfFrame p bytes) s = .next t := by
  have hroute : (s.received p).route p f s.localTime = t := by
    rw [State.route, hk]
    dsimp only
    rw [State.routeAck, State.received_station, if_pos hd, ← ht, ← State.received_pool s p]
    rfl
  refine h.routed hroute ?_
  have hengine : ({ s.received p with pool := s.pool + f.blocks } : State).engine = s.engine := s.received_engine p
  obtain he | ⟨hr, _⟩ := (State.takeAck_kept { s.received p with pool := s.pool + f.blocks } f.src f.payload).state
  · rw [← ht, he, hengine]
  · exact absurd (hengine ▸ hr) h.plain.notResetting

/-- Settles O44: the ACK is routed to the Notice Unit, where the entry in flight matches it or it is stray. -/
theorem acksConfirm : Obligations.AcksConfirm := by
  intro s p bytes f h hk hd
  have hnotice := s.received_notice p
  refine ⟨fun before after x attempts mark d number rest hl hx hw hdest hsrc hnumber hpayload => ?_, fun hno => ?_⟩
  · have hmatch : x.matches s.notice.destination f.src f.payload = true := by
      refine NoticeEntry.matches_iff.2 ⟨by simp [hx], ?_, by rw [hdest, ← hsrc]; rfl, ?_⟩
      · rw [hpayload, List.length_append, beBytes_length]
        exact Nat.le_add_right 2 _
      · rw [hpayload, fieldAt_half_append, hnumber]
    refine h.ack hk hd ?_
    have hwait : ∀ y ∈ before ++ after, y.isWaiting = true := fun y hy => NoticeEntry.isWaiting_iff.2 (hw y hy)
    rw [State.takeAck_confirms (hnotice ▸ hl) hx hwait (hnotice ▸ hmatch)]
    cases p <;> rfl
  · refine h.ack hk hd ?_
    rw [State.takeAck_stray (hnotice ▸ hno)]
    cases p <;> rfl

/-! ## The expiry of the retry timer (R156) -/

section
variable {s : State} {before after : List NoticeEntry} {x : NoticeEntry} {attempts : Nat} {mark : Bool}

/-- With no entry in flight the expiry stops the timer and tries a send (R153). -/
theorem State.retryExpired_waiting (hw : ∀ y ∈ s.notice.list, y.isWaiting = true) :
    s.retryExpired = ({ s with notice := { s.notice with retryTimer := none } } : State).trySend := by
  simp only [State.retryExpired, find?_isInFlight_of_waiting hw]

variable (hl : s.notice.list = before ++ x :: after) (hw : ∀ y ∈ before ++ after, y.isWaiting = true)
  (hx : x.status = .inFlight attempts mark)
include hl hw hx

/-- An entry with more attempts than the limit is abandoned (R156). -/
theorem State.retryExpired_abandons (ha : s.notice.settings.retryLimit < attempts) :
    s.retryExpired =
      ({ s with
        notice :=
          { s.notice with
            list := before ++ after
            lostFlag := true
            retryTimer := none
            counters := { s.notice.counters with abandoned := countUp s.notice.counters.abandoned } } }
        : State).trySend := by
  have hfly := NoticeEntry.isInFlight_of_status hx
  have hfind : s.notice.list.find? NoticeEntry.isInFlight = some x := hl ▸ find?_isInFlight_around hw hfly
  have hkept : s.notice.list.filter NoticeEntry.isWaiting = before ++ after := hl ▸ filter_isWaiting_around hw hfly
  simp only [State.retryExpired, hfind, hx, if_neg (Nat.not_le.2 ha), State.abandonNotice, NoticeUnit.markLoss, hkept,
    map_clearMark_of_waiting hw]

/-- An entry with no more attempts than the limit is sent again (R156). -/
theorem State.retryExpired_retries (ha : attempts ≤ s.notice.settings.retryLimit) :
    s.retryExpired =
      ({ s with notice := { s.notice with retryTimer := none } } : State).retryNotice x attempts := by
  have hfind : s.notice.list.find? NoticeEntry.isInFlight = some x :=
    hl ▸ find?_isInFlight_around hw (NoticeEntry.isInFlight_of_status hx)
  simp only [State.retryExpired, hfind, hx, if_pos ha]

theorem changeFirst_retried (f : NoticeEntry → NoticeEntry) :
    changeFirst NoticeEntry.isInFlight f s.notice.list = before ++ f x :: after :=
  hl ▸ changeFirst_isInFlight_around hw (NoticeEntry.isInFlight_of_status hx) f

variable {d : Requester} (hd : s.notice.destination = some d)
include hd

/-- With the destination's port DOWN the attempt counts and no frame is built (R156). -/
theorem State.retryNotice_down (hdown : (s.port d.port).link = .down) :
    s.retryNotice x attempts =
      { s with
        notice :=
          { s.notice with
            list := before ++ { x with status := .inFlight (attempts + 1) mark } :: after
            retryTimer := some (s.localTime + s.notice.settings.retryMs * 100000) } } := by
  have hmark : x.lostMark = mark := by rw [NoticeEntry.lostMark, hx]
  simp only [State.retryNotice, hd, if_pos hdown, hmark, changeFirst_retried hl hw hx]
  rfl

variable (hup : (s.port d.port).link = .up)
include hup

omit hl hw hx in
/-- With the pool empty only the timer is started again (R156). -/
theorem State.retryNotice_refused (hp : s.pool = 0) :
    s.retryNotice x attempts =
      { s with
        notice := { s.notice with retryTimer := some (s.localTime + s.notice.settings.retryMs * 100000) } } := by
  simp only [State.retryNotice, hd, hup, reduceCtorEq, if_false, State.takeBlocks_notice_refused hp]
  rfl

/-- With a block free a frame is built anew and offered (R156). -/
theorem State.retryNotice_granted {number : Half} (hp : 1 ≤ s.pool) (hn : x.number = some number) :
    s.retryNotice x attempts =
      (s.noticeSent (before ++ { x with status := .inFlight (attempts + 1) s.notice.lostFlag } :: after)
        s.notice.nextNumber).offerNotice d.port (s.noticeFrame d.station x number) := by
  have hnumber : x.number.getD 0 = number := by rw [hn, Option.getD_some]
  simp only [State.retryNotice, State.noticeSent, hd, hup, reduceCtorEq, if_false,
    State.takeBlocks_notice_granted hp, hnumber, changeFirst_retried hl hw hx]
  rfl

end

/-- The event of the retry timer's expiry (log entry 5). -/
theorem State.Plain.retryExpiry {s : State} (h : s.Plain) {due : Ticks} (ht : s.notice.retryTimer = some due)
    (hf : s.First due) :
    exec .retryTimerExpiry s = .next ({ s with localTime := max s.localTime due } : State).retryExpired := by
  have hreached : s.whenReached s.notice.retryTimer State.retryExpired =
      ({ s with localTime := max s.localTime due } : State).retryExpired := by
    rw [ht, State.whenReached_first hf]
  refine (h.event (effect := fun s => s.whenReached s.notice.retryTimer State.retryExpired) ?_).trans
    (congrArg _ hreached)
  show (s.whenReached s.notice.retryTimer State.retryExpired).engine.state = _
  rw [hreached]
  obtain he | ⟨hr, _⟩ := (State.retryExpired_kept { s with localTime := max s.localTime due }).state
  · exact he
  · exact absurd hr h.notResetting

/-- Settles O45: the expiry is the model's, at its instant, by the attempts of the entry in flight and by what becomes
of the frame built anew. -/
theorem retryTimerExpires : Obligations.RetryTimerExpires := by
  intro s h
  refine ⟨?_, fun due ht hf hw => ?_, fun hnone => ?_⟩
  · rintro due now x attempts mark before after ht hf rfl hl hwait hx
    have hw : ∀ y ∈ before ++ after, y.isWaiting = true := fun y hy => NoticeEntry.isWaiting_iff.2 (hwait y hy)
    rw [h.retryExpiry ht hf]
    generalize max s.localTime due = now
    have hretry : ∀ {t : State}, attempts ≤ s.notice.settings.retryLimit →
        State.retryNotice { s with localTime := now, notice := { s.notice with retryTimer := none } } x attempts = t →
        (.next ({ s with localTime := now } : State).retryExpired : Host.Outcome State Fault Refusal) = .next t :=
      fun ha ht => congrArg _ ((State.retryExpired_retries (s := { s with localTime := now }) hl hw hx ha).trans ht)
    refine ⟨fun ha => ?_, fun ha d hd hdown => ?_, fun ha d hd hup hp => ?_, ?_⟩
    · exact congrArg _ (State.retryExpired_abandons (s := { s with localTime := now }) hl hw hx ha)
    · exact hretry ha (State.retryNotice_down hl hw hx hd hdown)
    · exact hretry ha (State.retryNotice_refused hd hup hp)
    · rintro ha d n again frame hd hup hp hn rfl rfl
      have hframe := noticeFrame_blocks { s with localTime := now } d.station x n
      have hgranted := hretry ha (State.retryNotice_granted
        (s := { s with localTime := now, notice := { s.notice with retryTimer := none } }) hl hw hx hd hup hp hn)
      refine ⟨fun hq => ?_, fun hbusy hq => ?_, fun hq => ?_⟩
      · exact hgranted.trans (congrArg _ (State.noticeSent_admitted hframe hup hq))
      · exact hgranted.trans (congrArg _ (State.noticeSent_waits hframe hup hq hbusy))
      · exact hgranted.trans (congrArg _ (State.noticeSent_full hframe hup hq hp))
  · rw [h.retryExpiry ht hf]
    exact congrArg _ (State.retryExpired_waiting fun y hy => NoticeEntry.isWaiting_iff.2 (hw y hy))
  · have hnothing : s.whenReached s.notice.retryTimer State.retryExpired = s := by rw [hnone]; rfl
    refine (h.event (effect := fun s => s.whenReached s.notice.retryTimer State.retryExpired) ?_).trans
      (congrArg _ hnothing)
    exact congrArg (fun t : State => t.engine.state) hnothing

end Sys2Proof.Machine
end

section
/-! SUPPORT. The change of destination (O46) and the notice settings (O58). -/

namespace Sys2Proof.Machine

/-! ## The entry in flight returns (R158) -/

section
variable {x : NoticeEntry} (hx : x.isInFlight = true)
include hx

section
variable {before after : List NoticeEntry} (hw : ∀ y ∈ before ++ after, y.status = .waiting ∧ y.event ≠ x.event)
include hw

theorem find?_noTwin : (before ++ x :: after).find? (NoticeEntry.isWaitingFor x.event) = none := by
  rw [List.find?_eq_none]
  intro y hy hfor
  obtain ⟨hwait, he⟩ := NoticeEntry.isWaitingFor_iff.1 hfor
  rcases List.mem_cons.1 (List.perm_middle.mem_iff.1 hy) with rfl | hy
  · exact NoticeEntry.isInFlight_iff.1 hx hwait
  · exact (hw y hy).2 he

/-- With no twin the entry returns in its place. -/
theorem returnInFlight_alone (tieIndex : CycleIndex) :
    returnInFlight (before ++ x :: after) x tieIndex = before ++ { x with status := .waiting } :: after := by
  rw [returnInFlight, find?_noTwin hx hw]
  exact changeFirst_isInFlight_around (fun y hy => NoticeEntry.isWaiting_iff.2 (hw y hy).1) hx _

end

section
variable {a b c : List NoticeEntry} {twin : NoticeEntry}
  (hw : ∀ y ∈ a ++ b ++ c, y.status = .waiting ∧ y.event ≠ x.event) (ht : twin.status = .waiting)
  (he : twin.event = x.event)
include hw ht he

theorem find?_twin : (a ++ x :: b ++ twin :: c).find? (NoticeEntry.isWaitingFor x.event) = some twin := by
  refine List.find?_eq_some_iff_append.2 ⟨NoticeEntry.isWaitingFor_iff.2 ⟨ht, he⟩, a ++ x :: b, c, rfl, fun y hy => ?_⟩
  rw [Bool.not_eq_true', ← Bool.not_eq_true, NoticeEntry.isWaitingFor_iff]
  rintro ⟨hwait, hevent⟩
  rcases List.mem_cons.1 (List.perm_middle.mem_iff.1 hy) with rfl | hy
  · exact NoticeEntry.isInFlight_iff.1 hx hwait
  · exact (hw y (List.mem_append_left c hy)).2 hevent

/-- The entry takes its twin in, in its own place. -/
theorem returnInFlight_twin (tieIndex : CycleIndex) :
    returnInFlight (a ++ x :: b ++ twin :: c) x tieIndex = a ++ x.merge twin tieIndex :: b ++ c := by
  have hstays : ∀ {l : List NoticeEntry}, (∀ y ∈ l, y.event ≠ x.event ∨ y.isInFlight = true) →
      l.filter (fun y => !y.isWaitingFor x.event) = l := by
    intro l hl
    refine List.filter_eq_self.2 fun y hy => ?_
    rw [Bool.not_eq_true', ← Bool.not_eq_true, NoticeEntry.isWaitingFor_iff]
    rintro ⟨hwait, hevent⟩
    exact (hl y hy).elim (fun h => h hevent) fun h => NoticeEntry.isInFlight_iff.1 h hwait
  have hkept : (a ++ x :: b ++ twin :: c).filter (fun y => !y.isWaitingFor x.event) = a ++ x :: (b ++ c) := by
    rw [List.filter_append, List.filter_cons_of_neg (by simp [NoticeEntry.isWaitingFor_iff, ht, he]),
      ← List.filter_append, hstays, List.append_assoc, List.cons_append]
    intro y hy
    rw [List.append_assoc, List.cons_append] at hy
    rcases List.mem_cons.1 (List.perm_middle.mem_iff.1 hy) with rfl | hy
    · exact .inr hx
    · exact .inl (hw y (by rwa [List.append_assoc])).2
  rw [returnInFlight, find?_twin hx hw ht he]
  dsimp only
  rw [hkept, changeFirst_isInFlight_around _ hx, List.append_assoc, List.cons_append]
  intro y hy
  exact NoticeEntry.isWaiting_iff.2 (hw y (by rwa [List.append_assoc])).1

end
end

/-- The index drawn for a tie is that of one of the two entries (log entry 1). -/
theorem State.drawTieIndex_fst (s : State) (x twin : NoticeEntry) :
    (s.drawTieIndex x twin).1 = x.firstIndex ∨ (s.drawTieIndex x twin).1 = twin.firstIndex := by
  unfold State.drawTieIndex
  split
  · exact ite_eq_or_eq _ _ _
  · exact .inl rfl

/-- An entry's own index makes no tie. -/
theorem State.drawTieIndex_self (s : State) (x : NoticeEntry) : s.drawTieIndex x x = (x.firstIndex, s) :=
  if_neg fun h => h.2 rfl

/-- The first occurrence of a merged entry is the earlier one, and its index one of the two (R158). -/
theorem NoticeEntry.merge_firstIndex (x twin : NoticeEntry) {tieIndex : CycleIndex}
    (h : tieIndex = x.firstIndex ∨ tieIndex = twin.firstIndex) :
    ((x.merge twin tieIndex).firstIndex = x.firstIndex ∨ (x.merge twin tieIndex).firstIndex = twin.firstIndex)
      ∧ (x.firstTime < twin.firstTime → (x.merge twin tieIndex).firstIndex = x.firstIndex)
      ∧ (twin.firstTime < x.firstTime → (x.merge twin tieIndex).firstIndex = twin.firstIndex) := by
  unfold NoticeEntry.merge
  dsimp only
  split_ifs with hlt hgt
  · exact ⟨.inl rfl, fun _ => rfl, fun hgt => absurd hlt hgt.asymm⟩
  · exact ⟨.inr rfl, fun hlt' => absurd hlt' hlt, fun _ => rfl⟩
  · exact ⟨h, fun hlt' => absurd hlt' hlt, fun hgt' => absurd hgt' hgt⟩

/-! ## The change of destination (R149, R158) -/

section
variable {s : State} (dest : Option Requester)

theorem State.changeDestination_waiting (hw : ∀ y ∈ s.notice.list, y.isWaiting = true) :
    s.changeDestination dest = { s with notice := { s.notice with destination := dest, retryTimer := none } } := by
  rw [State.changeDestination, find?_isInFlight_of_waiting hw]

theorem State.changeDestination_alone {before after : List NoticeEntry} {x : NoticeEntry}
    (hl : s.notice.list = before ++ x :: after) (hx : x.isInFlight = true)
    (hw : ∀ y ∈ before ++ after, y.status = .waiting ∧ y.event ≠ x.event) :
    s.changeDestination dest =
      { s with
        notice :=
          { s.notice with
            destination := dest
            retryTimer := none
            list := before ++ { x with status := .waiting } :: after } } := by
  have hfind : s.notice.list.find? NoticeEntry.isInFlight = some x :=
    hl ▸ find?_isInFlight_around (fun y hy => NoticeEntry.isWaiting_iff.2 (hw y hy).1) hx
  have hnone : s.notice.list.find? (NoticeEntry.isWaitingFor x.event) = none := hl ▸ find?_noTwin hx hw
  rw [State.changeDestination, hfind]
  dsimp only
  rw [hnone, Option.getD_none, State.drawTieIndex_self, hl, returnInFlight_alone hx hw]

/-- The entry in flight and its twin become one, under an index of one of the two (R158, log entry 1). -/
theorem State.changeDestination_merges {a b c : List NoticeEntry} {x twin : NoticeEntry}
    (hl : s.notice.list = a ++ x :: b ++ twin :: c) (hx : x.isInFlight = true)
    (hw : ∀ y ∈ a ++ b ++ c, y.status = .waiting ∧ y.event ≠ x.event) (ht : twin.status = .waiting)
    (he : twin.event = x.event) :
    ∃ tieIndex, (tieIndex = x.firstIndex ∨ tieIndex = twin.firstIndex)
      ∧ (s.changeDestination dest).notice =
          { s.notice with
            destination := dest
            retryTimer := none
            list := a ++ x.merge twin tieIndex :: b ++ c } := by
  have hfind : s.notice.list.find? NoticeEntry.isInFlight = some x := by
    rw [hl, List.append_assoc, List.cons_append]
    refine find?_isInFlight_around (fun y hy => ?_) hx
    rw [← List.append_assoc] at hy
    rcases List.mem_cons.1 (List.perm_middle.mem_iff.1 hy) with rfl | hy
    · exact NoticeEntry.isWaiting_iff.2 ht
    · exact NoticeEntry.isWaiting_iff.2 (hw y hy).1
  refine ⟨_, s.drawTieIndex_fst x twin, ?_⟩
  rw [State.changeDestination, hfind]
  dsimp only
  rw [hl, find?_twin hx hw ht he, Option.getD_some, returnInFlight_twin hx hw ht he]

end

/-- Settles O46: the entry in flight returns with its twin, without one, or there is none; and the destination
recomputed is the one R149 gives. -/
theorem destinationChangesMerge : Obligations.DestinationChangesMerge := by
  refine ⟨?_, ?_, fun s dest hw => ?_, ?_⟩
  · intro s dest x twin attempts mark a b c hl hx hw ht he
    obtain ⟨tieIndex, htie, hnotice⟩ :=
      s.changeDestination_merges dest hl (NoticeEntry.isInFlight_of_status hx) hw ht he
    obtain ⟨hindex, hearlier, hlater⟩ := x.merge_firstIndex twin htie
    exact ⟨_, hindex, hearlier, hlater, hnotice⟩
  · intro s dest x attempts mark before after hl hx hw
    exact s.changeDestination_alone dest hl (NoticeEntry.isInFlight_of_status hx) hw
  · exact s.changeDestination_waiting dest fun y hy => NoticeEntry.isWaiting_iff.2 (hw y hy)
  · rintro s wanted rfl
    rfl

/-! ## The operands of NOTICE_SET (R159, R172) -/

/-- The standing destination that the station and port bytes of NOTICE_SET operands name, if they are in range. -/
def standingOf (own : Half) (ops : List Byte) : Option (Option Requester) :=
  if fieldAt ops 3 2 = 0 then some none
  else
    match portOf (byteAt ops 5) with
    | some p =>
      checked (isStation (fieldAt ops 3 2) && fieldAt ops 3 2 != own.toNat)
        (some ⟨BitVec.ofNat 16 (fieldAt ops 3 2), p⟩)
    | none => none

theorem noticeSettingsOf_eq (own : Half) (ops : List Byte) :
    noticeSettingsOf own ops =
      (standingOf own ops).bind fun x =>
        checked (fieldAt ops 1 2 < 256 && 1 ≤ fieldAt ops 6 2 && fieldAt ops 6 2 ≤ 1000 && (byteAt ops 8).toNat ≤ 15)
          ⟨flagOf (byteAt ops 0), BitVec.ofNat 8 (fieldAt ops 1 2), x, fieldAt ops 6 2, (byteAt ops 8).toNat⟩ := by
  have hstanding : noticeSettingsOf own ops =
      match standingOf own ops with
      | some x =>
        checked (fieldAt ops 1 2 < 256 && 1 ≤ fieldAt ops 6 2 && fieldAt ops 6 2 ≤ 1000 && (byteAt ops 8).toNat ≤ 15)
          ⟨flagOf (byteAt ops 0), BitVec.ofNat 8 (fieldAt ops 1 2), x, fieldAt ops 6 2, (byteAt ops 8).toNat⟩
      | none => none := rfl
  rw [hstanding]
  cases standingOf own ops <;> rfl

section
variable {own : Half} {ops : List Byte} {kinds station ms : Nat} (hkinds : fieldAt ops 1 2 = kinds)
  (hstation : fieldAt ops 3 2 = station) (hms : fieldAt ops 6 2 = ms)

include hstation in
theorem standingOf_eq_none
    (h : station ≠ 0 ∧ (station = 0xFFFF ∨ station = own.toNat ∨ 1 < (byteAt ops 5).toNat)) :
    standingOf own ops = none := by
  subst hstation
  obtain ⟨h0, h⟩ := h
  unfold standingOf
  rw [if_neg h0]
  split
  · rename_i p hp
    rw [checked_eq_none]
    obtain h | h | h := h
    · simp [h, isStation]
    · simp [h]
    · rw [portOf_eq_none.2 h] at hp
      cases hp
  · rfl

include hstation in
theorem standingOf_eq_some {x : Option Requester}
    (h : station = 0 ∧ x = none
      ∨ 1 ≤ station ∧ station ≤ 0xFFFE ∧ station ≠ own.toNat ∧
        ∃ p, byteAt ops 5 = portByte p ∧ x = some ⟨BitVec.ofNat 16 station, p⟩) :
    standingOf own ops = some x := by
  subst hstation
  unfold standingOf
  obtain ⟨h0, rfl⟩ | ⟨hlo, hhi, hown, p, hp, rfl⟩ := h
  · rw [if_pos h0]
  · rw [if_neg (by omega), portOf_eq_some.2 hp]
    exact checked_eq_some.2 ⟨by simp [isStation, hlo, hhi, hown], rfl⟩

include hkinds hstation hms

/-- Any field out of range refuses the settings (R159, R172). -/
theorem noticeSettingsOf_eq_none
    (h : 255 < kinds ∨ ms = 0 ∨ 1000 < ms ∨ 15 < (byteAt ops 8).toNat
      ∨ station ≠ 0 ∧ (station = 0xFFFF ∨ station = own.toNat ∨ 1 < (byteAt ops 5).toNat)) :
    noticeSettingsOf own ops = none := by
  have hrange : 255 < kinds ∨ ms = 0 ∨ 1000 < ms ∨ 15 < (byteAt ops 8).toNat ∨ standingOf own ops = none :=
    h.imp_right (Or.imp_right (Or.imp_right (Or.imp_right (standingOf_eq_none hstation))))
  rw [noticeSettingsOf_eq, Option.bind_eq_none_iff]
  intro x hx
  rw [checked_eq_none, hkinds, hms]
  simp only [hx, reduceCtorEq, or_false] at hrange
  simp only [Bool.and_eq_false_iff, decide_eq_false_iff_not]
  omega

/-- Settings with every field in range are read field by field (R159, R172). -/
theorem noticeSettingsOf_eq_some {x : NoticeSettings} (hk : kinds ≤ 255) (hlo : 1 ≤ ms) (hhi : ms ≤ 1000)
    (hlimit : (byteAt ops 8).toNat ≤ 15)
    (hstanding : station = 0 ∧ x.standing = none
      ∨ 1 ≤ station ∧ station ≤ 0xFFFE ∧ station ≠ own.toNat ∧
        ∃ p, byteAt ops 5 = portByte p ∧ x.standing = some ⟨BitVec.ofNat 16 station, p⟩)
    (hxm : x.master = (byteAt ops 0 != 0)) (hxk : x.kinds.toNat = kinds) (hxr : x.retryMs = ms)
    (hxl : x.retryLimit = (byteAt ops 8).toNat) : noticeSettingsOf own ops = some x := by
  rw [noticeSettingsOf_eq, standingOf_eq_some hstation hstanding, Option.bind_some, checked_eq_some, hkinds, hms]
  refine ⟨by simp only [Bool.and_eq_true, decide_eq_true_eq]; omega, ?_⟩
  obtain ⟨master, bits, standing, retryMs, retryLimit⟩ := x
  dsimp only at hxm hxk hxr hxl
  rw [hxm, hxr, hxl, ← hxk, BitVec.ofNat_toNat, BitVec.setWidth_eq]
  rfl

end

/-! ## NOTICE_SET at step 6 (R159, R160) -/

/-- The device with these settings in place and the WAITING entries of the kinds that are not enabled gone (R160). -/
def State.withSettings (s : State) (x : NoticeSettings) : State :=
  { s with
    notice :=
      { s.notice with
        settings := x
        list := s.notice.list.filter fun y =>
          y.status != NoticeStatus.waiting || x.kinds.getLsbD (y.event.priority - 1) } }

section
variable (s : State) (x : NoticeSettings)

theorem State.setNotices_eq :
    s.setNotices x =
      if s.notice.destination = (s.withSettings x).wantedDestination then (s.withSettings x).trySend
      else ((s.withSettings x).changeDestination (s.withSettings x).wantedDestination).trySend :=
  apply_ite State.trySend _ _ _

theorem State.setNotices_onlySending {dest : Option Requester} (hd : (s.withSettings x).wantedDestination = dest) :
    ({ s with notice := { s.notice with settings := x, destination := dest } } : State).OnlySending
      (s.setNotices x) := by
  subst hd
  refine .trans ?_ (((s.withSettings x).recomputeDestination_onlySending).trans (State.trySend_onlySending _))
  exact State.notice_onlySending _ _ rfl rfl

/-- With the master disabled and the destination unchanged the settings and the removal are all (R150, R152). -/
theorem State.setNotices_masterOff (hm : x.master = false)
    (hd : s.notice.destination = (s.withSettings x).wantedDestination) : s.setNotices x = s.withSettings x := by
  rw [State.setNotices_eq, if_pos hd]
  obtain e | ⟨_, _, hnext⟩ := (s.withSettings x).trySend_spec
  · exact e
  · exact absurd (hm.symm.trans hnext.master) (by decide)

theorem State.setNotices_engine (h : s.engine.state ≠ .resetting) : (s.setNotices x).engine.state = s.engine.state :=
  (s.setNotices_kept x).state.resolve_right fun hr => h hr.1

end

/-- The holder at step 6 is the holder before the take, so R149 gives the same destination (R138, R149). -/
theorem State.atStep6_withSettings_wantedDestination (s : State) (r : Request) (rest : List Request)
    (x : NoticeSettings) :
    ((s.atStep6 r rest).withSettings x).wantedDestination =
      match s.session with
      | some y => some y.holder
      | none => x.standing :=
  State.wantedDestination_congr (s := s.withSettings x) (s.atStep6_holder r rest) rfl

/-- Settles O58: the operands are read field by field; step 6 sets the settings, removes, recomputes the destination
and tries a send, and the answer follows. -/
theorem noticeSettingsChange : Obligations.NoticeSettingsChange := by
  intro s r rest kinds station ms h hkinds hstation hms
  have hstate := s.atStep6_state r rest
  refine ⟨fun hrange => ?_, fun x hk hlo hhi hlimit hstanding hxm hxk hxr hxl => ?_⟩
  · refine h.event (serve := serveNoticeSet) (a := ⟨.badValue, []⟩) ?_ hstate
    rw [serveNoticeSet, s.atStep6_station, noticeSettingsOf_eq_none hkinds hstation hms hrange]
  · have hserve : serveNoticeSet r (s.atStep6 r rest) =
        ((s.atStep6 r rest).setNotices x, some ⟨.ok, s.notice.settings.bytes⟩) := by
      rw [serveNoticeSet, s.atStep6_station, s.atStep6_notice,
        noticeSettingsOf_eq_some hkinds hstation hms hk hlo hhi hlimit hstanding hxm hxk hxr hxl]
    obtain ⟨t, ht, ha⟩ := h.event hserve
      ((State.setNotices_engine _ x (by rw [hstate]; decide)).trans hstate)
    have hwanted := s.atStep6_withSettings_wantedDestination r rest x
    have hnotice := s.atStep6_notice r rest
    refine ⟨⟨t, _, ht, ?_, ha⟩, fun hm hd => ⟨t, ht, ?_⟩, ?_⟩
    · rw [← hnotice]
      exact State.setNotices_onlySending _ x hwanted
    · rw [State.setNotices_masterOff _ x hm (by rw [hwanted, hnotice]; exact hd), State.withSettings, hnotice] at ha
      exact ha
    · rintro w dest rfl rfl
      refine ⟨t, ht, ?_⟩
      rw [State.setNotices_eq, hwanted, State.withSettings, hnotice] at ha
      exact ha

end Sys2Proof.Machine
end

section
/-! SUPPORT. The counter sets (section 10.1) and COUNTER_READ (O59). -/

namespace Sys2Proof.Machine

/-! ## Groups and selectors (R165, R172) -/

theorem indexOf_eq {b : Byte} {i : StreamIndex} : indexOf b = i ↔ b.toNat = i.val := Fin.ext_iff

/-- The set that a group byte and a selector name: group by group, as in the table of section 10.1. -/
theorem counterSetOf_eq_some {group high low : Byte} {c : CounterSet} :
    counterSetOf group high low = some c ↔
      ((∃ p, group = 0x01 ∧ high = portByte p ∧ c = .port p)
        ∨ (∃ i : StreamIndex, group = 0x02 ∧ high = 0x00 ∧ low.toNat = i.val ∧ c = .stream i)
        ∨ (∃ (p : Port) (q : QueueNo), group = 0x03 ∧ high = portByte p ∧ low.toNat = q.val ∧ c = .queue p q)
        ∨ (∃ p, group = 0x04 ∧ high = portByte p ∧ c = .gate p)
        ∨ (high = 0x00 ∧ low = 0x00
            ∧ (group = 0x05 ∧ c = .beat ∨ group = 0x06 ∧ c = .management ∨ group = 0x07 ∧ c = .notice))) := by
  constructor
  · intro h
    unfold counterSetOf at h
    split_ifs at h with hport hstream hhigh hqueue hgate hbeat hsel hmanagement hsel hnotice hsel
    · obtain ⟨p, hp, rfl⟩ := Option.map_eq_some_iff.1 h
      exact .inl ⟨p, hport, portOf_eq_some.1 hp, rfl⟩
    · cases h
      exact .inr (.inl ⟨_, hstream, hhigh, indexOf_eq.1 rfl, rfl⟩)
    · split at h
      · rename_i p q hp hq
        cases h
        exact .inr (.inr (.inl ⟨p, q, hqueue, portOf_eq_some.1 hp, queueOf_eq_some.1 hq, rfl⟩))
      · cases h
    · obtain ⟨p, hp, rfl⟩ := Option.map_eq_some_iff.1 h
      exact .inr (.inr (.inr (.inl ⟨p, hgate, portOf_eq_some.1 hp, rfl⟩)))
    · cases h
      exact .inr (.inr (.inr (.inr ⟨hsel.1, hsel.2, .inl ⟨hbeat, rfl⟩⟩)))
    · cases h
      exact .inr (.inr (.inr (.inr ⟨hsel.1, hsel.2, .inr (.inl ⟨hmanagement, rfl⟩)⟩)))
    · cases h
      exact .inr (.inr (.inr (.inr ⟨hsel.1, hsel.2, .inr (.inr ⟨hnotice, rfl⟩)⟩)))
  · rintro (⟨p, rfl, hp, rfl⟩ | ⟨i, rfl, rfl, hi, rfl⟩ | ⟨p, q, rfl, hp, hq, rfl⟩ | ⟨p, rfl, hp, rfl⟩ |
      ⟨rfl, rfl, ⟨rfl, rfl⟩ | ⟨rfl, rfl⟩ | ⟨rfl, rfl⟩⟩)
    · exact Option.map_eq_some_iff.2 ⟨p, portOf_eq_some.2 hp, rfl⟩
    · exact congrArg (fun i => some (CounterSet.stream i)) (indexOf_eq.2 hi)
    · simp [counterSetOf, portOf_eq_some.2 hp, queueOf_eq_some.2 hq]
    · exact Option.map_eq_some_iff.2 ⟨p, portOf_eq_some.2 hp, rfl⟩
    · rfl
    · rfl
    · rfl

/-! ## The device but for its counters

A clear changes nothing that is no counter (R166): with every counter erased, the state before it and the state after it
are the same. -/

/-- A queue with its counters erased. -/
def Queue.uncounted (Q : Queue) : Queue := { Q with counters := QueueCounters.zero }

/-- An entry with its counters erased. -/
def StreamEntry.uncounted (e : StreamEntry) : StreamEntry := { e with counters := StreamCounters.zero }

/-- A port with the counters of its PORT, QUEUE and GATE groups erased. -/
def PortState.uncounted (P : PortState) : PortState :=
  { P with
    queues := P.queues.map Queue.uncounted
    gate := { P.gate with overruns := 0 }
    counters := PortCounters.zero }

/-- The device with the counters of all seven groups erased. -/
def State.uncounted (s : State) : State :=
  { s with
    portU := s.portU.uncounted
    portD := s.portD.uncounted
    table := s.table.map (Option.map StreamEntry.uncounted)
    beat := { s.beat with counters := BeatCounters.zero }
    engine := { s.engine with counters := ManagementCounters.zero }
    notice := { s.notice with counters := NoticeCounters.zero } }

section
variable (s : State)

theorem State.uncounted_port (p : Port) : s.uncounted.port p = (s.port p).uncounted := by cases p <;> rfl

theorem State.uncounted_queue (p : Port) (q : QueueNo) : s.uncounted.queue p q = (s.queue p q).uncounted := by
  unfold State.queue
  rw [State.uncounted_port]
  exact Vector.getElem_map ..

theorem State.uncounted_entry (i : StreamIndex) : s.uncounted.entry i = (s.entry i).map StreamEntry.uncounted :=
  Vector.getElem_map ..

/-- A vector in which one element is replaced by one with the same image has the same image. -/
theorem map_set_of_image_eq {α β : Type} {n : Nat} (v : Vector α n) (i : Fin n) (x : α) (g : α → β) (h : g x = g v[i]) :
    (v.set i x).map g = v.map g := by
  have hget : g x = (v.map g)[i.val] := h.trans (Vector.getElem_map ..).symm
  rw [Vector.map_set, hget, Vector.set_getElem_self]

theorem State.modPort_uncounted (p : Port) {f : PortState → PortState}
    (h : (f (s.port p)).uncounted = (s.port p).uncounted) : (s.modPort p f).uncounted = s.uncounted := by
  cases p with
  | u => exact congrArg (fun P => { s.uncounted with portU := P }) h
  | d => exact congrArg (fun P => { s.uncounted with portD := P }) h

theorem State.setEntry_uncounted (i : StreamIndex) {x : Option StreamEntry}
    (h : x.map StreamEntry.uncounted = (s.entry i).map StreamEntry.uncounted) :
    (s.setEntry i x).uncounted = s.uncounted :=
  congrArg (fun table => { s.uncounted with table := table }) (map_set_of_image_eq s.table i x _ h)

theorem State.clearSet_uncounted (c : CounterSet) : (s.clearSet c).uncounted = s.uncounted := by
  cases c with
  | port p => exact s.modPort_uncounted p rfl
  | stream i => exact s.setEntry_uncounted i (by cases s.entry i <;> rfl)
  | queue p q =>
    have hqueues := map_set_of_image_eq (s.port p).queues q
      { (s.port p).queues[q] with counters := QueueCounters.zero } Queue.uncounted rfl
    exact s.modPort_uncounted p (congrArg (fun queues => { (s.port p).uncounted with queues := queues }) hqueues)
  | gate p => exact s.modPort_uncounted p rfl
  | beat | management | notice => rfl

@[simp] theorem State.clearSet_engineState (c : CounterSet) : (s.clearSet c).engine.state = s.engine.state :=
  congrArg (·.engine.state) (s.clearSet_uncounted c)

theorem State.clearSet_port_uncounted (c : CounterSet) (p : Port) :
    ((s.clearSet c).port p).uncounted = (s.port p).uncounted := by
  rw [← State.uncounted_port, s.clearSet_uncounted, State.uncounted_port]

theorem State.clearSet_queue_uncounted (c : CounterSet) (p : Port) (q : QueueNo) :
    ((s.clearSet c).queue p q).uncounted = (s.queue p q).uncounted := by
  rw [← State.uncounted_queue, s.clearSet_uncounted, State.uncounted_queue]

theorem State.clearSet_entry_uncounted (c : CounterSet) (i : StreamIndex) :
    ((s.clearSet c).entry i).map StreamEntry.uncounted = (s.entry i).map StreamEntry.uncounted := by
  rw [← State.uncounted_entry, s.clearSet_uncounted, State.uncounted_entry]

/-! ## What a clear does to each set (R166) -/

theorem State.clearSet_portCounters (c : CounterSet) (p : Port) :
    ((s.clearSet c).port p).counters = if .port p = c then PortCounters.zero else (s.port p).counters := by
  cases c with
  | port p' | gate p' | queue p' => cases p <;> cases p' <;> rfl
  | stream i | beat | management | notice => rfl

theorem State.clearSet_overruns (c : CounterSet) (p : Port) :
    ((s.clearSet c).port p).gate.overruns = if .gate p = c then 0 else (s.port p).gate.overruns := by
  cases c with
  | port p' | gate p' | queue p' => cases p <;> cases p' <;> rfl
  | stream i | beat | management | notice => rfl

theorem State.clearSet_queueCounters (c : CounterSet) (p : Port) (q : QueueNo) :
    ((s.clearSet c).queue p q).counters = if .queue p q = c then QueueCounters.zero else (s.queue p q).counters := by
  cases c with
  | port p' | gate p' => cases p <;> cases p' <;> rfl
  | queue p' q' =>
    by_cases h : p = p' ∧ q = q'
    · obtain ⟨rfl, rfl⟩ := h
      simp [State.clearSet, State.countQueue]
    · have hne : p ≠ p' ∨ q ≠ q' := not_and_or.1 h
      rw [if_neg (by simpa using h), State.clearSet, State.countQueue, State.modQueue_queue_ne _ _ _ _ _ _ hne]
  | stream i | beat | management | notice => rfl

theorem State.clearSet_entry (c : CounterSet) (i : StreamIndex) :
    (s.clearSet c).entry i = if .stream i = c then (s.entry i).map StreamEntry.uncounted else s.entry i := by
  cases c with
  | port p | gate p | queue p => cases p <;> rfl
  | stream j =>
    by_cases h : i = j
    · subst h
      rw [if_pos rfl]
      exact s.setEntry_entry i _
    · rw [if_neg (by simpa using h)]
      exact s.setEntry_entry_ne j i _ h
  | beat | management | notice => rfl

theorem State.clearSet_beatCounters (c : CounterSet) :
    (s.clearSet c).beat.counters = if .beat = c then BeatCounters.zero else s.beat.counters := by
  cases c with
  | port p | gate p | queue p => cases p <;> rfl
  | stream i | beat | management | notice => rfl

theorem State.clearSet_managementCounters (c : CounterSet) :
    (s.clearSet c).engine.counters = if .management = c then ManagementCounters.zero else s.engine.counters := by
  cases c with
  | port p | gate p | queue p => cases p <;> rfl
  | stream i | beat | management | notice => rfl

theorem State.clearSet_noticeCounters (c : CounterSet) :
    (s.clearSet c).notice.counters = if .notice = c then NoticeCounters.zero else s.notice.counters := by
  cases c with
  | port p | gate p | queue p => cases p <;> rfl
  | stream i | beat | management | notice => rfl

/-- A clear sets every member of its set to 0 and leaves the members of every other set (R166). -/
theorem State.clearSet_members (c d : CounterSet) :
    (s.clearSet c).members d =
      if d = c then (s.members d).map (List.map fun _ => 0) else s.members d := by
  cases d with
  | port p => rw [State.members, s.clearSet_portCounters]; split_ifs <;> rfl
  | stream i =>
    rw [State.members, s.clearSet_entry]
    split_ifs
    · simp only [State.members, Option.map_map]; rfl
    · rfl
  | queue p q => rw [State.members, s.clearSet_queueCounters]; split_ifs <;> rfl
  | gate p => rw [State.members, s.clearSet_overruns]; split_ifs <;> rfl
  | beat => rw [State.members, s.clearSet_beatCounters]; split_ifs <;> rfl
  | management => rw [State.members, s.clearSet_managementCounters]; split_ifs <;> rfl
  | notice => rw [State.members, s.clearSet_noticeCounters]; split_ifs <;> rfl

end

/-! ## Step 6 of COUNTER_READ (R166) -/

theorem flagByte_flagOf (b : Byte) : flagByte (flagOf b) = if b = 0 then 0x00 else 0x01 := by
  by_cases h : b = 0 <;> simp [flagByte, flagOf, h]

section
variable {s : State} {r : Request}

theorem serveCounterRead_noSet
    (h : counterSetOf (byteAt r.operands 0) (byteAt r.operands 1) (byteAt r.operands 2) = none) :
    serveCounterRead r s = (s, some ⟨.badValue, []⟩) := by
  rw [serveCounterRead, h]

variable {c : CounterSet} (h : counterSetOf (byteAt r.operands 0) (byteAt r.operands 1) (byteAt r.operands 2) = some c)
include h

theorem serveCounterRead_free (hm : s.members c = none) : serveCounterRead r s = (s, some ⟨.notFound, []⟩) := by
  simp only [serveCounterRead, h, hm]

theorem serveCounterRead_reads {values : List Nat} (hm : s.members c = some values) :
    serveCounterRead r s =
      (if byteAt r.operands 3 = 0 then s else s.clearSet c,
        some ⟨.ok, counterResults r.operands s.localTime values⟩) := by
  by_cases hclear : byteAt r.operands 3 = 0 <;> simp [serveCounterRead, h, hm, flagOf, hclear]

end

/-- Settles O59: the sets by their selectors, their members by definition, step 6 by its three answers, and a clear by
the members of each set and by the device with its counters erased. -/
theorem counterReadsClearOneSet : Obligations.CounterReadsClearOneSet := by
  refine ⟨fun group high low c => counterSetOf_eq_some, fun s => ?_, fun s r rest htake => ⟨fun hno => ?_, fun c hc =>
    ⟨fun hfree => ?_, fun values hvalues => ?_⟩⟩, fun s c d values hvalues => ?_⟩
  · refine ⟨?_, fun i hi => ?_, ?_, ?_, fun p => rfl, ?_, ?_, ?_⟩
    · rintro p _ rfl; rfl
    · rw [State.members, hi]; rfl
    · rintro i e _ he rfl
      rw [State.members, he]; rfl
    · rintro p q _ rfl; rfl
    · rintro _ rfl; rfl
    · rintro _ rfl; rfl
    · rintro _ rfl; rfl
  · exact htake.event (serveCounterRead_noSet hno) (s.atStep6_state r rest)
  · exact htake.event (serveCounterRead_free hc hfree) (s.atStep6_state r rest)
  · refine htake.event_results (serveCounterRead_reads hc hvalues) ?_ ?_
    · split_ifs <;> simp
    · rw [counterResults, flagByte_flagOf, s.atStep6_localTime]; rfl
  · have hkept : (s.clearSet c).uncounted = s.uncounted := s.clearSet_uncounted c
    refine ⟨⟨values.map fun _ => 0, ?_, List.length_map _, by simp⟩, fun hd => ?_, congrArg (·.pool) hkept,
      congrArg (·.timer) hkept, congrArg (·.plans) hkept, congrArg (·.session) hkept,
      congrArg (·.localTime) hkept, congrArg (·.engine.queue) hkept, congrArg (·.engine.memory) hkept,
      s.clearSet_engineState c, congrArg (fun t => { t.notice with counters := s.notice.counters }) hkept,
      congrArg (fun t => { t.beat with counters := s.beat.counters }) hkept, s.clearSet_entry_uncounted c, fun p => ?_⟩
    · rw [State.clearSet_members, if_pos rfl, hvalues, Option.map_some]
    · rw [State.clearSet_members, if_neg hd]
    · have hport := s.clearSet_port_uncounted c p
      exact ⟨congrArg (·.link) hport, congrArg (·.receiver) hport, congrArg (·.transmitter) hport,
        congrArg (·.unlisted) hport, congrArg (·.gate) hport, s.clearSet_queue_uncounted c p⟩

end Sys2Proof.Machine
end

section
/-! SUPPORT. The cold reset, released and held (R175, R130, O15). -/

namespace Sys2Proof.Machine

/-- The sum of R130 does not wrap: the highest address is FC3Fh. -/
theorem stationOf_toNat (straps : BitVec 6) : (stationOf straps).toNat = 0xFC00 + straps.toNat := by
  have hlt := straps.isLt
  have hbase : Config.stationBase.toNat = 0xFC00 := rfl
  simp only [stationOf, BitVec.toNat_add, BitVec.toNat_setWidth, hbase]
  omega

theorem State.coldReset_port (station : Half) (p : Port) : (State.coldReset station).port p = PortState.coldReset := by
  cases p <;> rfl

theorem State.coldReset_entry (station : Half) (i : StreamIndex) : (State.coldReset station).entry i = none :=
  State.reset_entry i

/-- Every command but the two of the cold reset is an event of the device. -/
theorem exec_eq_runEvent {i : Instr} (hc : ∀ straps, i ≠ .coldReset straps) (hr : i ≠ .resetNAsserted) :
    ∃ effect, ∀ s, exec i s = runEvent s effect := by
  cases i
  case coldReset straps => exact absurd rfl (hc straps)
  case resetNAsserted => exact absurd rfl hr
  all_goals exact ⟨_, fun _ => rfl⟩

/-- A held device does nothing at any command but the two of the cold reset (log entry 6). -/
theorem exec_held {i : Instr} {s : State} (h : s.resetHeld = true) (hc : ∀ straps, i ≠ .coldReset straps)
    (hr : i ≠ .resetNAsserted) : exec i s = .next s := by
  obtain ⟨effect, he⟩ := exec_eq_runEvent hc hr
  rw [he, runEvent_held s effect h]

/-- Settles O15: both resets leave the cold reset state, under the sampled station address or the old one, and a held
device has no events. -/
theorem resetsStartTheDevice : Obligations.ResetsStartTheDevice := by
  refine ⟨fun straps s => ?_, fun s => ?_, fun i s h hc hr => exec_held h hc hr⟩
  · exact ⟨_, rfl, stationOf_toNat straps, rfl, rfl, rfl, rfl, State.coldReset_port (stationOf straps),
      State.coldReset_entry (stationOf straps), rfl, rfl, rfl, rfl, rfl, rfl, rfl⟩
  · exact ⟨_, rfl, rfl, State.coldReset_port s.station, rfl, rfl⟩

end Sys2Proof.Machine
end

section
/-! SUPPORT. No event touches the queue of waiting commands (log entry 7): notices, the work of a cycle, requests and
their takes. -/

namespace Sys2Proof.Machine

/-! ## Free orders (log entry 1) -/

theorem eitherOrder_pending {f g : State → State} (s : State) (hf : ∀ x : State, (f x).pending = x.pending)
    (hg : ∀ x : State, (g x).pending = x.pending) : (eitherOrder f g s).pending = s.pending :=
  eitherOrder_preserves (P := fun t => t.pending = s.pending) ((hg _).trans (hf _)) ((hf _).trans (hg _))

section
variable (s : State)

/-! ## Notices (chapter 9) -/

theorem State.changeDestination_pending (dest : Option Requester) :
    (s.changeDestination dest).pending = s.pending :=
  (s.changeDestination_onlySending dest).pending

theorem State.recomputeDestination_pending : s.recomputeDestination.pending = s.pending :=
  s.recomputeDestination_onlySending.pending

theorem State.updateDestination_pending : s.updateDestination.pending = s.pending :=
  s.updateDestination_onlySending.pending

theorem State.setNotices_pending (x : NoticeSettings) : (s.setNotices x).pending = s.pending :=
  (State.trySend_onlySending _).pending.trans (State.recomputeDestination_pending _)

theorem State.expireLease_pending : s.expireLease.pending = s.pending := by
  cases hx : s.session with
  | none => simp [State.expireLease, hx]
  | some x => exact (State.expireLease_onlySending hx).pending

/-! ## Cycles and beats (chapter 5) -/

theorem State.scheduledStart_pending : s.scheduledStart.pending = s.pending :=
  s.scheduledStart_eachDone.handsOn.sending.pending

theorem State.Judged.pending {s u : State} {now : Ticks} (h : s.Judged now u) : u.pending = s.pending := by
  cases h <;> rfl

theorem State.reportBeat_pending (now : Ticks) : (s.reportBeat now).pending = s.pending := by
  obtain ⟨u, hjudged, hhands⟩ := s.reportBeat_judged now
  exact hhands.sending.pending.trans hjudged.pending

/-! ## Requests (chapters 7 and 8) -/

theorem State.clearSet_pending (c : CounterSet) : (s.clearSet c).pending = s.pending := by
  cases c <;> simp [State.clearSet]

theorem serveSessionOpen_pending (r : Request) : (serveSessionOpen r s).1.pending = s.pending := by
  unfold serveSessionOpen
  dsimp only
  split
  · rfl
  · split
    · split <;> rfl
    · exact State.updateDestination_pending _

theorem serveCounterRead_pending (r : Request) : (serveCounterRead r s).1.pending = s.pending := by
  unfold serveCounterRead
  split
  · rfl
  · split
    · rfl
    · dsimp only
      split
      · exact s.clearSet_pending _
      · rfl

/-- Step 6 of every request leaves the queue of commands. -/
theorem Op.serve_pending (o : Op) (r : Request) : (o.serve r s).1.pending = s.pending := by
  cases o
  case sessionOpen => exact serveSessionOpen_pending s r
  case sessionClose => exact State.updateDestination_pending _
  case counterRead => exact serveCounterRead_pending s r
  case noticeSet =>
    simp only [Op.serve, serveNoticeSet]
    split
    · exact s.setNotices_pending _
    · rfl
  case unlistedSet =>
    simp only [Op.serve, serveUnlistedSet]
    split
    · exact s.modPort_pending _ _
    · rfl
  case queueSet =>
    simp only [Op.serve, serveQueueSet]
    split
    · split
      · exact s.modQueue_pending _ _ _
      · rfl
    · rfl
  case beatSet | streamWrite | streamState | streamReset | streamFind | streamPurge | sessionKeep | queueRead |
      planHeader | planWindows | planRead | planRevert | planCommit | planCancel =>
    simp only [Op.serve, serveBeatSet, serveStreamWrite, serveStreamState, serveStreamReset, serveStreamFind,
      serveStreamPurge, serveSessionKeep, serveQueueRead, servePlanHeader, servePlanWindows, servePlanRead,
      servePlanRevert, servePlanCommit, servePlanCancel]
    repeat' split
    all_goals rfl
  case identify | unitReset | streamClear | streamRead | timeRead | noticeRead => rfl

theorem serveOf_pending (o : Option Op) (r : Request) : (serveOf o r s).1.pending = s.pending := by
  cases o with
  | none => rfl
  | some o => exact o.serve_pending s r

/-! ## Takes (R120, R125) -/

theorem State.answer_pending (r : Request) (a : Answer) : (s.answer r a).pending = s.pending :=
  (State.sendReply_onlySending _ _ _).pending

theorem State.endTake_pending : s.endTake.pending = s.pending := by
  unfold State.endTake
  split <;> rfl

theorem State.handle_pending (o : Option Op) (r : Request) : (s.handle o (serveOf o) r).pending = s.pending := by
  unfold State.handle
  split
  · exact s.answer_pending r _
  · exact (State.sendReply_onlySending _ _ _).pending.trans (s.renewLease_pending _)
  · have hserve := (serveOf_pending (s.renewLease r.requester) o r).trans (s.renewLease_pending _)
    split <;> rename_i t he <;> rw [he] at hserve
    · exact (State.answer_pending _ r _).trans hserve
    · exact hserve

theorem State.takeRequest_pending (o : Option Op) : (s.takeRequest o (serveOf o)).pending = s.pending := by
  unfold State.takeRequest
  split
  · rename_i r rest _ _
    split
    · exact (State.endTake_pending _).trans (State.handle_pending (s.takeHead r rest) o r)
    · rfl
  · rfl

theorem State.offerRequest_pending (f : Frame) (arrival : Port) :
    (s.offerRequest f arrival).pending = s.pending := by
  unfold State.offerRequest
  split
  · rfl
  · split <;> rfl

theorem State.deliverRequest_pending (f : Frame) (arrival : Port) :
    (s.deliverRequest f arrival).pending = s.pending := by
  have hoffer := s.offerRequest_pending f arrival
  unfold State.deliverRequest State.takeNext
  split
  · split
    · exact hoffer
    · exact (State.takeRequest_pending _ _).trans hoffer
  · exact hoffer

/-! ## The purge walk (R35) -/

theorem State.visited_pending (source : Half) (i : StreamIndex) : (s.visited source i).pending = s.pending := by
  unfold State.visited
  split <;> rfl

theorem State.visitNext_pending : s.visitNext.pending = s.pending := by
  unfold State.visitNext
  split
  · rename_i r source i cleared takenAt _
    have hvisited := s.visited_pending source i
    dsimp only
    split
    · exact hvisited
    · exact ((State.endTake_pending _).trans (State.answer_pending _ r _)).trans hvisited
  · rfl

end

end Sys2Proof.Machine
end

section
/-! SUPPORT. The events of the line leave the queue of waiting commands too, so every command does; and every command
and every step answers a next state (log entry 7, O1, O2). -/

namespace Sys2Proof.Machine

section
variable (s : State)

/-! ## Routing (R13 to R17, R23, R24) -/

theorem State.inTransit_pending (p : Port) (f : Frame) : (s.inTransit p f).pending = s.pending :=
  (s.offerFrame_onlySending _ _ _ _).pending

theorem State.misaddress_pending (p : Port) (f : Frame) : (s.misaddress p f).pending = s.pending := by
  simp [State.misaddress]

theorem State.unlisted_pending (p : Port) (f : Frame) : (s.unlisted p f).pending = s.pending := by
  unfold State.unlisted
  split
  · exact (State.offerFrame_onlySending _ _ _ _ _).pending.trans (s.countPort_pending p _)
  · exact State.countPort_pending _ p _

theorem State.classify_pending (p : Port) (f : Frame) (arrival : Ticks) :
    (s.classify p f arrival).pending = s.pending := by
  have hmiss : (s.miss p f).pending = s.pending :=
    eitherOrder_pending s (fun x => x.unlisted_pending p f) fun x => (x.raise_onlySending _).pending
  unfold State.classify
  split
  · exact hmiss
  · split
    · exact hmiss
    · exact (State.hit_onlySending rfl).pending

theorem State.broadcastCopy_pending (p : Port) (f : Frame) : (s.broadcastCopy p f).pending = s.pending := by
  unfold State.broadcastCopy
  split
  · exact s.countPort_pending p _
  · rename_i t ht
    exact (t.inTransit_pending p f).trans (State.takeBlocks_onlySending ht).pending

theorem State.routeControl_pending (p : Port) (f : Frame) : (s.routeControl p f).pending = s.pending := by
  unfold State.routeControl
  split
  · exact eitherOrder_pending s (fun x => x.deliverRequest_pending f p) fun x => x.broadcastCopy_pending p f
  · split
    · exact s.deliverRequest_pending f p
    · exact s.inTransit_pending p f

theorem State.route_pending (p : Port) (f : Frame) (arrival : Ticks) : (s.route p f arrival).pending = s.pending := by
  unfold State.route
  split
  case h_1 =>
    split
    · exact s.misaddress_pending p f
    · exact s.classify_pending p f arrival
  case h_2 =>
    unfold State.routeBeat
    split
    · exact eitherOrder_pending s (fun x => x.inTransit_pending p f) fun x => x.reportBeat_pending arrival
    · exact s.inTransit_pending p f
  case h_3 => exact s.routeControl_pending p f
  case h_6 =>
    unfold State.routeAck
    split
    · exact (State.takeAck_onlySending _ _ _).pending
    · exact s.inTransit_pending p f
  all_goals
    split
    · exact s.misaddress_pending p f
    · exact s.inTransit_pending p f

/-! ## Reception (R6 to R10) -/

theorem State.abandon_pending (p : Port) (bytes : List Byte) (f : PortCounters → PortCounters) :
    (s.abandon p bytes f).pending = s.pending := by
  simp [State.abandon]

theorem State.startFrame_pending (p : Port) : (s.startFrame p).pending = s.pending := by
  unfold State.startFrame
  split
  · split
    · rename_i t ht
      exact (t.setReceiver_pending p _).trans (State.takeBlocks_onlySending ht).pending
    · simp
  · rfl

theorem State.completeHeader_pending (p : Port) (bytes : List Byte) :
    (s.completeHeader p bytes).pending = s.pending := by
  unfold State.completeHeader
  split
  · split_ifs <;> simp [State.abandon_pending]
  · rfl

theorem State.crossBoundary_pending (p : Port) (bytes : List Byte) : (s.crossBoundary p bytes).pending = s.pending := by
  unfold State.crossBoundary
  split
  · split_ifs <;> simp [State.abandon_pending]
  · rfl

theorem State.takeSurplus_pending (p : Port) (bytes : List Byte) : (s.takeSurplus p bytes).pending = s.pending := by
  unfold State.takeSurplus
  split
  · split_ifs <;> simp [State.abandon_pending]
  · rfl

theorem State.endReception_pending (p : Port) (old all : List Byte) :
    (s.endReception p old all).pending = s.pending := by
  unfold State.endReception
  dsimp only
  split
  · simp
  · simp
  · exact (State.route_pending _ p _ _).trans (by simp)

theorem State.endFrame_pending (p : Port) (bytes : List Byte) : (s.endFrame p bytes).pending = s.pending := by
  unfold State.endFrame
  split
  · rfl
  · exact s.setReceiver_pending p _
  · split
    · exact s.endReception_pending p _ _
    · rfl

/-! ## Transmission, windows and links (R2, R3, R18, R110) -/

theorem State.completeTransmission_pending (p : Port) : (s.completeTransmission p).pending = s.pending := by
  unfold State.completeTransmission
  split
  · rfl
  · exact (State.trySelect_onlySending _ p).pending.trans (by simp)

theorem State.changeWindow_pending (p : Port) : (s.changeWindow p).pending = s.pending :=
  (State.trySelect_onlySending _ p).pending.trans (s.modPort_pending p _)

theorem State.raiseLink_pending (p : Port) : (s.raiseLink p).pending = s.pending := by
  have hup : ∀ f, ((s.modPort p f).trySelect p).pending = s.pending := fun f =>
    (State.trySelect_onlySending _ p).pending.trans (s.modPort_pending p f)
  unfold State.raiseLink State.noticeLinkUp
  split
  · split
    · exact (State.trySend_onlySending _).pending.trans (hup _)
    · exact hup _
  · rfl

theorem State.dropLink_pending (p : Port) : (s.dropLink p).pending = s.pending := by
  cases hl : (s.port p).link with
  | down => rw [s.dropLink_down p hl]
  | up => rw [s.dropLink_eq p hl]; exact s.modPort_pending p _

/-! ## Every command and every step -/

theorem State.settle_pending : s.settle.pending = s.pending := by
  unfold State.settle
  split <;> rfl

theorem State.Effect.pending {s u : State} (h : s.Effect u) : u.pending = s.pending := by
  cases h with
  | nothing => rfl
  | linkUp p => exact s.raiseLink_pending p
  | linkDown p => exact s.dropLink_pending p
  | frameStart p => exact s.startFrame_pending p
  | headerCompletion p bytes => exact s.completeHeader_pending p bytes
  | blockBoundary p bytes => exact s.crossBoundary_pending p bytes
  | surplusByte p bytes => exact s.takeSurplus_pending p bytes
  | endOfFrame p bytes => exact s.endFrame_pending p bytes
  | completion p t => exact State.completeTransmission_pending _ p
  | scheduledStart t => exact State.scheduledStart_pending _
  | windowChange p t => exact State.changeWindow_pending _ p
  | leaseExpiry t => exact State.expireLease_pending _
  | retryExpiry t => exact (State.retryExpired_onlySending _).pending
  | purgeVisit => exact s.visitNext_pending
  | take o => exact s.takeRequest_pending o

theorem exec_pending {i : Instr} {s t : State} (h : exec i s = .next t) : t.pending = s.pending := by
  obtain ⟨station, held, rfl⟩ | rfl | ⟨u, hu, rfl⟩ := exec_spec h
  · rfl
  · rfl
  · exact u.settle_pending.trans hu.pending

theorem runEvent_next (effect : State → State) : ∃ t, runEvent s effect = .next t := by
  unfold runEvent
  split <;> exact ⟨_, rfl⟩

/-- A cold reset answers its state, and every other command is an event of the device. -/
theorem exec_next (i : Instr) : ∃ t, exec i s = .next t := by
  by_cases hc : ∃ straps, i = .coldReset straps
  · obtain ⟨straps, rfl⟩ := hc
    exact ⟨_, rfl⟩
  · by_cases hr : i = .resetNAsserted
    · subst hr
      exact ⟨_, rfl⟩
    · obtain ⟨effect, he⟩ := exec_eq_runEvent (fun straps e => hc ⟨straps, e⟩) hr
      rw [he]
      exact runEvent_next s effect

theorem step_next : ∃ t, step s = .next t := by
  obtain ⟨i, rest, _, e⟩ | ⟨_, e⟩ := step_spec s <;> rw [e]
  · exact exec_next _ i
  · obtain e | e | e | ⟨i, e | e⟩ := idle_spec s <;> rw [e]
    · exact ⟨_, rfl⟩
    · exact ⟨_, rfl⟩
    · exact ⟨_, rfl⟩
    · exact exec_next s i
    · exact exec_next _ i

end

/-- Settles O2: an event is its effect, settled, and no effect touches the queue; the resets keep it by their
definition; and a step is a command's, a tick, or nothing. -/
theorem everyCommandAnswersNext : Obligations.EveryCommandAnswersNext := by
  refine ⟨fun i s => ?_, step_next⟩
  obtain ⟨t, ht⟩ := exec_next s i
  exact ⟨t, ht, exec_pending ht⟩

/-- Settles O1: a step on a queue with a command at its front is, by the definition of the step, that command's
execution. -/
theorem stepRunsTheFrontCommand : Obligations.StepRunsTheFrontCommand := fun _ _ _ => rfl

end Sys2Proof.Machine
end
